-- ==== Sys2Proof/Word.lean ====
section
/-! DEFINITION. The word types of the part: bytes and fields of two and four bytes (10.1). -/

namespace Sys2Proof

/-- One byte, on either link. -/
abbrev Byte := BitVec 8

/-- A field of two bytes that the spec compares or wraps: an epoch, a sequence number, a CRC. -/
abbrev Half := BitVec 16

/-- A field of four bytes: a cycle number, a line-clock value. -/
abbrev Word := BitVec 32

end Sys2Proof
end

