-- ==== Sys2Proof/Syntax.lean ====
section
/-! DEFINITION. The commands: one constructor for each row of spec/opcode_table.json, in its order.

A request row is the TAKING of that request by the request interpreter (R162). Its operands are the bytes of the
body that the oldest ACCEPTED entry of the request buffer holds; the docstring gives them as section 10.3 does. -/

namespace Sys2Proof

/-- R12: what the line shows about an OPEN slot, as the interface of one node meets it: the four ways to contend. -/
inductive OpenLine where
  /-- A lead begins in the window before the node's own start, this many byte times after the window opened. -/
  | leadSeen (after : Nat)
  /-- No lead has begun in the window and the line is quiet at the node's own start. -/
  | quiet
  /-- A frame that began before the window is on the line at the node's own start. -/
  | busy
  /-- The line is recessive but not yet quiet at the node's own start; it becomes quiet, or a lead begins, this many byte
  times after that start. -/
  | quietAfter (after : Nat)
  deriving DecidableEq, Repr

/-- R12: the window of an OPEN slot that opens: the start of its entry, and what the line shows up to the window's close. -/
structure OpenSlotWindow where
  start : Nat
  line : OpenLine
  deriving DecidableEq, Repr

/-- A step of the part (spec/95_what_each_step_holds.md: each whole and indivisible). -/
inductive Instr where
  /-- IDENTIFY (R38), code 01, no body. -/
  | identify
  /-- SET_NODE (R20), code 02: address, role. -/
  | setNode
  /-- SET_CYCLE (R39), code 03: cycle length (2). -/
  | setCycle
  /-- GO_ONLINE (R21), code 04, no body. -/
  | goOnline
  /-- GO_OFFLINE (R22), code 05, no body. -/
  | goOffline
  /-- RESET_NODE (R41), code 06, no body. -/
  | resetNode
  /-- READ_SYNC (R40), code 07, no body. -/
  | readSync
  /-- STAGE_BEGIN (R46), code 10: cycle length (2). -/
  | stageBegin
  /-- STAGE_ADD (R47), code 11: count, entries (9 each). -/
  | stageAdd
  /-- STAGE_REMOVE (R50), code 12: start (2). -/
  | stageRemove
  /-- STAGE_CLOSE (R51), code 13: epoch (2). -/
  | stageClose
  /-- STAGE_DISCARD (R53), code 14, no body. -/
  | stageDiscard
  /-- READ_SCHEDULE (R56), code 15: bank, first position, count. -/
  | readSchedule
  /-- COMMIT (R61), code 16: activation cycle (4). -/
  | commit
  /-- CANCEL (R64), code 17, no body. -/
  | cancel
  /-- BIND_CHANNEL (R80), code 20: channel, label, direction, length, report flag, miss limit, stale limit. -/
  | bindChannel
  /-- UNBIND_CHANNEL (R82), code 21: channel. -/
  | unbindChannel
  /-- WRITE_CHANNEL (R86), code 22: channel, value. -/
  | writeChannel
  /-- READ_CHANNEL (R94), code 23: channel. -/
  | readChannel
  /-- READ_CHANNELS (R95), code 24: count, channels. -/
  | readChannels
  /-- SEND_MESSAGE (R104), code 30: destination, class, total length (2), first piece. -/
  | sendMessage
  /-- MESSAGE_PIECE (R106), code 31: id, offset (2), piece. -/
  | messagePiece
  /-- ABORT_MESSAGE (R107), code 32: id. -/
  | abortMessage
  /-- READ_OUTBOUND (R108), code 33, no body. -/
  | readOutbound
  /-- SET_GROUPS (R122), code 40: count, group ids. -/
  | setGroups
  /-- READ_MESSAGE (R141), code 41: handle, offset (2), count. -/
  | readMessage
  /-- RELEASE_MESSAGE (R142), code 42: handle. -/
  | releaseMessage
  /-- READ_INBOUND (R143), code 43, no body. -/
  | readInbound
  /-- NOTICE_MASK (R149), code 50: count, kind codes. -/
  | noticeMask
  /-- ACK_NOTICES (R152), code 51: sequence number (2). -/
  | ackNotices
  /-- READ_COUNTS (R18), code 60: clear option. -/
  | readCounts
  /-- BAD_REQUEST (R162): the taking of a request whose command code names no request. -/
  | badRequest
  /-- HOST_FRAME_RECEIVED (R160): bytes that arrive from the host, in order. -/
  | hostFrameReceived (bytes : List Byte)
  /-- BREAK (R159): HRX low for 20 bit times in UART mode. -/
  | lineBreak
  /-- FRAMING_FAULT (R159): a character with a low stop bit that is no break. -/
  | framingFault
  /-- GAP (R159): 320 bit times without a character inside a frame. -/
  | gap
  /-- SEL_NEGATED (R158): the end of an SPI transaction. -/
  | selNegated
  /-- OUTBOUND_SELECT (R164): the selector's chance to begin a frame. -/
  | outboundSelect
  /-- REPLY_SENT (R163): the last byte of a reply frame has been sent. -/
  | replySent
  /-- POWER_ON_RESET (R41, R157): power-on or RESET, with the levels of MODE, RATE1 and RATE0 (true is high). -/
  | powerOnReset (mode rate1 rate0 : Bool)
  /-- CLAIM_WINDOW_EXPIRES (R26). -/
  | claimWindowExpires
  /-- CYCLE_START (R23). -/
  | cycleStart
  /-- CONFLICT_EPISODE_END (R28): the cycle start at which the quiet count reaches 8. -/
  | conflictEpisodeEnd
  /-- MESSAGE_STARVED (R114): the cycle start at which the starve count reaches 32. -/
  | messageStarved
  /-- MESSAGE_CONTENTION (R114): the cycle start at which cycles since won reaches 48. -/
  | messageContention
  /-- ABORT_ATTEMPTS_EXHAUSTED (R117): the cycle start at which the abort attempt count reaches 16. -/
  | abortAttemptsExhausted
  /-- CONTEXT_TIMEOUT (R135): a cycle start at which the idle cycles of a context reach 64. -/
  | contextTimeout
  /-- COMPLETION_RECORD_LAPSE (R133): a cycle start at which the count of a completion record reaches 64. -/
  | completionRecordLapse
  /-- TRUNK_FRAME_RECEIVED (R3): the arrival stamp, and the bytes on the line from the lead until it falls quiet. -/
  | trunkFrameReceived (stamp : Word) (bytes : List Byte)
  /-- CYCLE_START_WINDOW_CLOSES (R7): the window closes with no frame begun, result ABSENT. -/
  | cycleStartWindowCloses
  /-- SYNC_LOST (R32): the missed cycle start at which a member's miss count reaches 8. -/
  | syncLost
  /-- TAKEOVER (R34): the missed cycle start at which a deferring master's miss count reaches 8. -/
  | takeover
  /-- SYNC_LOCKED (R30): the received frame that is the third of a candidate run. -/
  | syncLocked (stamp : Word) (bytes : List Byte)
  /-- CYCLIC_SLOT_START (R10), for the entry with this start. -/
  | cyclicSlotStart (start : Nat)
  /-- CYCLIC_SLOT_END (R11), for the entry with this start. -/
  | cyclicSlotEnd (start : Nat)
  /-- CHANNEL_LOST (R91): the slot end at which a consume channel enters LOST. -/
  | channelLost (start : Nat)
  /-- OPEN_SLOT_WINDOW_OPENS (R12), for the entry with this start. -/
  | openSlotWindowOpens (slot : OpenSlotWindow)
  /-- SEGMENT_WON (R112): the outcome WON of the segment being sent. -/
  | segmentWon
  /-- SEGMENT_LOST (R113): the outcome LOST. -/
  | segmentLost
  /-- SEGMENT_DISTURBED (R113): the outcome DISTURBED. -/
  | segmentDisturbed
  /-- MESSAGE_TRUNK_FAULT (R113): the outcome DISTURBED at which the disturbed count reaches 16. -/
  | messageTrunkFault
  /-- OWN_FRAME_MISMATCH (R4): a mismatch in an own cycle start or cyclic frame. -/
  | ownFrameMismatch
  /-- OWN_FRAME_SENT (R4): an own cycle start or cyclic frame ends without a mismatch. -/
  | ownFrameSent
  /-- NOTICE_FRAME_SENT (R164): the last byte of a NOTICE frame has been sent. -/
  | noticeFrameSent
  /-- BREAK_END (R159): HRX returns high after a break. -/
  | breakEnd
  deriving DecidableEq, Repr

end Sys2Proof
end

