-- ==== Sys2Proof/Decode.lean ====
section
/-! DEFINITION. The command that a word spells by the bits of spec/opcode_table.json. The table gives bits for no row
(the part has no instruction words), so no word spells a command. The frames of the two links, which do have bytes,
are read in Machine/Frames.lean. -/

namespace Sys2Proof

/-- The command a word of nbits bits spells: none, for every word. -/
def decodeTableWord (_nbits _w : Nat) : Option Instr := none

end Sys2Proof
end

