-- ==== Sys2Proof/Config.lean ====
section
/-! DEFINITION. The fixed quantities of the part, each with the rule that states it.
The spec leaves no value free, so nothing here is opaque. -/

namespace Sys2Proof.Config

/-- R26: the claim window, in byte times. -/
def claimWindow : Nat := 60000

/-- R23, R24, R39, R46: the least and greatest usable cycle length. -/
def minCycle : Nat := 250
/-- R23, R24, R39, R46. -/
def maxCycle : Nat := 25000

/-- Section 2.10: the bare cycle length after power-on and after a node reset. -/
def bareReset : Nat := 2500

/-- R32, R34: the miss count at which a follower gives the cycle up. -/
def missLimit : Nat := 8

/-- R28: the quiet count at which a conflict episode ends. -/
def quietLimit : Nat := 8

/-- R49: the least start of an entry, clear of the cycle start region. -/
def firstStart : Nat := 24

/-- R6, R49: byte times left clear before the end of a cycle. -/
def endClear : Nat := 8

/-- R42: the length of an OPEN slot. -/
def openLength : Nat := 64

/-- R42: the most entries in a bank. -/
def bankSize : Nat := 64

/-- R79: the number of channel records. -/
def channelCount : Nat := 32

/-- R2: the longest frame, a cyclic frame with 64 payload bytes, in byte times. -/
def longestFrame : Nat := 74

/-- R103: the most bytes of payload in a segment. -/
def segmentSize : Nat := 40

/-- R101, R126: bytes in a block. -/
def blockSize : Nat := 64

/-- R101: blocks of the transmit store. -/
def txBlocks : Nat := 24

/-- R126: blocks of the receive store. -/
def rxBlocks : Nat := 64

/-- R98, R137: the most messages in the outbound queue and in the receive queue. -/
def queueSize : Nat := 8

/-- R98, R104, R125: the greatest total length of a message. -/
def maxMessage : Nat := 1024

/-- R102: the free count at which TX_ROOM is given. -/
def roomLevel : Nat := 4

/-- R114: the starve count that ends a message. -/
def starveLimit : Nat := 32

/-- R114: the cycles since won that end a message. -/
def contentionLimit : Nat := 48

/-- R113: the disturbed count that ends a message. -/
def disturbLimit : Nat := 16

/-- R117: the abort attempt count that ends a message. -/
def attemptLimit : Nat := 16

/-- R125: the number of context places. -/
def placeCount : Nat := 4

/-- R133: the most completion records. -/
def recordCount : Nat := 4

/-- R135: the idle cycles that break a context. -/
def idleLimit : Nat := 64

/-- R133: the count at which a completion record lapses. -/
def recordLimit : Nat := 64

/-- R147, R148: the most notices in the queue. -/
def noticeSize : Nat := 32

/-- R148: the lost count saturates here. -/
def lostMax : Nat := 255

/-- R161: the most entries in the request buffer. -/
def bufferSize : Nat := 4

/-- R17, R140: the counters saturate here. -/
def counterMax : Nat := 65535

/-- R87: an age saturates here. -/
def ageMax : Nat := 255

/-- R160: the greatest length field of an inbound host frame. -/
def maxHostLength : Nat := 259

end Sys2Proof.Config
end

