-- ==== Sys2Proof/Machine/State.lean ====
section
/-! DEFINITION. The state of the part, as plain data: the eight blocks of the overview (00 section 2) and the queue of
waiting commands. Each structure's docstring names the rules that give its fields; the values after power-on stand in
`State.reset`. -/

namespace Sys2Proof.Machine

/-- No command ends in a machine fault: what goes wrong is answered by a reply, a notice or a counter (R150, R156).
The type therefore has no constructor. Safe: nothing can be proved of a fault that no rule describes. -/
inductive Fault where
  deriving DecidableEq, Repr

/-- The reasons for which a step has no meaning. -/
inductive Refusal where
  /-- Raised by an arm of `exec` whose command has no meaning yet. Safe: the run stops. No arm raises it now. -/
  | notModelled (mnemonic : String)
  deriving DecidableEq, Repr

/-! ### The cycle unit (chapter 2) -/

/-- R19: the role of the node. -/
inductive Role where
  | member
  | master
  deriving DecidableEq, Repr

/-- Section 2.2: the timing states. -/
inductive Timing where
  | offline
  | claiming
  | leading
  | hunting
  | locked
  | holdover
  deriving DecidableEq, Repr

/-- R23: the values of the current cycle, present together. `origin` is the line-clock value of byte time 0,
`length` the cycle length in use. -/
structure CycleNow where
  number : Word
  origin : Word
  length : Nat
  deriving DecidableEq, Repr

/-- R25: the claim record. -/
structure ClaimRecord where
  opened : Word
  lastHigher : Option Word
  deriving DecidableEq, Repr

/-- R29: a candidate run with count 1 or 2, and its latest frame. Count 0 is the absence of a run. -/
structure CandidateRun where
  count : Nat
  source : Byte
  number : Word
  length : Nat
  stamp : Word
  deriving DecidableEq, Repr

/-- R19, R23, R25, R28, R29: what the cycle unit holds. The operating state is `State.online`. -/
structure CycleUnit where
  address : Byte
  role : Role
  timing : Timing
  now : Option CycleNow
  bareLength : Nat
  missCount : Nat
  phaseError : Int
  lastMaster : Byte
  listenOnly : Bool
  claim : Option ClaimRecord
  run : Option CandidateRun
  /-- R28: the quiet count of an open conflict episode. -/
  conflict : Option Nat
  deriving DecidableEq, Repr

/-! ### Slot entries (section 3.1) -/

/-- R42: the fields of an entry that depend on its kind. -/
inductive Slot where
  | cyclic (slotLength : Nat) (owner label : Byte) (payload : Nat)
  | openSlot (floor : Nat)
  deriving DecidableEq, Repr

/-- R42: a slot entry. -/
structure Entry where
  start : Nat
  slot : Slot
  deriving DecidableEq, Repr

/-! ### The trunk interface (chapter 1) -/

/-- R4: an own cycle start or cyclic frame that is being sent: every byte of it, and the line clock at its first bit. -/
structure OwnFrame where
  bytes : List Byte
  since : Word
  deriving DecidableEq, Repr

/-- R12: what the interface does with the segment it was given: it waits to begin it at this instant, it has been sending
it since this instant, that of the first bit, or it does not send, and the outcome LOST is handed at this instant. -/
inductive Contention where
  | waits (since : Word)
  | sends (since : Word)
  | silent (lostAt : Word)
  deriving DecidableEq, Repr

/-- R12, R14: the segment frame given for the OPEN slot with this start, until its outcome is handed. -/
structure OwnSegment where
  bytes : List Byte
  start : Nat
  way : Contention
  deriving DecidableEq, Repr

/-- R16: a change that the interface follows from the end of the frame it is sending. -/
inductive Deferred where
  | offline
  | nodeReset
  deriving DecidableEq, Repr

/-- R7: whether the cycle's window result is still to come; `own` is a window whose frame is the one the node itself was
sending when it opened. -/
inductive Window where
  | settled
  | awaiting
  | own
  deriving DecidableEq, Repr

/-- R2: a cyclic frame as received. -/
structure CyclicFrame where
  source : Byte
  label : Byte
  age : Byte
  payload : List Byte
  deriving DecidableEq, Repr

/-- R9, R11: a slot whose window has had its frame in this cycle, with the good cyclic frame held for its end and the
instant at which the frame ended or was given up. -/
structure SlotRecord where
  start : Nat
  held : Option CyclicFrame
  ended : Word
  deriving DecidableEq, Repr

/-- R9, R11, R15: a slot of this cycle that has a frame of the node's own, and the instant of that frame's first bit. -/
structure OwnSlot where
  start : Nat
  since : Word
  deriving DecidableEq, Repr

/-- R11: a CYCLIC slot of the cycle before whose frame may run past that cycle's end. `opened` is the instant its window
opened; `record` is there once the frame has ended. -/
structure LateSlot where
  entry : Entry
  opened : Word
  record : Option SlotRecord
  deriving DecidableEq, Repr

/-- R6: the judgement of an entry whose window opened before the cycle length in use changed in this cycle. -/
structure EarlyWalk where
  start : Nat
  walked : Bool
  deriving DecidableEq, Repr

/-- R1, R4, R5, R7, R9, R11, R12, R14 to R17: what the trunk interface holds. `hearsFrom` is the line clock when the node
went ONLINE, while a frame that began before may still be on the line (R5, R16). -/
structure TrunkInterface where
  lineClock : Word
  crcErrors : Nat
  malformed : Nat
  wrongSlot : Nat
  stray : Nat
  disturbed : Nat
  txen : Bool
  sending : Option OwnFrame
  segment : Option OwnSegment
  deferred : Option Deferred
  hearsFrom : Option Word
  window : Window
  slots : List SlotRecord
  ownSlots : List OwnSlot
  late : List LateSlot
  earlyWalk : List EarlyWalk
  deriving DecidableEq, Repr

/-! ### The schedule unit (chapters 3 and 4) -/

/-- R42, R43: the ACTIVE bank. It holds no cycle length of its own while its epoch is 0. -/
structure ActiveBank where
  epoch : Half
  cycleLength : Option Nat
  entries : List Entry
  deriving DecidableEq, Repr

/-- R44: the staged bank with its state. What each state holds is what its constructor carries; the activation record
is the epoch and the cycle of `armed`. -/
inductive Staged where
  | empty
  | editing (length : Nat) (entries : List Entry)
  | closed (epoch : Half) (length : Nat) (entries : List Entry)
  | armed (epoch : Half) (length : Nat) (entries : List Entry) (cycle : Word)
  deriving DecidableEq, Repr

/-- R44: the staged state. -/
inductive StagedState where
  | empty
  | editing
  | closed
  | armed
  deriving DecidableEq, Repr

/-- R60: an epoch with a cycle number: the unready record, the last switch record. -/
structure EpochCycle where
  epoch : Half
  cycle : Word
  deriving DecidableEq, Repr

/-- R75: whether the node, after a late adoption, has yet to take up sending: it awaits the accepted frame that clears
listen-only, and from that frame the next cycle start. -/
inductive TakeUp where
  | done
  | awaitsMatch
  | awaitsCycle
  deriving DecidableEq, Repr

/-- R42, R44, R60, R75: what the schedule unit holds. -/
structure ScheduleUnit where
  active : ActiveBank
  staged : Staged
  unready : Option EpochCycle
  adoption : Bool
  lastSwitch : Option EpochCycle
  takeUp : TakeUp
  deriving DecidableEq, Repr

/-! ### The channel unit (chapter 5) -/

/-- R79, R83: RESOLVED, or UNSCHEDULED with a reason. -/
inductive Resolution where
  | resolved
  | absent
  | owner
  | length
  deriving DecidableEq, Repr

/-- R79: the consume states. -/
inductive ConsumeState where
  | unscheduled
  | waiting
  | fresh
  | staleSource
  | missed
  | lost
  deriving DecidableEq, Repr

/-- R79: the last receive cycle and the age at source, present together. -/
structure Received where
  cycle : Word
  age : Byte
  deriving DecidableEq, Repr

/-- R79: the fields of a CONSUME channel. -/
structure Consume where
  state : ConsumeState
  missCount : Nat
  missLimit : Nat
  staleLimit : Byte
  received : Option Received
  deriving DecidableEq, Repr

/-- R79: the direction and its fields. A PRODUCE channel is ACTIVE exactly when it has an age. -/
inductive Direction where
  | produce (age : Option Nat)
  | consume (c : Consume)
  deriving DecidableEq, Repr

/-- R79: a bound channel record. -/
structure Channel where
  label : Byte
  length : Nat
  report : Bool
  value : Option (List Byte)
  resolution : Resolution
  direction : Direction
  deriving DecidableEq, Repr

/-! ### The transmit message unit (chapter 6) -/

/-- R98: abort reasons and the reasons of MESSAGE_FAILED. -/
inductive FailReason where
  | host
  | starved
  | contention
  | trunkFault
  | sync
  | offline
  deriving DecidableEq, Repr

/-- R98: the in-flight record, less its two abort fields. -/
structure InFlight where
  next : Nat
  sinceWon : Nat
  starve : Nat
  disturbed : Nat
  abortPending : Bool
  deriving DecidableEq, Repr

/-- R98: the state of an outbound message with what the state holds. -/
inductive MessageState where
  | waiting
  | inFlight (r : InFlight)
  | aborting (r : InFlight) (reason : FailReason) (attempts : Nat)
  deriving DecidableEq, Repr

/-- R98: an outbound message. `data` is the bytes supplied, from the start of the message, so that bytes supplied is
its length; `sent` is bytes sent. -/
structure Message where
  id : Byte
  dest : Byte
  cls : Nat
  total : Nat
  data : List Byte
  sent : Nat
  state : MessageState
  deriving DecidableEq, Repr

/-- R109: the frame on the line that belongs to the message in flight: a data segment or its abort segment. -/
structure OnLine where
  index : Nat
  abort : Bool
  deriving DecidableEq, Repr

/-- R98, R100 to R102, R109: what the transmit message unit holds. -/
structure TransmitUnit where
  queue : List Message
  free : Nat
  idCounter : Byte
  roomWatch : Bool
  onLine : Option OnLine
  deriving DecidableEq, Repr

/-! ### The receive message unit (chapter 7) -/

/-- R125: an open reassembly context. `data` is the bytes received. -/
structure Context where
  source : Byte
  id : Byte
  dest : Byte
  cls : Nat
  total : Nat
  next : Nat
  data : List Byte
  idle : Nat
  deriving DecidableEq, Repr

/-- R137: the destination kind. -/
inductive DestKind where
  | own
  | group
  | broadcast
  deriving DecidableEq, Repr

/-- R137: an entry of the receive queue. Its length is the length of `data`. -/
structure Arrival where
  handle : Byte
  source : Byte
  id : Byte
  kind : DestKind
  dest : Byte
  cls : Nat
  data : List Byte
  cycle : Word
  deriving DecidableEq, Repr

/-- R133: a completion record. -/
structure Completion where
  source : Byte
  id : Byte
  lastIndex : Nat
  count : Nat
  deriving DecidableEq, Repr

/-- R122, R125, R126, R133, R137, R140: what the receive message unit holds. `records` stands in the order in which the
records were set. -/
structure ReceiveUnit where
  groups : List Byte
  places : List (Option Context)
  free : Nat
  queue : List Arrival
  handleCounter : Byte
  records : List Completion
  orphan : Nat
  duplicate : Nat
  deriving DecidableEq, Repr

/-! ### The notice unit (chapter 8) -/

/-- R155: the cause of NODE_RESTARTED. -/
inductive RestartCause where
  | powerOn
  | request
  deriving DecidableEq, Repr

/-- R156: the reason of LINK_ERROR. -/
inductive LinkReason where
  | crc
  | length
  | kind
  | truncated
  | overrun
  | tagInUse
  | zeroTag
  deriving DecidableEq, Repr

/-- R31, R33: the reason of SYNC_JUMP. -/
inductive JumpReason where
  | number
  | phase
  deriving DecidableEq, Repr

/-- R26, R34: the reason of MASTER_LEADING. -/
inductive LeadReason where
  | claim
  | takeover
  deriving DecidableEq, Repr

/-- R78: the source of ACTIVATION_ARMED. -/
inductive ArmSource where
  | commit
  | announcement
  | rearm
  deriving DecidableEq, Repr

/-- R78: the reason of ACTIVATION_WITHDRAWN. -/
inductive WithdrawReason where
  | cancel
  | notAnnounced
  | sync
  | offline
  deriving DecidableEq, Repr

/-- R78: the mode of SCHEDULE_ACTIVATED. -/
inductive SwitchMode where
  | onTime
  | late
  deriving DecidableEq, Repr

/-- R92: the cause of CHANNEL_STATE. -/
inductive ChannelCause where
  | freshness
  | resolution
  deriving DecidableEq, Repr

/-- R134: the reason of MESSAGE_DROPPED. -/
inductive DropReason where
  | noContext
  | noRoom
  | superseded
  | gap
  | length
  | aborted
  | timeout
  | sync
  | offline
  | queueFull
  deriving DecidableEq, Repr

/-- R92: what CHANNEL_STATE says of a CONSUME channel. -/
structure ConsumeReport where
  newState : ConsumeState
  before : ConsumeState
  missCount : Nat
  age : Option Byte
  deriving DecidableEq, Repr

/-- Section 8.2: the 21 kinds of notice. -/
inductive NoticeKind where
  | nodeRestarted
  | overflow
  | linkError
  | syncLocked
  | syncLost
  | syncJump
  | masterLeading
  | masterYielded
  | masterConflict
  | activationArmed
  | activationWithdrawn
  | activationUnready
  | scheduleActivated
  | scheduleMismatch
  | scheduleMatch
  | channelState
  | messageSent
  | messageFailed
  | txRoom
  | messageArrived
  | messageDropped
  deriving DecidableEq, Repr

/-- Section 8.2: the body of a notice, by kind. -/
inductive NoticeBody where
  | nodeRestarted (cause : RestartCause)
  | overflow (lost : Nat)
  | linkError (reason : LinkReason) (tag : Option Byte)
  | syncLocked (master : Byte) (length : Nat)
  | syncLost (lastMaster : Byte)
  | syncJump (reason : JumpReason) (source : Byte)
  | masterLeading (reason : LeadReason) (number : Word)
  | masterYielded (address : Byte)
  | masterConflict (address : Byte)
  | activationArmed (epoch : Half) (cycle : Word) (source : ArmSource)
  | activationWithdrawn (epoch : Half) (cycle : Word) (reason : WithdrawReason)
  | activationUnready (epoch : Half) (cycle : Word) (state : StagedState) (stagedEpoch : Option Half)
      (disarmed : Bool)
  | scheduleActivated (epoch : Half) (length : Nat) (cycle : Word) (mode : SwitchMode)
  | scheduleMismatch (masterEpoch : Half) (masterLength : Nat) (ownEpoch : Half) (ownLength : Nat)
  | scheduleMatch (epoch : Half)
  | channelState (number : Nat) (label : Byte) (cause : ChannelCause) (resolution : Resolution)
      (consume : Option ConsumeReport)
  | messageSent (id dest : Byte) (cls total : Nat)
  | messageFailed (id dest : Byte) (cls : Nat) (reason : FailReason) (abortSent : Bool) (sent : Nat)
  | txRoom (free : Nat)
  | messageArrived (handle source id : Byte) (kind : DestKind) (dest : Byte) (cls length : Nat)
  | messageDropped (source id dest : Byte) (reason : DropReason) (received : Nat)
  deriving DecidableEq, Repr

/-- R146: a notice record. -/
structure Notice where
  seq : Half
  cycle : Option Word
  body : NoticeBody
  deriving DecidableEq, Repr

/-- R147 to R151: what the notice unit holds. The first `delivered` records of the queue are the delivered run; the
delivery point is the next one, if there is one (R151). -/
structure NoticeUnit where
  queue : List Notice
  delivered : Nat
  nextSeq : Half
  lost : Nat
  disabled : List NoticeKind
  deriving DecidableEq, Repr

/-! ### The host link (chapter 9) -/

/-- Section 9.3: the reply statuses. -/
inductive Status where
  | ok
  | badRequest
  | badLength
  | badValue
  | wrongState
  | notMaster
  | stageArmed
  | stageNotEditing
  | bankFull
  | scheduleInvalid
  | tooLate
  | duplicateLabel
  | unknownChannel
  | queueFull
  | noRoom
  | lengthExceeded
  | unknownHandle
  deriving DecidableEq, Repr

/-- R161: a reply: its status and its body as section 10.4 lays it out. -/
structure Reply where
  status : Status
  body : List Byte
  deriving DecidableEq, Repr

/-- R161: an entry of the request buffer: ACCEPTED while it holds no reply, TAKEN once it does. -/
structure Request where
  tag : Byte
  code : Byte
  body : List Byte
  reply : Option Reply
  deriving DecidableEq, Repr

/-- R164: whose frame an outbound frame is: the reply to a tag, or a notice record. -/
inductive Outgoing where
  | reply (tag : Byte)
  | notice (n : Notice)
  deriving DecidableEq, Repr

/-- R164: an outbound frame with all its bytes, from the sync byte. -/
structure OutFrame where
  what : Outgoing
  bytes : List Byte
  deriving DecidableEq, Repr

/-- R157: the sampled straps; true is high. -/
structure Straps where
  mode : Bool
  rate1 : Bool
  rate0 : Bool
  deriving DecidableEq, Repr

/-- R157 to R161, R164, R166: what the host link holds. `rx` is the bytes of the inbound frame in progress (none while
hunting), `breakLow` says that HRX has not yet returned high after a break, `sel` that a transaction is open. -/
structure HostLink where
  straps : Straps
  rx : List Byte
  breakLow : Bool
  sel : Bool
  buffer : List Request
  outbound : Option OutFrame
  held : Option OutFrame
  attn : Bool
  deriving DecidableEq, Repr

/-! ### The whole part -/

/-- The part and the commands that wait for it, first in, first out. -/
structure State where
  trunk : TrunkInterface
  cycle : CycleUnit
  sched : ScheduleUnit
  channels : List (Option Channel)
  tx : TransmitUnit
  rx : ReceiveUnit
  notices : NoticeUnit
  link : HostLink
  pending : List Instr
  deriving DecidableEq, Repr

/-- R17: the trunk interface after power-on and after a node reset. -/
def TrunkInterface.reset : TrunkInterface :=
  { lineClock := 0, crcErrors := 0, malformed := 0, wrongSlot := 0, stray := 0, disturbed := 0, txen := false,
    sending := none, segment := none, deferred := none, hearsFrom := some 0, window := .settled, slots := [],
    ownSlots := [], late := [], earlyWalk := [] }

/-- Section 2.10: the cycle unit after power-on and after a node reset. -/
def CycleUnit.reset : CycleUnit :=
  { address := 0, role := .member, timing := .offline, now := none, bareLength := Config.bareReset, missCount := 0,
    phaseError := 0, lastMaster := 0, listenOnly := false, claim := none, run := none, conflict := none }

/-- R59, R60: the schedule unit after power-on and after a node reset. -/
def ScheduleUnit.reset : ScheduleUnit :=
  { active := { epoch := 0, cycleLength := none, entries := [] }, staged := .empty, unready := none, adoption := false,
    lastSwitch := none, takeUp := .done }

/-- R121: the transmit message unit after power-on and after a node reset. -/
def TransmitUnit.reset : TransmitUnit :=
  { queue := [], free := Config.txBlocks, idCounter := 0, roomWatch := false, onLine := none }

/-- R145: the receive message unit after power-on and after a node reset. -/
def ReceiveUnit.reset : ReceiveUnit :=
  { groups := [], places := List.replicate Config.placeCount none, free := Config.rxBlocks, queue := [],
    handleCounter := 1, records := [], orphan := 0, duplicate := 0 }

/-- R155: the notice unit after a reset with this cause. -/
def NoticeUnit.reset (cause : RestartCause) : NoticeUnit :=
  { queue := [{ seq := 0, cycle := none, body := .nodeRestarted cause }], delivered := 0, nextSeq := 1, lost := 0,
    disabled := [] }

/-- R170: the host link after power-on, with these straps. -/
def HostLink.powerOn (straps : Straps) : HostLink :=
  { straps := straps, rx := [], breakLow := false, sel := false, buffer := [], outbound := none, held := none,
    attn := true }

/-- The part right after power-on with these straps (R41, R59, R97, R121, R145, R155, R170), no command waiting. -/
def State.powerOn (straps : Straps) : State :=
  { trunk := .reset, cycle := .reset, sched := .reset, channels := List.replicate Config.channelCount none,
    tx := .reset, rx := .reset, notices := .reset .powerOn, link := .powerOn straps, pending := [] }

/-- The part right after reset. DESIGN CHOICE, unsafe (log entry 1): the spec has the straps sampled and cannot say
what the pins carry; all low stands here, which is UART mode at 115,200 baud. POWER_ON_RESET carries the levels. -/
def State.reset : State := State.powerOn { mode := false, rate1 := false, rate0 := false }

end Sys2Proof.Machine
end

