-- ==== Sys2Proof/Machine/Operands.lean ====
section
/-! DEFINITION. How bytes spell values (10.1), the CRC (R171), the operands of the requests (10.3): their command codes,
their allowed body lengths and the fields of a schedule entry. -/

namespace Sys2Proof.Machine

/-! ### Byte order -/

/-- The byte at an offset; 0 past the end. -/
def byteAt (l : List Byte) (i : Nat) : Byte := l.getD i 0

/-- 10.1: the field of two bytes at an offset, most significant byte first. -/
def halfAt (l : List Byte) (i : Nat) : Half := byteAt l i ++ byteAt l (i + 1)

/-- 10.1: the field of four bytes at an offset, most significant byte first. -/
def wordAt (l : List Byte) (i : Nat) : Word := halfAt l i ++ halfAt l (i + 2)

/-- The two bytes of a field, most significant first. -/
def halfBytes (w : Half) : List Byte := [w.extractLsb' 8 8, w.extractLsb' 0 8]

/-- The four bytes of a field, most significant first. -/
def wordBytes (w : Word) : List Byte :=
  [w.extractLsb' 24 8, w.extractLsb' 16 8, w.extractLsb' 8 8, w.extractLsb' 0 8]

/-- A quantity as one byte. -/
def byteOf (n : Nat) : Byte := BitVec.ofNat 8 n

/-- A quantity as two bytes. -/
def halfBytesOf (n : Nat) : List Byte := halfBytes (BitVec.ofNat 16 n)

/-- A yes or no, a presence, as one byte (10.6). -/
def flagByte (b : Bool) : Byte := if b then 1 else 0

/-- R172: a presence byte and then the field, zeros when absent. -/
def optionBytes (size : Nat) (o : Option (List Byte)) : List Byte :=
  match o with
  | some l => 1 :: l
  | none => 0 :: List.replicate size 0

/-- 10.1: the last phase error as one byte in two's complement. -/
def signedByte (i : Int) : Byte := BitVec.ofInt 8 i

/-! ### The CRC -/

/-- R171: one bit into the register. -/
def crcBit (reg : Half) (bit : Bool) : Half :=
  if reg.msb == bit then reg <<< 1 else (reg <<< 1) ^^^ 0x1021#16

/-- R171: one byte into the register, most significant bit first. -/
def crcByte (reg : Half) (b : Byte) : Half :=
  [7, 6, 5, 4, 3, 2, 1, 0].foldl (fun r i => crcBit r (b.getLsbD i)) reg

/-- R171: the CRC over the covered bytes. -/
def crc (covered : List Byte) : Half := covered.foldl crcByte 0xFFFF#16

/-! ### Schedule entries in a body -/

/-- 10.3: the nine bytes of a schedule entry as they stand in a STAGE_ADD body. -/
structure RawEntry where
  start : Nat
  kind : Byte
  slotLength : Nat
  owner : Byte
  label : Byte
  payload : Nat
  floor : Nat
  deriving DecidableEq, Repr

/-- 10.3: the entry whose nine bytes begin at an offset. -/
def rawEntryAt (body : List Byte) (i : Nat) : RawEntry :=
  { start := (halfAt body i).toNat, kind := byteAt body (i + 2), slotLength := (halfAt body (i + 3)).toNat,
    owner := byteAt body (i + 5), label := byteAt body (i + 6), payload := (byteAt body (i + 7)).toNat,
    floor := (byteAt body (i + 8)).toNat }

/-- 10.3: the n entries after the count byte. -/
def rawEntries (body : List Byte) (n : Nat) : List RawEntry :=
  (List.range n).map (fun i => rawEntryAt body (1 + 9 * i))

/-! ### Commands of requests -/

/-- R162: which body lengths a command allows: one length alone, a counted list with items of a size, or a span. -/
inductive BodyShape where
  | fixed (n : Nat)
  | counted (size : Nat)
  | span (least most : Nat)
  deriving DecidableEq, Repr

/-- 10.3: the allowed body length of each command code; none for a code that names no request. -/
def bodyShape (code : Byte) : Option BodyShape :=
  match code.toNat with
  | 0x01 => some (.fixed 0)
  | 0x02 => some (.fixed 2)
  | 0x03 => some (.fixed 2)
  | 0x04 => some (.fixed 0)
  | 0x05 => some (.fixed 0)
  | 0x06 => some (.fixed 0)
  | 0x07 => some (.fixed 0)
  | 0x10 => some (.fixed 2)
  | 0x11 => some (.counted 9)
  | 0x12 => some (.fixed 2)
  | 0x13 => some (.fixed 2)
  | 0x14 => some (.fixed 0)
  | 0x15 => some (.fixed 3)
  | 0x16 => some (.fixed 4)
  | 0x17 => some (.fixed 0)
  | 0x20 => some (.fixed 7)
  | 0x21 => some (.fixed 1)
  | 0x22 => some (.span 2 65)
  | 0x23 => some (.fixed 1)
  | 0x24 => some (.counted 1)
  | 0x30 => some (.span 4 204)
  | 0x31 => some (.span 4 203)
  | 0x32 => some (.fixed 1)
  | 0x33 => some (.fixed 0)
  | 0x40 => some (.counted 1)
  | 0x41 => some (.fixed 4)
  | 0x42 => some (.fixed 1)
  | 0x43 => some (.fixed 0)
  | 0x50 => some (.counted 1)
  | 0x51 => some (.fixed 2)
  | 0x60 => some (.fixed 1)
  | _ => none

/-- 10.3: the command code of a request; none for a command that is no request of the table of 10.3. -/
def requestCode : Instr → Option Byte
  | .identify => some 0x01
  | .setNode => some 0x02
  | .setCycle => some 0x03
  | .goOnline => some 0x04
  | .goOffline => some 0x05
  | .resetNode => some 0x06
  | .readSync => some 0x07
  | .stageBegin => some 0x10
  | .stageAdd => some 0x11
  | .stageRemove => some 0x12
  | .stageClose => some 0x13
  | .stageDiscard => some 0x14
  | .readSchedule => some 0x15
  | .commit => some 0x16
  | .cancel => some 0x17
  | .bindChannel => some 0x20
  | .unbindChannel => some 0x21
  | .writeChannel => some 0x22
  | .readChannel => some 0x23
  | .readChannels => some 0x24
  | .sendMessage => some 0x30
  | .messagePiece => some 0x31
  | .abortMessage => some 0x32
  | .readOutbound => some 0x33
  | .setGroups => some 0x40
  | .readMessage => some 0x41
  | .releaseMessage => some 0x42
  | .readInbound => some 0x43
  | .noticeMask => some 0x50
  | .ackNotices => some 0x51
  | .readCounts => some 0x60
  | .badRequest | .hostFrameReceived _ | .lineBreak | .framingFault | .gap | .selNegated | .outboundSelect
  | .replySent | .powerOnReset _ _ _ | .claimWindowExpires | .cycleStart | .conflictEpisodeEnd | .messageStarved
  | .messageContention | .abortAttemptsExhausted | .contextTimeout | .completionRecordLapse
  | .trunkFrameReceived _ _ | .cycleStartWindowCloses | .syncLost | .takeover | .syncLocked _ _
  | .cyclicSlotStart _ | .cyclicSlotEnd _ | .channelLost _ | .openSlotWindowOpens _ | .segmentWon | .segmentLost
  | .segmentDisturbed | .messageTrunkFault | .ownFrameMismatch | .ownFrameSent | .noticeFrameSent | .breakEnd => none

/-- R162, 10.3: whether a body has a length its shape allows. A counted list with no count byte agrees with no count. -/
def BodyShape.allows (shape : BodyShape) (body : List Byte) : Bool :=
  match shape with
  | .fixed n => body.length == n
  | .counted size => 1 ≤ body.length && body.length == 1 + size * (byteAt body 0).toNat
  | .span least most => least ≤ body.length && body.length ≤ most

end Sys2Proof.Machine
end

