-- ==== Sys2Proof/Machine/Layouts.lean ====
section
/-! DEFINITION. The codes of named values (10.6) and the byte layouts of replies and notices (10.4, 10.5), R172. -/

namespace Sys2Proof.Machine

/-! ### Codes (10.6) -/

def Role.code : Role → Byte
  | .member => 1
  | .master => 2

/-- 10.6: a role code, or none for a code that names no role. -/
def roleOf (b : Byte) : Option Role :=
  if b = 1 then some .member else if b = 2 then some .master else none

def Timing.code : Timing → Byte
  | .offline => 0
  | .claiming => 1
  | .leading => 2
  | .hunting => 3
  | .locked => 4
  | .holdover => 5

def Staged.state : Staged → StagedState
  | .empty => .empty
  | .editing _ _ => .editing
  | .closed _ _ _ => .closed
  | .armed _ _ _ _ => .armed

def StagedState.code : StagedState → Byte
  | .empty => 0
  | .editing => 1
  | .closed => 2
  | .armed => 3

def Resolution.code : Resolution → Byte
  | .resolved => 0
  | .absent => 1
  | .owner => 2
  | .length => 3

def ConsumeState.code : ConsumeState → Byte
  | .unscheduled => 0
  | .waiting => 1
  | .fresh => 2
  | .staleSource => 3
  | .missed => 4
  | .lost => 5

def ChannelCause.code : ChannelCause → Byte
  | .freshness => 1
  | .resolution => 2

def MessageState.code : MessageState → Byte
  | .waiting => 1
  | .inFlight _ => 2
  | .aborting _ _ _ => 3

def DestKind.code : DestKind → Byte
  | .own => 1
  | .group => 2
  | .broadcast => 3

def RestartCause.code : RestartCause → Byte
  | .powerOn => 1
  | .request => 2

def LinkReason.code : LinkReason → Byte
  | .crc => 1
  | .length => 2
  | .kind => 3
  | .truncated => 4
  | .overrun => 5
  | .tagInUse => 6
  | .zeroTag => 7

def JumpReason.code : JumpReason → Byte
  | .number => 1
  | .phase => 2

def LeadReason.code : LeadReason → Byte
  | .claim => 1
  | .takeover => 2

def ArmSource.code : ArmSource → Byte
  | .commit => 1
  | .announcement => 2
  | .rearm => 3

def WithdrawReason.code : WithdrawReason → Byte
  | .cancel => 1
  | .notAnnounced => 2
  | .sync => 3
  | .offline => 4

def SwitchMode.code : SwitchMode → Byte
  | .onTime => 1
  | .late => 2

def FailReason.code : FailReason → Byte
  | .host => 1
  | .starved => 2
  | .contention => 3
  | .trunkFault => 4
  | .sync => 5
  | .offline => 6

def DropReason.code : DropReason → Byte
  | .noContext => 1
  | .noRoom => 2
  | .superseded => 3
  | .gap => 4
  | .length => 5
  | .aborted => 6
  | .timeout => 7
  | .sync => 8
  | .offline => 9
  | .queueFull => 10

def Status.code : Status → Byte
  | .ok => 0x00
  | .badRequest => 0x01
  | .badLength => 0x02
  | .badValue => 0x03
  | .wrongState => 0x04
  | .notMaster => 0x05
  | .stageArmed => 0x06
  | .stageNotEditing => 0x07
  | .bankFull => 0x08
  | .scheduleInvalid => 0x09
  | .tooLate => 0x0A
  | .duplicateLabel => 0x0B
  | .unknownChannel => 0x0C
  | .queueFull => 0x0D
  | .noRoom => 0x0E
  | .lengthExceeded => 0x0F
  | .unknownHandle => 0x10

/-- 10.5: the code of a notice kind. -/
def NoticeKind.code : NoticeKind → Byte
  | .nodeRestarted => 0x01
  | .overflow => 0x02
  | .linkError => 0x03
  | .syncLocked => 0x04
  | .syncLost => 0x05
  | .syncJump => 0x06
  | .masterLeading => 0x07
  | .masterYielded => 0x08
  | .masterConflict => 0x09
  | .activationArmed => 0x0A
  | .activationWithdrawn => 0x0B
  | .activationUnready => 0x0C
  | .scheduleActivated => 0x0D
  | .scheduleMismatch => 0x0E
  | .scheduleMatch => 0x0F
  | .channelState => 0x10
  | .messageSent => 0x11
  | .messageFailed => 0x12
  | .txRoom => 0x13
  | .messageArrived => 0x14
  | .messageDropped => 0x15

/-- Section 8.2: the maskable kinds, in ascending order of code. -/
def maskableKinds : List NoticeKind :=
  [.syncLocked, .syncLost, .syncJump, .masterLeading, .masterYielded, .masterConflict, .activationArmed,
   .activationWithdrawn, .activationUnready, .scheduleActivated, .scheduleMismatch, .scheduleMatch, .channelState,
   .messageSent, .messageFailed, .txRoom, .messageArrived, .messageDropped]

/-- The maskable kind that a code names; none for a code of no kind or of a fixed kind (R149). -/
def maskableOf (code : Byte) : Option NoticeKind := maskableKinds.find? (fun k => k.code == code)

def NoticeBody.kind : NoticeBody → NoticeKind
  | .nodeRestarted _ => .nodeRestarted
  | .overflow _ => .overflow
  | .linkError _ _ => .linkError
  | .syncLocked _ _ => .syncLocked
  | .syncLost _ => .syncLost
  | .syncJump _ _ => .syncJump
  | .masterLeading _ _ => .masterLeading
  | .masterYielded _ => .masterYielded
  | .masterConflict _ => .masterConflict
  | .activationArmed _ _ _ => .activationArmed
  | .activationWithdrawn _ _ _ => .activationWithdrawn
  | .activationUnready _ _ _ _ _ => .activationUnready
  | .scheduleActivated _ _ _ _ => .scheduleActivated
  | .scheduleMismatch _ _ _ _ => .scheduleMismatch
  | .scheduleMatch _ => .scheduleMatch
  | .channelState _ _ _ _ _ => .channelState
  | .messageSent _ _ _ _ => .messageSent
  | .messageFailed _ _ _ _ _ _ => .messageFailed
  | .txRoom _ => .txRoom
  | .messageArrived _ _ _ _ _ _ _ => .messageArrived
  | .messageDropped _ _ _ _ _ => .messageDropped

/-! ### Notice bodies (10.5) -/

/-- 10.5: the fields of CHANNEL_STATE after its cause. For a PRODUCE channel its states and miss count are zeros. -/
def consumeReportBytes (resolution : Resolution) : Option ConsumeReport → List Byte
  | none => [0, 0, 0, resolution.code, 0, 0]
  | some c => [c.newState.code, c.before.code, byteOf c.missCount, resolution.code] ++
      optionBytes 1 (c.age.map (fun a => [a]))

/-- 10.5: the fields of a notice body after the cycle number. -/
def NoticeBody.fieldBytes : NoticeBody → List Byte
  | .nodeRestarted cause => [cause.code]
  | .overflow lost => [byteOf lost]
  | .linkError reason tag => reason.code :: optionBytes 1 (tag.map (fun t => [t]))
  | .syncLocked master length => master :: halfBytesOf length
  | .syncLost lastMaster => [lastMaster]
  | .syncJump reason source => [reason.code, source]
  | .masterLeading reason number => reason.code :: wordBytes number
  | .masterYielded address => [address]
  | .masterConflict address => [address]
  | .activationArmed epoch cycle source => halfBytes epoch ++ wordBytes cycle ++ [source.code]
  | .activationWithdrawn epoch cycle reason => halfBytes epoch ++ wordBytes cycle ++ [reason.code]
  | .activationUnready epoch cycle state stagedEpoch disarmed =>
      halfBytes epoch ++ wordBytes cycle ++ [state.code] ++ optionBytes 2 (stagedEpoch.map halfBytes) ++
        [flagByte disarmed]
  | .scheduleActivated epoch length cycle mode =>
      halfBytes epoch ++ halfBytesOf length ++ wordBytes cycle ++ [mode.code]
  | .scheduleMismatch masterEpoch masterLength ownEpoch ownLength =>
      halfBytes masterEpoch ++ halfBytesOf masterLength ++ halfBytes ownEpoch ++ halfBytesOf ownLength
  | .scheduleMatch epoch => halfBytes epoch
  | .channelState number label cause resolution consume =>
      [byteOf number, label, if consume.isSome then 2 else 1, cause.code] ++ consumeReportBytes resolution consume
  | .messageSent id dest cls total => [id, dest, byteOf cls] ++ halfBytesOf total
  | .messageFailed id dest cls reason abortSent sent =>
      [id, dest, byteOf cls, reason.code, flagByte abortSent] ++ halfBytesOf sent
  | .txRoom free => [byteOf free]
  | .messageArrived handle source id kind dest cls length =>
      [handle, source, id, kind.code, dest, byteOf cls] ++ halfBytesOf length
  | .messageDropped source id dest reason received => [source, id, dest, reason.code] ++ halfBytesOf received

/-- 10.5: a notice body begins with the presence byte and the cycle number. -/
def Notice.bodyBytes (n : Notice) : List Byte :=
  optionBytes 4 (n.cycle.map wordBytes) ++ n.body.fieldBytes

/-! ### Host frames (10.2) -/

/-- 10.2: a frame from its kind byte to its last body byte, closed with sync, length and CRC (R171). -/
def hostFrame (inner : List Byte) : List Byte :=
  let covered := halfBytesOf inner.length ++ inner
  0xA5 :: covered ++ halfBytes (crc covered)

/-- 10.2: a REPLY frame. -/
def replyFrame (tag : Byte) (r : Reply) : List Byte := hostFrame ([2, tag, r.status.code] ++ r.body)

/-- 10.2: a NOTICE frame. -/
def noticeFrame (n : Notice) : List Byte := hostFrame (3 :: halfBytes n.seq ++ [n.body.kind.code] ++ n.bodyBytes)

/-! ### Records in reply bodies (10.4) -/

/-- 10.3: the nine bytes of an entry; fields that do not belong to its kind are zeros. -/
def Entry.bytes (e : Entry) : List Byte :=
  match e.slot with
  | .cyclic slotLength owner label payload =>
      halfBytesOf e.start ++ [1] ++ halfBytesOf slotLength ++ [owner, label, byteOf payload, 0]
  | .openSlot floor => halfBytesOf e.start ++ [2] ++ halfBytesOf Config.openLength ++ [0, 0, 0, byteOf floor]

/-- 10.4: the flags byte of the record of a bound channel. -/
def Channel.flags (c : Channel) : Byte :=
  match c.direction with
  | .produce age =>
      0x80 ||| (if c.report then 0x20 else 0) ||| (if c.value.isSome then 0x10 else 0) |||
        (if age.isSome then 0x08 else 0)
  | .consume d =>
      0x80 ||| 0x40 ||| (if c.report then 0x20 else 0) ||| (if c.value.isSome then 0x10 else 0) |||
        (if d.received.isSome then 0x08 else 0) ||| (if d.received.isSome then 0x04 else 0)

/-- 10.4: the state, age, miss count, limits and last receive cycle of a channel record. -/
def Direction.recordBytes : Direction → List Byte
  | .produce age => [flagByte age.isSome, byteOf (age.getD 0), 0, 0, 0] ++ wordBytes 0
  | .consume d =>
      [d.state.code, (d.received.map (·.age)).getD 0, byteOf d.missCount, byteOf d.missLimit, d.staleLimit] ++
        wordBytes ((d.received.map (·.cycle)).getD 0)

/-- 10.4: one channel record: 14 bytes, then the value of a bound channel, zeros when it is absent. -/
def channelRecord (number : Nat) : Option Channel → List Byte
  | none => byteOf number :: List.replicate 13 0
  | some c =>
      [byteOf number, c.flags, c.label, byteOf c.length, c.resolution.code] ++ c.direction.recordBytes ++
        c.value.getD (List.replicate c.length 0)

end Sys2Proof.Machine
end

