-- ==== Sys2Proof/Machine/Flags.lean ====
section
/-! DEFINITION. The conditions and flags of the part that are computed from its state: synchronisation, transmit
permission, ATTN, the saturating counters, the classes and counts of the two message units. -/

namespace Sys2Proof.Machine

/-! ### Node state -/

/-- R23: LEADING, LOCKED and HOLDOVER are the synchronised states. -/
def Timing.synchronised : Timing → Bool
  | .leading | .locked | .holdover => true
  | .offline | .claiming | .hunting => false

/-- The two states in which the node follows another node's cycle. -/
def Timing.following : Timing → Bool
  | .locked | .holdover => true
  | .offline | .claiming | .hunting | .leading => false

/-- R19: the operating state is ONLINE exactly when the timing state is other than OFFLINE. -/
def State.online (s : State) : Bool := s.cycle.timing != .offline

/-- 10.6: the code of the operating state. -/
def State.operatingCode (s : State) : Byte := flagByte s.online

/-- The cycle the node is in, when it is synchronised (R23). -/
def State.current (s : State) : Option CycleNow :=
  if s.cycle.timing.synchronised then s.cycle.now else none

/-- R146: the cycle number a notice records. -/
def State.cycleNumber (s : State) : Option Word := s.current.map (·.number)

/-- R36: permission for cyclic frames. -/
def CycleUnit.cyclicPermission (c : CycleUnit) : Bool :=
  match c.timing with
  | .leading => true
  | .locked | .holdover => !c.listenOnly
  | .offline | .claiming | .hunting => false

/-- R36: permission for segments. -/
def CycleUnit.segmentPermission (c : CycleUnit) : Bool :=
  match c.timing with
  | .leading => true
  | .locked => !c.listenOnly
  | .offline | .claiming | .hunting | .holdover => false

/-- R75: after a late adoption, from the accepted frame that clears listen-only to the end of its cycle, a following node
does not send yet (log entry 17). -/
def State.resting (s : State) : Bool := s.cycle.timing.following && s.sched.takeUp == .awaitsCycle

/-- R36, R75: a cyclic frame may be begun. -/
def State.maySendCyclic (s : State) : Bool := s.cycle.cyclicPermission && !s.resting

/-- R36, R75: a segment may be begun. -/
def State.maySendSegment (s : State) : Bool := s.cycle.segmentPermission && !s.resting

/-- R24: a usable cycle length. -/
def usableLength (n : Nat) : Bool := Config.minCycle ≤ n && n ≤ Config.maxCycle

/-! ### The active bank -/

/-- R43: the cycle length read from the ACTIVE bank; the bare cycle length while the active epoch is 0. -/
def State.activeLength (s : State) : Nat :=
  if s.sched.active.epoch = 0 then s.cycle.bareLength else s.sched.active.cycleLength.getD s.cycle.bareLength

/-- R42: the slot length of an entry. -/
def Entry.slotLength (e : Entry) : Nat :=
  match e.slot with
  | .cyclic n _ _ _ => n
  | .openSlot _ => Config.openLength

/-- R42: the end of an entry. -/
def Entry.finish (e : Entry) : Nat := e.start + e.slotLength

/-- R42: the entry is CYCLIC. -/
def Entry.isCyclic (e : Entry) : Bool :=
  match e.slot with
  | .cyclic _ _ _ _ => true
  | .openSlot _ => false

/-- R42: the label of a CYCLIC entry. -/
def Entry.label? (e : Entry) : Option Byte :=
  match e.slot with
  | .cyclic _ _ label _ => some label
  | .openSlot _ => none

/-! ### Counters -/

/-- R17, R140: a counter of 16 bits that saturates. -/
def bump (n : Nat) : Nat := if n < Config.counterMax then n + 1 else Config.counterMax

/-! ### Outbound messages -/

/-- R103: the number of data segments of a message of this total length. -/
def segmentCount (total : Nat) : Nat := (total + Config.segmentSize - 1) / Config.segmentSize

/-- R103: the last byte of segment i plus one. -/
def segmentEnd (total i : Nat) : Nat := min (Config.segmentSize * (i + 1)) total

/-- R103: segment i is supplied. -/
def Message.suppliedSegment (m : Message) (i : Nat) : Bool := segmentEnd m.total i ≤ m.data.length

/-- R101: block k of a message of this total length is held: a byte of it is supplied and one is not sent. -/
def blockHeld (total supplied sent k : Nat) : Bool :=
  Config.blockSize * k < supplied && sent < min (Config.blockSize * k + Config.blockSize) total

/-- R101: the blocks a message holds; none once it is ABORTING (R116). -/
def Message.blocks (m : Message) : Nat :=
  match m.state with
  | .aborting _ _ _ => 0
  | .waiting | .inFlight _ => (List.range 16).countP (fun k => blockHeld m.total m.data.length m.sent k)

/-- R101: the blocks that a piece of p bytes at offset o needs: the multiples of 64 within it. -/
def piecesBlocks (o p : Nat) : Nat := (o + p + 63) / Config.blockSize - (o + 63) / Config.blockSize

/-- R98: the message is WAITING. -/
def Message.waiting (m : Message) : Bool :=
  match m.state with
  | .waiting => true
  | .inFlight _ | .aborting _ _ _ => false

/-- R110: the highest class among the WAITING messages, 0 when there is none. -/
def highestWaiting (q : List Message) : Nat :=
  q.foldl (fun best m => if m.waiting then max best m.cls else best) 0

/-- R110: the effective class with which the first message of the queue contends. -/
def effectiveClass (m : Message) (q : List Message) : Nat :=
  if m.waiting then m.cls else max m.cls (highestWaiting q)

/-- Section 1.9: the arbitration key, three less the effective class, times 64, plus the node address. -/
def arbitrationKey (effective : Nat) (address : Byte) : Byte := byteOf ((3 - effective) * 64) + address

/-! ### Inbound messages -/

/-- R126: the blocks that hold this many bytes. -/
def blocksFor (bytes : Nat) : Nat := (bytes + Config.blockSize - 1) / Config.blockSize

/-- R125: the blocks a context holds. -/
def Context.blocks (c : Context) : Nat := blocksFor c.data.length

/-- R137: the blocks a receive queue entry holds. -/
def Arrival.blocks (a : Arrival) : Nat := blocksFor a.data.length

/-! ### The host link -/

/-- R164: the tag of the reply that a frame carries. -/
def OutFrame.replyTag (f : OutFrame) : Option Byte :=
  match f.what with
  | .reply tag => some tag
  | .notice _ => none

/-- R164: the reply to this tag is in progress or held, that is, it has been begun. -/
def HostLink.begun (l : HostLink) (tag : Byte) : Bool :=
  l.outbound.bind OutFrame.replyTag == some tag || l.held.bind OutFrame.replyTag == some tag

/-- R164: an entry whose reply waits: TAKEN and not begun. -/
def HostLink.replyWaits (l : HostLink) (q : Request) : Bool := q.reply.isSome && !l.begun q.tag

/-- R151: the notice at the delivery point. -/
def NoticeUnit.deliveryPoint (n : NoticeUnit) : Option Notice := n.queue[n.delivered]?

/-- R164: a frame waits: a reply not begun, or a notice at the delivery point. -/
def State.frameWaits (s : State) : Bool :=
  s.link.buffer.any s.link.replyWaits || s.notices.deliveryPoint.isSome

/-- R166: ATTN is asserted while a frame waits or a frame is held. -/
def State.attnLevel (s : State) : Bool := s.frameWaits || s.link.held.isSome

/-- R157: MODE high selects SPI mode. -/
def HostLink.spi (l : HostLink) : Bool := l.straps.mode

/-- R157: the UART rate in baud that the rate straps select. -/
def Straps.uartRate (p : Straps) : Nat :=
  match p.rate1, p.rate0 with
  | false, false => 115200
  | false, true => 921600
  | true, false => 2000000
  | true, true => 3000000

end Sys2Proof.Machine
end

