-- ==== Sys2Proof/Machine/Ops.lean ====
section
/-! DEFINITION. The operations that the families share: answering with a next state, giving a notice, taking a request
from the request buffer, bringing the line clock to an instant. -/

namespace Sys2Proof.Machine

/-- The outcome type of every meaning. -/
abbrev Result := Host.Outcome State Fault Refusal

/-! ### Ending a step -/

/-- R166: the state with ATTN set by its test. -/
def State.setAttn (s : State) : State := { s with link := { s.link with attn := s.attnLevel } }

/-- Every meaning that acts ends here: the next state, ATTN set anew. -/
def finish (s : State) : Result := .next s.setAttn

/-- DESIGN CHOICE, safe (log entry 3): an event that cannot occur in this state leaves it as it is. -/
def noEvent (s : State) : Result := .next s

/-! ### Time -/

/-- R7: the signed distance of an instant from another, such as a cycle's origin, on the line clock. -/
def offsetFrom (origin t : Word) : Int := (t - origin).toInt

/-- R12: a segment that waits for its first bit has come to it at this instant. -/
def OwnSegment.beginsBy (g : OwnSegment) (t : Word) : Bool :=
  match g.way with
  | .waits since => 0 ≤ offsetFrom since t
  | .sends _ | .silent _ => false

/-- R12: the segment at this instant: it has been begun once its first bit has come. -/
def OwnSegment.asOf (g : OwnSegment) (t : Word) : OwnSegment :=
  match g.way with
  | .waits since => if g.beginsBy t then { g with way := .sends since } else g
  | .sends _ | .silent _ => g

/-- R1, R4, R12: the line clock stands at this instant. TXEN is asserted for a segment that has been begun by then. -/
def TrunkInterface.reach (i : TrunkInterface) (t : Word) : TrunkInterface :=
  { i with lineClock := t, segment := i.segment.map (fun g => g.asOf t),
           txen := i.txen || i.segment.any (fun g => g.beginsBy t) }

/-- DESIGN CHOICE, safe (log entry 5): an event whose instant the state determines brings the line clock to it. -/
def State.atInstant (t : Word) (s : State) : State := { s with trunk := s.trunk.reach t }

/-- R1: one byte time passes. The line clock runs in every state and wraps. -/
def State.tick (s : State) : State := s.atInstant (s.trunk.lineClock + 1)

/-! ### Notices -/

/-- R146, R147, R148: a record joins the queue with the next sequence number, or is counted as lost. -/
def queueNotice (body : NoticeBody) (s : State) : State :=
  if Config.noticeSize ≤ s.notices.queue.length then
    { s with notices := { s.notices with lost := min Config.lostMax (s.notices.lost + 1) } }
  else
    { s with notices := { s.notices with
        queue := s.notices.queue ++ [{ seq := s.notices.nextSeq, cycle := s.cycleNumber, body := body }],
        nextSeq := s.notices.nextSeq + 1 } }

/-- R149: the kind of the notice is disabled; the fixed kinds never are. -/
def NoticeUnit.masked (n : NoticeUnit) (k : NoticeKind) : Bool := maskableKinds.contains k && n.disabled.contains k

/-- R146, R149: a block gives a notice. One of a disabled kind is not created. -/
def giveNotice (body : NoticeBody) (s : State) : State :=
  if s.notices.masked body.kind then s else queueNotice body s

/-- R146: several notices of one event, in the order the owning rule fixes. -/
def giveNotices (bodies : List NoticeBody) (s : State) : State := bodies.foldl (fun s b => giveNotice b s) s

/-! ### Requests -/

/-- The reply to a request that is taken. -/
def Reply.okWith (body : List Byte) : Reply := { status := .ok, body := body }

/-- The reply to a request that is refused. -/
def Reply.refuse (status : Status) (detail : List Byte) : Reply := { status := status, body := detail }

/-- R162: the oldest ACCEPTED entry. -/
def oldestAccepted (buffer : List Request) : Option Request := buffer.find? (fun q => q.reply.isNone)

/-- R161, R162: the oldest ACCEPTED entry becomes TAKEN with its reply. -/
def answerOldest (r : Reply) : List Request → List Request
  | [] => []
  | q :: rest => if q.reply.isNone then { q with reply := some r } :: rest else q :: answerOldest r rest

/-- R162: the reply joins the entry of the request that has been taken. -/
def State.answer (r : Reply) (s : State) : State :=
  { s with link := { s.link with buffer := answerOldest r s.link.buffer } }

/-- R162: the detail of BAD_LENGTH is the body length received. -/
def badLength (body : List Byte) : Reply := .refuse .badLength (halfBytesOf body.length)

/-- What the owning block does with a request it is handed: the reply it forms and the state it leaves. -/
abbrev Handler := List Byte → State → Reply × State

/-- R162: the interpreter takes the oldest ACCEPTED entry, if its command code is this one. A body of a length not
allowed is answered with BAD_LENGTH and handed to no block. When no such entry is there to take, the event cannot
occur. -/
def takeRequest (code : Byte) (run : Handler) (s : State) : Result :=
  match oldestAccepted s.link.buffer with
  | none => noEvent s
  | some q =>
    if q.code ≠ code then noEvent s
    else if (bodyShape code).any (fun shape => shape.allows q.body) then
      finish ((run q.body s).2.answer (run q.body s).1)
    else finish (s.answer (badLength q.body))

/-- The first item of a list that fails a test, with its place counted from 1; `place` is the place of the head. -/
def firstFailing (ok : Byte → Bool) (place : Nat) : List Byte → Option Nat
  | [] => none
  | b :: rest => if ok b then firstFailing ok (place + 1) rest else some place

end Sys2Proof.Machine
end

