-- ==== Sys2Proof/Machine/HostLink.lean ====
section
/-! DEFINITION. The host link (chapter 9): the receiver, acceptance, the selector, link reset, BAD_REQUEST. -/

namespace Sys2Proof.Machine

/-- The state with another host link. -/
def State.withLink (s : State) (l : HostLink) : State := { s with link := l }

/-- R156: LINK_ERROR is given. -/
def linkError (reason : LinkReason) (tag : Option Byte) (s : State) : State := giveNotice (.linkError reason tag) s

/-! ### Link reset -/

/-- R154: the delivery point is the oldest queued notice. -/
def rewindNotices (s : State) : State := { s with notices := { s.notices with delivered := 0 } }

/-- R168: the receiver hunts; a partial inbound frame is discarded with LINK_ERROR (TRUNCATED). -/
def discardInbound (s : State) : State :=
  if s.link.rx.isEmpty then s else linkError .truncated none (s.withLink { s.link with rx := [] })

/-- R168: the request buffer is emptied, the outbound frame in progress or held is discarded. -/
def clearLink (s : State) : State := s.withLink { s.link with buffer := [], outbound := none, held := none }

/-- R168: a link reset. ATTN is set anew at the end of the step. -/
def linkReset (s : State) : State := rewindNotices (clearLink (discardInbound s))

/-! ### Acceptance -/

/-- R161: a good request joins the buffer as an ACCEPTED entry. -/
def acceptRequest (tag code : Byte) (body : List Byte) (s : State) : State :=
  s.withLink { s.link with buffer := s.link.buffer ++ [{ tag := tag, code := code, body := body, reply := none }] }

/-- R161: the checks at acceptance, in order. -/
def considerRequest (tag code : Byte) (body : List Byte) (s : State) : State :=
  if tag = 0 then linkError .zeroTag (some 0) s
  else if s.link.buffer.any (fun q => q.tag == tag) then linkError .tagInUse (some tag) s
  else if Config.bufferSize ≤ s.link.buffer.length then linkError .overrun (some tag) s
  else acceptRequest tag code body s

/-! ### The receiver -/

/-- R160: how long a frame is that opens with these three bytes or more: 5 bytes beyond its length field (10.2). -/
def hostLength (frame : List Byte) : Nat := (halfAt frame 1).toNat + 5

/-- R160: the CRC of a complete frame is right. -/
def hostCrcOk (frame : List Byte) : Bool :=
  crc ((frame.drop 1).take (frame.length - 3)) == halfAt frame (frame.length - 2)

/-- R160: the body of a REQUEST frame: what stands between its header and its CRC. -/
def hostBody (frame : List Byte) : List Byte := (frame.drop 6).take (frame.length - 8)

/-- R160: a complete frame meets checks 3 to 5; a good REQUEST goes to acceptance, a good RESYNC resets the link. -/
def judgeHostFrame (frame : List Byte) (s : State) : State :=
  if !hostCrcOk frame then linkError .crc none s
  else if byteAt frame 3 = 1 then
    if (halfAt frame 1).toNat < 3 then linkError .length none s
    else considerRequest (byteAt frame 4) (byteAt frame 5) (hostBody frame) s
  else if byteAt frame 3 = 0x0F then
    if (halfAt frame 1).toNat ≠ 1 then linkError .length none s else linkReset s
  else linkError .kind none s

/-- The receiver hunts. -/
def hunt (s : State) : State := s.withLink { s.link with rx := [] }

/-- The receiver holds these bytes of an inbound frame. -/
def holdInbound (frame : List Byte) (s : State) : State := s.withLink { s.link with rx := frame }

/-- R160: a byte joins the frame in progress: check 1 once the length field is in, checks 3 to 5 at the last CRC byte. -/
def inboundByte (frame : List Byte) (s : State) : State :=
  if frame.length < 3 then holdInbound frame s
  else if (halfAt frame 1).toNat = 0 || Config.maxHostLength < (halfAt frame 1).toNat then
    linkError .length none (hunt s)
  else if frame.length < hostLength frame then holdInbound frame s
  else judgeHostFrame frame (hunt s)

/-- R159, R160: one byte arrives. While hunting, every byte but A5 hex is passed over; after a break the receiver waits
for HRX to return high. -/
def receiveByte (s : State) (b : Byte) : State :=
  if s.link.breakLow then s
  else if s.link.rx.isEmpty && b ≠ 0xA5 then s
  else inboundByte (s.link.rx ++ [b]) s

/-- R158: in SPI mode bytes pass only inside a transaction, so that SEL is asserted. -/
def inTransaction (s : State) : State := s.withLink { s.link with sel := s.link.sel || s.link.spi }

/-- HOST_FRAME_RECEIVED (R160): bytes arrive in order. Bytes that end inside a frame leave it in progress. -/
def execHostFrameReceived (bytes : List Byte) (s : State) : Result :=
  finish (bytes.foldl receiveByte (inTransaction s))

/-- R158, R159: a frame in progress is given up as TRUNCATED and the receiver hunts. -/
def giveUpInbound (s : State) : State := if s.link.rx.isEmpty then s else linkError .truncated none (hunt s)

/-- BREAK (R159, R167): a link reset in UART mode; a break that lasts longer triggers no other. -/
def execBreak (s : State) : Result :=
  if s.link.spi || s.link.breakLow then noEvent s
  else finish ((linkReset s).withLink { (linkReset s).link with breakLow := true })

/-- BREAK_END (R159): HRX returns high, and the receiver hunts from the next character. -/
def execBreakEnd (s : State) : Result :=
  if s.link.breakLow then finish (s.withLink { s.link with breakLow := false }) else noEvent s

/-- FRAMING_FAULT (R159): outside a frame it is passed over. -/
def execFramingFault (s : State) : Result := if s.link.spi then noEvent s else finish (giveUpInbound s)

/-- GAP (R159): while an inbound frame is in progress in UART mode. -/
def execGap (s : State) : Result := if s.link.spi then noEvent s else finish (giveUpInbound s)

/-- R158: an outbound frame not sent whole is held. -/
def holdOutbound (s : State) : State :=
  match s.link.outbound with
  | some f => s.withLink { s.link with outbound := none, held := some f }
  | none => s

/-- R158: the transaction is over. -/
def dropSel (s : State) : State := s.withLink { s.link with sel := false }

/-- SEL_NEGATED (R158): the end of a transaction in SPI mode. -/
def execSelNegated (s : State) : Result :=
  if s.link.spi then finish (dropSel (holdOutbound (giveUpInbound s))) else noEvent s

/-! ### The selector -/

/-- R164: the oldest entry whose reply waits, with that reply. -/
def oldestReply (l : HostLink) : Option (Byte × Reply) :=
  l.buffer.findSome? (fun q => if l.replyWaits q then q.reply.map (fun r => (q.tag, r)) else none)

/-- A frame is begun. -/
def beginOutbound (f : OutFrame) (s : State) : State := s.withLink { s.link with outbound := some f, held := none }

/-- R151: the notice at the delivery point is taken, and the delivery point moves on. -/
def takeNotice (s : State) : State := { s with notices := { s.notices with delivered := s.notices.delivered + 1 } }

/-- R158, R164: the held frame, else the oldest waiting reply, else the notice at the delivery point, else none. -/
def selectFrame (s : State) : State :=
  match s.link.held, oldestReply s.link, s.notices.deliveryPoint with
  | some f, _, _ => beginOutbound f s
  | none, some (tag, r), _ => beginOutbound { what := .reply tag, bytes := replyFrame tag r } s
  | none, none, some n => beginOutbound { what := .notice n, bytes := noticeFrame n } (takeNotice s)
  | none, none, none => s

/-- OUTBOUND_SELECT (R164): the selector's chance, which it has while no frame is in progress; in SPI mode it comes at a
byte boundary inside a transaction. -/
def execOutboundSelect (s : State) : Result :=
  if s.link.outbound.isSome then noEvent s else finish (selectFrame (inTransaction s))

/-- R163: the entry with this tag leaves the buffer, and its tag is free. -/
def removeEntry (tag : Byte) (s : State) : State :=
  s.withLink { s.link with buffer := s.link.buffer.filter (fun q => q.tag != tag), outbound := none }

/-- REPLY_SENT (R163): the last byte of the reply frame in progress has been sent. -/
def execReplySent (s : State) : Result :=
  match s.link.outbound.bind OutFrame.replyTag with
  | some tag => finish (removeEntry tag s)
  | none => noEvent s

/-- NOTICE_FRAME_SENT (R164): the last byte of the notice frame in progress has been sent. -/
def execNoticeFrameSent (s : State) : Result :=
  match s.link.outbound with
  | some { what := .notice _, .. } => finish (s.withLink { s.link with outbound := none })
  | some { what := .reply _, .. } | none => noEvent s

/-! ### BAD_REQUEST -/

/-- BAD_REQUEST (R162): the interpreter takes the oldest ACCEPTED entry when its command code names no request. The
detail is the code as received. -/
def execBadRequest (s : State) : Result :=
  match oldestAccepted s.link.buffer with
  | none => noEvent s
  | some q =>
    if (bodyShape q.code).isSome then noEvent s
    else finish (s.answer (.refuse .badRequest [q.code]))

end Sys2Proof.Machine
end

