-- ==== Sys2Proof/Machine/Notices.lean ====
section
/-! DEFINITION. The requests of the notice unit (chapter 8). How a notice is given stands in Ops.lean. -/

namespace Sys2Proof.Machine

/-- R149: the kinds disabled by these codes, in ascending order of code. -/
def disabledBy (codes : List Byte) : List NoticeKind := maskableKinds.filter (fun k => codes.contains k.code)

/-- R149: NOTICE_MASK. -/
def noticeMaskRequest : Handler := fun body s =>
  if 21 < byteAt body 0 then (.refuse .badValue [0], s)
  else
    match firstFailing (fun c => (maskableOf c).isSome) 1 (body.drop 1) with
    | some place => (.refuse .badValue [byteOf place], s)
    | none =>
      (.okWith (byteOf (disabledBy (body.drop 1)).length :: (disabledBy (body.drop 1)).map NoticeKind.code),
       { s with notices := { s.notices with disabled := disabledBy (body.drop 1) } })

/-- The sequence number of the oldest queued notice. -/
def NoticeUnit.oldest (n : NoticeUnit) : Option Half := n.queue.head?.map (·.seq)

/-- 10.4: the oldest sequence number with its presence byte. -/
def oldestBytes (n : NoticeUnit) : List Byte := optionBytes 2 (n.oldest.map halfBytes)

/-- R152: the k oldest notices leave the queue, delivered or not; the delivery point stays, or is the oldest that
remains. -/
def removeNotices (k : Nat) (s : State) : State :=
  { s with notices := { s.notices with queue := s.notices.queue.drop k, delivered := s.notices.delivered - k } }

/-- R153: an OVERFLOW is queued for a lost count other than 0, which becomes 0. -/
def reportLost (s : State) : State :=
  if s.notices.lost = 0 then s
  else giveNotice (.overflow s.notices.lost) { s with notices := { s.notices with lost := 0 } }

/-- 10.4: the OK body of ACK_NOTICES, after k notices have been removed. -/
def ackReply (k : Nat) (n : NoticeUnit) : List Byte :=
  [byteOf k, byteOf n.queue.length] ++ oldestBytes n ++ halfBytes n.nextSeq ++ [byteOf n.lost]

/-- R152, R153: ACK_NOTICES. -/
def ackRequest : Handler := fun body s =>
  match s.notices.queue.findIdx? (fun n => n.seq == halfAt body 0) with
  | none => (.refuse .badValue (oldestBytes s.notices), s)
  | some i =>
    (.okWith (ackReply (i + 1) (reportLost (removeNotices (i + 1) s)).notices), reportLost (removeNotices (i + 1) s))

/-- NOTICE_MASK (R149). -/
def execNoticeMask (s : State) : Result := takeRequest 0x50 noticeMaskRequest s

/-- ACK_NOTICES (R152, R153). -/
def execAckNotices (s : State) : Result := takeRequest 0x51 ackRequest s

end Sys2Proof.Machine
end

