-- ==== Sys2Proof/Machine/Frames.lean ====
section
/-! DEFINITION. Trunk frames: their fields (R2), their bytes (10.7, R173), and the judgement of a received frame (R3). -/

namespace Sys2Proof.Machine

/-- R2: the fields of a cycle start frame. -/
structure CycleStartFrame where
  source : Byte
  number : Word
  epoch : Half
  length : Nat
  announces : Bool
  announcedEpoch : Half
  activation : Word
  deriving DecidableEq, Repr

/-- R2: the fields of a segment frame. `total` is the total length, present when FIRST is set. -/
structure SegmentFrame where
  key : Byte
  source : Byte
  dest : Byte
  id : Byte
  index : Nat
  first : Bool
  last : Bool
  abort : Bool
  cls : Nat
  total : Option Nat
  payload : List Byte
  deriving DecidableEq, Repr

/-- R2: a trunk frame. -/
inductive TrunkFrame where
  | cycleStart (f : CycleStartFrame)
  | cyclic (f : CyclicFrame)
  | segment (f : SegmentFrame)
  deriving DecidableEq, Repr

/-- R3: the judgement of a received frame. -/
inductive Judgement where
  | malformed
  | crcError
  | good (f : TrunkFrame)
  deriving DecidableEq, Repr

/-! ### Sending -/

/-- R171, 10.7: the lead, the covered bytes from the kind byte on, the CRC. -/
def trunkBytes (covered : List Byte) : List Byte := [0x55, 0x55, 0x4E] ++ covered ++ halfBytes (crc covered)

/-- R2, R173: a clear announcement flag is sent with zeros in the two fields after it. -/
def CycleStartFrame.announcement (f : CycleStartFrame) : List Byte :=
  if f.announces then 1 :: (halfBytes f.announcedEpoch ++ wordBytes f.activation) else List.replicate 7 0

/-- 10.7: the bytes of a cycle start frame. -/
def CycleStartFrame.bytes (f : CycleStartFrame) : List Byte :=
  trunkBytes ([0x1E, f.source] ++ wordBytes f.number ++ halfBytes f.epoch ++ halfBytesOf f.length ++ f.announcement)

/-- 10.7: the bytes of a cyclic frame. -/
def CyclicFrame.bytes (f : CyclicFrame) : List Byte :=
  trunkBytes ([0x2D, f.source, f.label, f.age, byteOf f.payload.length] ++ f.payload)

/-- R173: the flags byte of a segment frame. -/
def SegmentFrame.flags (f : SegmentFrame) : Byte :=
  (if f.first then 0x80 else 0) ||| (if f.last then 0x40 else 0) ||| (if f.abort then 0x20 else 0)

/-- 10.7: the total length, present only with FIRST. -/
def SegmentFrame.totalBytes (f : SegmentFrame) : List Byte :=
  match f.total with
  | some n => halfBytesOf n
  | none => []

/-- 10.7: the bytes of a segment frame. -/
def SegmentFrame.bytes (f : SegmentFrame) : List Byte :=
  trunkBytes ([0x4B, f.key, f.source, f.dest, f.id, byteOf f.index, f.flags, byteOf f.cls, byteOf f.payload.length] ++
    f.totalBytes ++ f.payload)

/-! ### Receiving -/

/-- 10.7: where the payload of a segment begins. -/
def segmentHeader (b : List Byte) : Nat := if (byteAt b 9).getLsbD 7 then 14 else 12

/-- R2, R3: the length in byte times that the frame's own fields give it, or none where the lead, the kind or a length
field is not as checks 1 and 2 ask. -/
def expectedLength (b : List Byte) : Option Nat :=
  if b.take 3 ≠ [0x55, 0x55, 0x4E] then none
  else if byteAt b 3 = 0x1E then some 22
  else if byteAt b 3 = 0x2D then
    if 1 ≤ (byteAt b 7).toNat && (byteAt b 7).toNat ≤ 64 then some ((byteAt b 7).toNat + 10) else none
  else if byteAt b 3 = 0x4B then
    if (byteAt b 11).toNat ≤ Config.segmentSize then some (segmentHeader b + (byteAt b 11).toNat + 2) else none
  else none

/-- 10.7: the fields of a cycle start frame; of the flag byte only bit 01 hex is read (R173). -/
def readCycleStart (b : List Byte) : CycleStartFrame :=
  { source := byteAt b 4, number := wordAt b 5, epoch := halfAt b 9, length := (halfAt b 11).toNat,
    announces := (byteAt b 13).getLsbD 0, announcedEpoch := halfAt b 14, activation := wordAt b 16 }

/-- 10.7: the fields of a cyclic frame. -/
def readCyclic (b : List Byte) : CyclicFrame :=
  { source := byteAt b 4, label := byteAt b 5, age := byteAt b 6, payload := (b.drop 8).take (byteAt b 7).toNat }

/-- 10.7: the fields of a segment frame; of the flags byte only the upper three bits are read (R173). -/
def readSegment (b : List Byte) : SegmentFrame :=
  { key := byteAt b 4, source := byteAt b 5, dest := byteAt b 6, id := byteAt b 7, index := (byteAt b 8).toNat,
    first := (byteAt b 9).getLsbD 7, last := (byteAt b 9).getLsbD 6, abort := (byteAt b 9).getLsbD 5,
    cls := (byteAt b 10).toNat,
    total := if (byteAt b 9).getLsbD 7 then some (halfAt b 12).toNat else none,
    payload := (b.drop (segmentHeader b)).take (byteAt b 11).toNat }

/-- R2: the fields of a frame by its kind. -/
def readFrame (b : List Byte) : TrunkFrame :=
  if byteAt b 3 = 0x1E then .cycleStart (readCycleStart b)
  else if byteAt b 3 = 0x2D then .cyclic (readCyclic b)
  else .segment (readSegment b)

/-- R3: the four checks in order, on the bytes on the line from the lead until it fell quiet. What follows the last CRC
byte without a quiet byte time between is not part of the frame (R1). DEDUCED, unsafe (log entry 20): a byte FF hex inside
a frame, such as destination 255, is a recessive byte time and yet not the line falling quiet; the bytes say where that
is. -/
def judge (b : List Byte) : Judgement :=
  match expectedLength b with
  | none => .malformed
  | some n =>
    if b.length < n then .malformed
    else if crc ((b.drop 3).take (n - 5)) ≠ halfAt b (n - 2) then .crcError
    else .good (readFrame b)

/-- R3: where check 1 or check 2 fails, in byte times from the first bit: when the four bytes of lead and kind are in, or
when the length byte is. DESIGN CHOICE, safe (log entry 20): check 1 is judged on the four bytes together. -/
def failsAt (b : List Byte) : Nat :=
  if b.take 3 ≠ [0x55, 0x55, 0x4E] then 4
  else if byteAt b 3 = 0x2D then 8
  else if byteAt b 3 = 0x4B then 12
  else 4

/-- R2, R3: how many byte times the interface reads the frame for: to its expected end, or until a check fails. -/
def readTime (b : List Byte) : Nat := min b.length ((expectedLength b).getD (failsAt b))

end Sys2Proof.Machine
end

