-- ==== Sys2Proof/Machine/Receive.lean ====
section
/-! DEFINITION. The receive message unit (chapter 7): the filter, the completion records, the reassembly contexts, the
receive store and queue, its four requests. -/

namespace Sys2Proof.Machine

/-! ### Small updates -/

/-- R140: one more in ORPHAN. -/
def countOrphan (s : State) : State := { s with rx := { s.rx with orphan := bump s.rx.orphan } }

/-- R140: one more in DUPLICATE. -/
def countDuplicate (s : State) : State := { s with rx := { s.rx with duplicate := bump s.rx.duplicate } }

/-- A context place is given other contents. -/
def setPlace (p : Nat) (c : Option Context) (s : State) : State :=
  { s with rx := { s.rx with places := s.rx.places.set p c } }

/-- R126: the free blocks of the receive store become n. -/
def setRxFree (n : Nat) (s : State) : State := { s with rx := { s.rx with free := n } }

/-! ### Places -/

/-- The place and context that satisfy a test, from place `p` on. -/
def findPlace (test : Context → Bool) (p : Nat) : List (Option Context) → Option (Nat × Context)
  | [] => none
  | none :: rest => findPlace test (p + 1) rest
  | some c :: rest => if test c then some (p, c) else findPlace test (p + 1) rest

/-- R125: the lowest-numbered free place, from place `p` on. -/
def freePlace (p : Nat) : List (Option Context) → Option Nat
  | [] => none
  | none :: _ => some p
  | some _ :: rest => freePlace (p + 1) rest

/-- The context a source holds. -/
def contextOfSource (source : Byte) (s : State) : Option (Nat × Context) :=
  findPlace (fun c => c.source == source) 0 s.rx.places

/-- The context with a segment's source and id. -/
def contextOfMessage (source id : Byte) (s : State) : Option (Nat × Context) :=
  findPlace (fun c => c.source == source && c.id == id) 0 s.rx.places

/-! ### Breaking -/

/-- R134: MESSAGE_DROPPED for a context. -/
def Context.dropped (c : Context) (reason : DropReason) (received : Nat) : NoticeBody :=
  .messageDropped c.source c.id c.dest reason received

/-- R134: a context is broken. -/
def breakContext (p : Nat) (c : Context) (reason : DropReason) (s : State) : State :=
  giveNotice (c.dropped reason c.data.length) (setRxFree (s.rx.free + c.blocks) (setPlace p none s))

/-! ### Completion -/

/-- R133: the record to be replaced: the highest count, and among equal counts the one set earliest. -/
def oldestRecord : List Completion → Option Completion
  | [] => none
  | r :: rest =>
    match oldestRecord rest with
    | none => some r
    | some q => if q.count ≤ r.count then some r else some q

/-- R133: room is made among the records of other sources. -/
def makeRecordRoom (records : List Completion) : List Completion :=
  if records.length < Config.recordCount then records
  else
    match oldestRecord records with
    | some q => records.filter (fun r => r.source != q.source)
    | none => records

/-- R133: a record is set. -/
def setRecord (r : Completion) (records : List Completion) : List Completion :=
  makeRecordRoom (records.filter (fun x => x.source != r.source)) ++ [r]

/-- R137: OWN for the node address, GROUP for a group id, BROADCAST for 255; by the destination's value. -/
def destKind (dest : Byte) : DestKind :=
  if dest = 255 then .broadcast else if 64 ≤ dest && dest ≤ 127 then .group else .own

/-- R137: the number after a handle; 1 follows 255. -/
def nextHandle (h : Byte) : Byte := if h = 255 then 1 else h + 1

/-- R137: the first number from h upward, round from 255 to 1, that no entry holds; `fuel` bounds the search. -/
def freeHandle (q : List Arrival) : Nat → Byte → Byte
  | 0, h => h
  | fuel + 1, h => if q.any (fun a => a.handle == h) then freeHandle q fuel (nextHandle h) else h

/-- R138: the queue entry of a complete context. -/
def arrivalOf (c : Context) (handle : Byte) (number : Word) : Arrival :=
  { handle := handle, source := c.source, id := c.id, kind := destKind c.dest, dest := c.dest, cls := c.cls,
    data := c.data, cycle := number }

/-- R138: MESSAGE_ARRIVED for an entry. -/
def Arrival.notice (a : Arrival) : NoticeBody :=
  .messageArrived a.handle a.source a.id a.kind a.dest a.cls a.data.length

/-- R133: the completion record of a context whose LAST segment had this index. -/
def recordCompletion (c : Context) (index : Nat) (s : State) : State :=
  { s with rx := { s.rx with
      records := setRecord { source := c.source, id := c.id, lastIndex := index, count := 0 } s.rx.records } }

/-- R138: a message enters the receive queue. -/
def enqueueArrival (a : Arrival) (s : State) : State :=
  giveNotice a.notice { s with rx := { s.rx with queue := s.rx.queue ++ [a], handleCounter := nextHandle a.handle } }

/-- R139: a complete message is dropped, the queue being full. -/
def dropFull (c : Context) (s : State) : State :=
  giveNotice (c.dropped .queueFull c.total) (setRxFree (s.rx.free + c.blocks) s)

/-- R138, R139: a context completes in the cycle with this number. -/
def completeContext (number : Word) (p : Nat) (c : Context) (index : Nat) (s : State) : State :=
  let freed := recordCompletion c index (setPlace p none s)
  if s.rx.queue.length < Config.queueSize then
    enqueueArrival (arrivalOf c (freeHandle s.rx.queue 9 s.rx.handleCounter) number) freed
  else dropFull c freed

/-! ### Appending -/

/-- R129: the context with a payload appended. DEDUCED (log entry 19): after a segment with index 25 that is not LAST, which
R124 lets pass, the next index is 26, one above the range that R125 gives it. -/
def Context.appended (c : Context) (f : SegmentFrame) : Context :=
  { c with data := c.data ++ f.payload, next := c.next + 1, idle := 0 }

/-- R126: the blocks that appending a payload needs. -/
def Context.needs (c : Context) (f : SegmentFrame) : Nat := (c.appended f).blocks - c.blocks

/-- R131: after a LAST segment has been appended the context is complete, or is broken with LENGTH. -/
def closeAppended (number : Word) (p : Nat) (c : Context) (f : SegmentFrame) (s : State) : State :=
  if !f.last then s
  else if c.data.length = c.total then completeContext number p c f.index s
  else breakContext p c .length s

/-- R129, R131: a segment of the expected index meets the context at a place: the length check, the block check, the
append. -/
def appendSegment (number : Word) (p : Nat) (c : Context) (f : SegmentFrame) (s : State) : State :=
  if c.total < c.data.length + f.payload.length then breakContext p c .length s
  else if s.rx.free < c.needs f then breakContext p c .noRoom s
  else
    closeAppended number p (c.appended f) f
      (setRxFree (s.rx.free - c.needs f) (setPlace p (some (c.appended f)) s))

/-- R127: the context a FIRST segment opens, before the segment is appended. -/
def Context.opened (f : SegmentFrame) : Context :=
  { source := f.source, id := f.id, dest := f.dest, cls := f.cls, total := f.total.getD 0, next := 0, data := [],
    idle := 0 }

/-- R127: MESSAGE_DROPPED for a FIRST segment that opens no context. -/
def firstDropped (f : SegmentFrame) (reason : DropReason) : NoticeBody :=
  .messageDropped f.source f.id f.dest reason 0

/-- R127: a FIRST segment whose source holds no context. -/
def openContext (number : Word) (f : SegmentFrame) (s : State) : State :=
  match freePlace 0 s.rx.places with
  | none => giveNotice (firstDropped f .noContext) s
  | some p =>
    if s.rx.free = 0 then giveNotice (firstDropped f .noRoom) s
    else appendSegment number p (Context.opened f) f s

/-- R127, R128: a FIRST segment. -/
def firstSegment (number : Word) (f : SegmentFrame) (s : State) : State :=
  match contextOfSource f.source s with
  | none => openContext number f s
  | some (p, c) =>
    if c.id = f.id && c.next = 1 then countDuplicate s
    else openContext number f (breakContext p c .superseded s)

/-- R130: a data segment that finds no context with its source and id. -/
def orphanSegment (f : SegmentFrame) (s : State) : State :=
  match contextOfSource f.source s with
  | none => countOrphan s
  | some (p, c) => breakContext p c .superseded (countOrphan s)

/-- R129, R130: a data segment that is not FIRST. -/
def laterSegment (number : Word) (f : SegmentFrame) (s : State) : State :=
  match contextOfMessage f.source f.id s with
  | none => orphanSegment f s
  | some (p, c) =>
    if f.index = c.next then appendSegment number p c f s
    else if f.index + 1 = c.next then countDuplicate s
    else breakContext p c .gap s

/-- R132: an abort segment. -/
def abortReceived (f : SegmentFrame) (s : State) : State :=
  match contextOfMessage f.source f.id s with
  | none => s
  | some (p, c) => breakContext p c .aborted s

/-- Sections 7.3 and 7.4: a consistent segment that no completion record claims. -/
def contextSegment (number : Word) (f : SegmentFrame) (s : State) : State :=
  if f.abort then abortReceived f s
  else if f.first then firstSegment number f s
  else laterSegment number f s

/-! ### The filter -/

/-- R123: the destination filter. -/
def takenSegment (f : SegmentFrame) (s : State) : Bool :=
  f.source != s.cycle.address &&
    (f.dest == s.cycle.address || s.rx.groups.contains f.dest || f.dest == 255 ||
      (contextOfMessage f.source f.id s).any (fun pc => pc.2.dest == f.dest))

/-- R124: the total length of a FIRST data segment lies in 1 to 1,024. -/
def totalOk (f : SegmentFrame) : Bool := f.total.all (fun n => 1 ≤ n && n ≤ Config.maxMessage)

/-- R124: a segment that departs from the form of R103. -/
def SegmentFrame.inconsistent (f : SegmentFrame) : Bool :=
  !(1 ≤ f.source && f.source ≤ 62) || 3 < f.cls ||
    (if f.abort then f.first || f.last || f.payload.length != 0 || !(1 ≤ f.index && f.index ≤ 25)
     else f.payload.length == 0 || f.first != (f.index == 0) || 25 < f.index || !totalOk f)

/-- R133: the segment repeats the last segment of the message of a record. -/
def Completion.claims (r : Completion) (f : SegmentFrame) : Bool :=
  !f.abort && f.id == r.id && f.index == r.lastIndex

/-- R133: a consistent segment is first compared with the completion record of its source. -/
def consistentSegment (number : Word) (f : SegmentFrame) (s : State) : State :=
  match s.rx.records.find? (fun r => r.source == f.source) with
  | none => contextSegment number f s
  | some r =>
    if r.claims f then countDuplicate s
    else contextSegment number f { s with rx := { s.rx with records := s.rx.records.filter (fun x => x.source != f.source) } }

/-- R123, R124: a segment is handed to the receive message unit in the cycle with this number. -/
def receiveSegment (number : Word) (f : SegmentFrame) (s : State) : State :=
  if !takenSegment f s then s
  else if f.inconsistent then countOrphan s
  else consistentSegment number f s

/-! ### Cycle starts and departures -/

/-- R134: the open contexts at these places that satisfy a test are broken, in this order. -/
def breakWhere (test : Context → Bool) (reason : DropReason) : List Nat → State → State
  | [], s => s
  | p :: rest, s =>
    match s.rx.places[p]? with
    | some (some c) => breakWhere test reason rest (if test c then breakContext p c reason s else s)
    | some none | none => breakWhere test reason rest s

/-- R135: the idle cycles of a context increase by one. -/
def Context.idled (c : Context) : Context := { c with idle := c.idle + 1 }

/-- R133: the count of a record increases by one. -/
def Completion.counted (r : Completion) : Completion := { r with count := r.count + 1 }

/-- R133: the records after a cycle start. -/
def countRecords (records : List Completion) : List Completion :=
  (records.map Completion.counted).filter (fun r => r.count < Config.recordLimit)

/-- R133, R135: every count of the receive message unit advances. -/
def receiveCounts (s : State) : State :=
  { s with rx := { s.rx with places := s.rx.places.map (fun o => o.map Context.idled),
                             records := countRecords s.rx.records } }

/-- R133, R135: the receive message unit at a cycle start. -/
def receiveCycleStart (s : State) : State :=
  breakWhere (fun c => Config.idleLimit ≤ c.idle) .timeout (List.range Config.placeCount) (receiveCounts s)

/-- R136: the receive message unit at a departure; `reason` is SYNC or OFFLINE. -/
def receiveDepart (reason : DropReason) (s : State) : State :=
  breakWhere (fun _ => true) reason (List.range Config.placeCount) { s with rx := { s.rx with records := [] } }

/-! ### Requests -/

/-- R122: the place of the first id outside 64 to 127 or equal to an earlier id of the request. -/
def groupFault (seen : List Byte) (place : Nat) : List Byte → Option Nat
  | [] => none
  | g :: rest =>
    if !(64 ≤ g && g ≤ 127) || seen.contains g then some place else groupFault (g :: seen) (place + 1) rest

/-- R122: SET_GROUPS. -/
def setGroupsRequest : Handler := fun body s =>
  if 8 < byteAt body 0 then (.refuse .badValue [0], s)
  else
    match groupFault [] 1 (body.drop 1) with
    | some place => (.refuse .badValue [byteOf place], s)
    | none => (.okWith [byteAt body 0], { s with rx := { s.rx with groups := body.drop 1 } })

/-- The receive queue entry that holds a handle. -/
def arrivalWith (q : List Arrival) (handle : Byte) : Option Arrival := q.find? (fun a => a.handle == handle)

/-- R141: READ_MESSAGE. -/
def readMessageRequest : Handler := fun body s =>
  let offset := (halfAt body 1).toNat
  let count := (byteAt body 3).toNat
  match arrivalWith s.rx.queue (byteAt body 0) with
  | none => (.refuse .unknownHandle [], s)
  | some a =>
    if count < 1 || 200 < count then (.refuse .badValue (halfBytesOf a.data.length), s)
    else if a.data.length ≤ offset || a.data.length < offset + count then
      (.refuse .badValue (halfBytesOf a.data.length), s)
    else (.okWith ([a.handle] ++ halfBytesOf offset ++ [byteOf count] ++ (a.data.drop offset).take count), s)

/-- R142: RELEASE_MESSAGE. -/
def releaseRequest : Handler := fun body s =>
  match arrivalWith s.rx.queue (byteAt body 0) with
  | none => (.refuse .unknownHandle [], s)
  | some a =>
    (.okWith [byteOf (s.rx.free + a.blocks)],
     { s with rx := { s.rx with queue := s.rx.queue.filter (fun x => x.handle != a.handle),
                                free := s.rx.free + a.blocks } })

/-- 10.4: an inbound entry, 13 bytes. -/
def Arrival.record (a : Arrival) : List Byte :=
  [a.handle, a.source, a.id, a.kind.code, a.dest, byteOf a.cls] ++ halfBytesOf a.data.length ++ [byteOf a.blocks] ++
    wordBytes a.cycle

/-- 10.4: a context, 12 bytes. -/
def Context.record (p : Nat) (c : Context) : List Byte :=
  [byteOf p, c.source, c.id, c.dest, byteOf c.cls] ++ halfBytesOf c.total ++ [byteOf c.next] ++
    halfBytesOf c.data.length ++ [byteOf c.blocks, byteOf c.idle]

/-- 10.4: the open contexts from place `p` on, each with its place. -/
def contextRecords (p : Nat) : List (Option Context) → List Byte
  | [] => []
  | none :: rest => contextRecords (p + 1) rest
  | some c :: rest => c.record p ++ contextRecords (p + 1) rest

/-- 10.4: a completion record, 4 bytes. -/
def Completion.record (r : Completion) : List Byte := [r.source, r.id, byteOf r.lastIndex, byteOf r.count]

/-- 10.4: the group ids in eight places, unused places 0. -/
def groupBytes (groups : List Byte) : List Byte := groups ++ List.replicate (8 - groups.length) 0

/-- R143: READ_INBOUND. DESIGN CHOICE, unsafe (log entry 8): the completion records stand in the order they were set. -/
def readInboundRequest : Handler := fun _ s =>
  (.okWith ([byteOf s.rx.free, s.rx.handleCounter, byteOf s.rx.groups.length] ++ groupBytes s.rx.groups ++
    [byteOf s.rx.queue.length] ++ s.rx.queue.flatMap Arrival.record ++
    [byteOf (s.rx.places.countP Option.isSome)] ++ contextRecords 0 s.rx.places ++
    [byteOf s.rx.records.length] ++ s.rx.records.flatMap Completion.record), s)

/-- SET_GROUPS (R122). -/
def execSetGroups (s : State) : Result := takeRequest 0x40 setGroupsRequest s

/-- READ_MESSAGE (R141). -/
def execReadMessage (s : State) : Result := takeRequest 0x41 readMessageRequest s

/-- RELEASE_MESSAGE (R142). -/
def execReleaseMessage (s : State) : Result := takeRequest 0x42 releaseRequest s

/-- READ_INBOUND (R143). -/
def execReadInbound (s : State) : Result := takeRequest 0x43 readInboundRequest s

end Sys2Proof.Machine
end

