-- ==== Sys2Proof/Machine/Channels.lean ====
section
/-! DEFINITION. The channel unit (chapter 5): resolution, the produce and consume rules, its five requests. -/

namespace Sys2Proof.Machine

/-! ### Resolution -/

/-- R83: the owner and payload length of the CYCLIC entry that carries a label. -/
def slotOfLabel (entries : List Entry) (label : Byte) : Option (Byte × Nat) :=
  entries.findSome? (fun e =>
    match e.slot with
    | .cyclic _ owner l payload => if l = label then some (owner, payload) else none
    | .openSlot _ => none)

/-- R83: PRODUCE asks that the node own the entry, CONSUME that another node own it. -/
def Direction.ownerFits (d : Direction) (owner address : Byte) : Bool :=
  match d with
  | .produce _ => owner == address
  | .consume _ => owner != address

/-- R83: the checks ABSENT, OWNER and LENGTH in order. -/
def resolve (entries : List Entry) (address label : Byte) (length : Nat) (d : Direction) : Resolution :=
  match slotOfLabel entries label with
  | none => .absent
  | some (owner, payload) =>
    if !d.ownerFits owner address then .owner
    else if payload ≠ length then .length
    else .resolved

/-- R83: the resolution a channel has against the ACTIVE bank and the node address as they stand. -/
def State.resolutionOf (s : State) (label : Byte) (length : Nat) (d : Direction) : Resolution :=
  resolve s.sched.active.entries s.cycle.address label length d

/-- R84: how the fields of a direction follow from a new resolution. -/
def Direction.follow (before after : Resolution) : Direction → Direction
  | .produce age => .produce age
  | .consume c =>
    if after ≠ .resolved then .consume { c with state := .unscheduled, missCount := 0 }
    else if before = .resolved then .consume c
    else .consume { c with state := .waiting, missCount := 0 }

/-- R84: a bound channel resolved afresh. -/
def State.reresolve (s : State) (c : Channel) : Channel :=
  let after := s.resolutionOf c.label c.length c.direction
  { c with resolution := after, direction := c.direction.follow c.resolution after }

/-- R92: the age at source, present when the new state is FRESH or STALE_SOURCE. -/
def Consume.reportAge (c : Consume) : Option Byte :=
  match c.state with
  | .fresh | .staleSource => c.received.map (·.age)
  | .unscheduled | .waiting | .missed | .lost => none

/-- R92: what CHANNEL_STATE says of the consume side, given the direction before and after. -/
def consumeReport : Direction → Direction → Option ConsumeReport
  | .consume old, .consume new =>
    some { newState := new.state, before := old.state, missCount := new.missCount, age := new.reportAge }
  | .consume _, .produce _ | .produce _, .produce _ | .produce _, .consume _ => none

/-- R92: the CHANNEL_STATE of a channel whose record goes from old to new. -/
def channelNotice (number : Nat) (cause : ChannelCause) (old new : Channel) : NoticeBody :=
  .channelState number new.label cause new.resolution (consumeReport old.direction new.direction)

/-- R84, R92: the notices of one re-resolution, from channel `number` on, in ascending order. -/
def resolutionNotices (s : State) (number : Nat) : List (Option Channel) → List NoticeBody
  | [] => []
  | none :: rest => resolutionNotices s (number + 1) rest
  | some c :: rest =>
    if c.report && (s.reresolve c).resolution != c.resolution then
      channelNotice number .resolution c (s.reresolve c) :: resolutionNotices s (number + 1) rest
    else resolutionNotices s (number + 1) rest

/-- R77, R84: the ACTIVE bank has been replaced. -/
def reresolveAll (s : State) : State :=
  giveNotices (resolutionNotices s 0 s.channels)
    { s with channels := s.channels.map (fun o => o.map s.reresolve) }

/-! ### Cycle starts and departures -/

/-- R87: the age of an ACTIVE produce channel after a cycle start. -/
def Channel.aged (c : Channel) : Channel :=
  match c.direction with
  | .produce (some age) => { c with direction := .produce (some (min Config.ageMax (age + 1))) }
  | .produce none | .consume _ => c

/-- R87: the channel unit at a cycle start. -/
def channelCycleStart (s : State) : State := { s with channels := s.channels.map (fun o => o.map Channel.aged) }

/-- R93: a RESOLVED consume channel enters WAITING at a departure. -/
def Channel.departed (c : Channel) : Channel :=
  match c.direction with
  | .consume d =>
    if c.resolution = .resolved then { c with direction := .consume { d with state := .waiting, missCount := 0 } } else c
  | .produce _ => c

/-- R93: the channel unit at a departure. It gives no notice. -/
def channelDepart (s : State) : State := { s with channels := s.channels.map (fun o => o.map Channel.departed) }

/-! ### Slots -/

/-- R79: the number and record of the bound channel that holds a label, from channel `number` on. -/
def channelOfLabel (label : Byte) (number : Nat) : List (Option Channel) → Option (Nat × Channel)
  | [] => none
  | none :: rest => channelOfLabel label (number + 1) rest
  | some c :: rest => if c.label = label then some (number, c) else channelOfLabel label (number + 1) rest

/-- R88: the value and age of a channel that may send. -/
def Channel.produceValue (c : Channel) : Option (List Byte × Byte) :=
  match c.direction, c.resolution, c.value with
  | .produce (some age), .resolved, some v => some (v, byteOf age)
  | _, _, _ => none

/-- R88: the channel unit's answer at the start of an owned slot with this label. -/
def produceAnswer (label : Byte) (s : State) : Option (List Byte × Byte) :=
  (channelOfLabel label 0 s.channels).bind (fun p => p.2.produceValue)

/-- R89: the frame is in place in an entry with this owner, label and payload length. -/
def CyclicFrame.inPlace (f : CyclicFrame) (owner label : Byte) (payload : Nat) : Bool :=
  f.label == label && f.source == owner && f.payload.length == payload

/-- R89: a frame counts in WRONG_SLOT. -/
def countsWrongSlot (s : State) (f : CyclicFrame) (owner label : Byte) (payload : Nat) : Bool :=
  !f.inPlace owner label payload && (f.label == label || (channelOfLabel f.label 0 s.channels).isSome)

/-- R90: the state that an accepted frame of this age gives. -/
def freshness (staleLimit age : Byte) : ConsumeState :=
  if staleLimit = 0 || age ≤ staleLimit then .fresh else .staleSource

/-- R90: a consume channel accepts a frame in this cycle. -/
def Consume.accept (c : Consume) (number : Word) (age : Byte) : Consume :=
  { c with state := freshness c.staleLimit age, missCount := 0, received := some { cycle := number, age := age } }

/-- R91: after the count has been raised, LOST if it has reached the miss limit, else MISSED. -/
def Consume.missedBy (c : Consume) (count : Nat) : Consume :=
  { c with state := if c.missLimit ≤ count then .lost else .missed, missCount := count }

/-- R91: a consume channel has no accepted frame at its slot end. -/
def Consume.miss (c : Consume) : Consume :=
  match c.state with
  | .fresh | .staleSource => c.missedBy 1
  | .missed => c.missedBy (c.missCount + 1)
  | .unscheduled | .waiting | .lost => c

/-- R92: a change from one consume state to another gives CHANNEL_STATE with cause FRESHNESS. -/
def freshnessReported (before after : ConsumeState) : Bool :=
  match after with
  | .lost => before != .lost
  | .staleSource => before != .staleSource
  | .fresh => before == .lost || before == .staleSource
  | .unscheduled | .waiting | .missed => false

/-- R90, R91: the channel after the slot end, given the in-place frame if there was one. -/
def Channel.evaluated (c : Channel) (d : Consume) (number : Word) (f : Option CyclicFrame) : Channel :=
  match f with
  | some f => { c with value := some f.payload, direction := .consume (d.accept number f.age) }
  | none => { c with direction := .consume d.miss }

/-- R79: the in-place frame that gives the channel its value, which has the channel's length. For an entry of the ACTIVE
bank the lengths agree by R83; DESIGN CHOICE, unsafe (log entry 12): in a slot of the cycle before, whose bank may have been
replaced, a frame of another length is not accepted. -/
def Channel.takes (c : Channel) (f : Option CyclicFrame) : Option CyclicFrame :=
  f.filter (fun f => f.payload.length == c.length)

/-- R92: the notice of a slot end, if the change is one to report. -/
def freshnessNotices (number : Nat) (old new : Channel) : List NoticeBody :=
  match old.direction, new.direction with
  | .consume a, .consume b =>
    if old.report && freshnessReported a.state b.state then [channelNotice number .freshness old new] else []
  | _, _ => []

/-- R89: the channel bound to the entry's label is evaluated, if it is a RESOLVED consume channel. -/
def evaluateChannel (number : Word) (place : Nat) (c : Channel) (f : Option CyclicFrame) (s : State) : State :=
  match c.direction with
  | .consume d =>
    if c.resolution = .resolved then
      giveNotices (freshnessNotices place c (c.evaluated d number (c.takes f)))
        { s with channels := s.channels.set place (some (c.evaluated d number (c.takes f))) }
    else s
  | .produce _ => s

/-- R89: the in-place frame of a slot end, if there is one. -/
def inPlaceFrame (owner label : Byte) (payload : Nat) (f : Option CyclicFrame) : Option CyclicFrame :=
  f.filter (fun f => f.inPlace owner label payload)

/-- R89: the channel unit tells the trunk interface to count the frame in WRONG_SLOT. -/
def countWrongSlot (owner label : Byte) (payload : Nat) (f : Option CyclicFrame) (s : State) : State :=
  if f.any (fun f => countsWrongSlot s f owner label payload) then
    { s with trunk := { s.trunk with wrongSlot := bump s.trunk.wrongSlot } }
  else s

/-- R11, R89: a slot end is handed to the channel unit in the cycle with this number. -/
def channelSlotEnd (number : Word) (owner label : Byte) (payload : Nat) (f : Option CyclicFrame) (s : State) : State :=
  let counted := countWrongSlot owner label payload f s
  match channelOfLabel label 0 s.channels with
  | some (place, c) => evaluateChannel number place c (inPlaceFrame owner label payload f) counted
  | none => counted

/-! ### Requests -/

/-- The record of a channel number; `none` within for an unbound channel, `none` for a number above 31. -/
def State.channel (s : State) (number : Byte) : Option (Option Channel) := s.channels[number.toNat]?

/-- 10.6: a direction code with the limits it brings; none for a code that names no direction. R81: a miss limit of 0
is 3. -/
def directionOf (code miss stale : Byte) : Option Direction :=
  if code = 1 then some (.produce none)
  else if code = 2 then
    some (.consume { state := .unscheduled, missCount := 0, missLimit := if miss = 0 then 3 else miss.toNat,
                     staleLimit := stale, received := none })
  else none

/-- R80: the range checks of BIND_CHANNEL on the fields after the channel number; the direction when all pass. -/
def bindFields (body : List Byte) : Option Direction :=
  if byteAt body 1 ≠ 0 && 1 ≤ byteAt body 3 && byteAt body 3 ≤ 64 && byteAt body 4 ≤ 1 then
    directionOf (byteAt body 2) (byteAt body 5) (byteAt body 6)
  else none

/-- R81: the record of a channel that becomes bound. -/
def boundChannel (s : State) (label : Byte) (length : Nat) (report : Bool) (d : Direction) : Channel :=
  { label := label, length := length, report := report, value := none, resolution := s.resolutionOf label length d,
    direction := d.follow .absent (s.resolutionOf label length d) }

/-- 10.4: the body of the OK reply to BIND_CHANNEL. -/
def Channel.bindReply (c : Channel) : List Byte :=
  match c.direction with
  | .produce _ => [c.resolution.code, 0]
  | .consume d => [c.resolution.code, d.state.code]

/-- R80, R81: BIND_CHANNEL. -/
def bindRequest : Handler := fun body s =>
  match s.channel (byteAt body 0) with
  | none => (.refuse .unknownChannel [], s)
  | some (some _) => (.refuse .wrongState [], s)
  | some none =>
    match bindFields body with
    | none => (.refuse .badValue [], s)
    | some d =>
      if (channelOfLabel (byteAt body 1) 0 s.channels).isSome then (.refuse .duplicateLabel [], s)
      else
        let c := boundChannel s (byteAt body 1) (byteAt body 3).toNat (byteAt body 4 == 1) d
        (.okWith c.bindReply, { s with channels := s.channels.set (byteAt body 0).toNat (some c) })

/-- R82: UNBIND_CHANNEL. -/
def unbindRequest : Handler := fun body s =>
  match s.channel (byteAt body 0) with
  | none => (.refuse .unknownChannel [], s)
  | some none => (.refuse .wrongState [], s)
  | some (some _) => (.okWith [], { s with channels := s.channels.set (byteAt body 0).toNat none })

/-- R86: WRITE_CHANNEL. -/
def writeRequest : Handler := fun body s =>
  match s.channel (byteAt body 0) with
  | none => (.refuse .unknownChannel [], s)
  | some none => (.refuse .wrongState [], s)
  | some (some c) =>
    match c.direction with
    | .consume _ => (.refuse .wrongState [], s)
    | .produce _ =>
      if (body.drop 1).length ≠ c.length then (.refuse .badValue [byteOf c.length], s)
      else
        (.okWith [c.resolution.code],
         { s with channels := s.channels.set (byteAt body 0).toNat
                    (some { c with value := some (body.drop 1), direction := .produce (some 0) }) })

/-- R94: READ_CHANNEL. -/
def readRequest : Handler := fun body s =>
  match s.channel (byteAt body 0) with
  | none => (.refuse .unknownChannel [], s)
  | some c => (.okWith (channelRecord (byteAt body 0).toNat c), s)

/-- R95: the bytes one named channel takes in the fit: 14, and the full length of a bound channel. -/
def fitBytes (s : State) (number : Byte) : Nat :=
  14 + (((s.channel number).bind id).map (·.length)).getD 0

/-- R95: the size that the READ_CHANNELS reply would have. -/
def fitTotal (s : State) (numbers : List Byte) : Nat := 1 + (numbers.map (fitBytes s)).sum

/-- R94, R95: one record of the READ_CHANNELS reply. -/
def recordOf (s : State) (number : Byte) : List Byte := channelRecord number.toNat ((s.channel number).bind id)

/-- R95: READ_CHANNELS. The detail of a refusal is the place (10.4). -/
def readManyRequest : Handler := fun body s =>
  let numbers := body.drop 1
  if byteAt body 0 < 1 || 8 < byteAt body 0 then (.refuse .badValue [0], s)
  else
    match firstFailing (fun n => (s.channel n).isSome) 1 numbers with
    | some place => (.refuse .unknownChannel [byteOf place], s)
    | none =>
      if 256 < fitTotal s numbers then (.refuse .badValue [0], s)
      else (.okWith (byteAt body 0 :: numbers.flatMap (recordOf s)), s)

/-- BIND_CHANNEL (R80, R81). -/
def execBindChannel (s : State) : Result := takeRequest 0x20 bindRequest s

/-- UNBIND_CHANNEL (R82). -/
def execUnbindChannel (s : State) : Result := takeRequest 0x21 unbindRequest s

/-- WRITE_CHANNEL (R86). -/
def execWriteChannel (s : State) : Result := takeRequest 0x22 writeRequest s

/-- READ_CHANNEL (R94). -/
def execReadChannel (s : State) : Result := takeRequest 0x23 readRequest s

/-- READ_CHANNELS (R95). -/
def execReadChannels (s : State) : Result := takeRequest 0x24 readManyRequest s

end Sys2Proof.Machine
end

