-- ==== Sys2Proof/Machine/Schedule.lean ====
section
/-! DEFINITION. The schedule unit (chapters 3 and 4): the staged bank and its requests, the switch, the activation
rules, COMMIT and CANCEL. -/

namespace Sys2Proof.Machine

/-- The state with another staged bank. -/
def State.withStaged (s : State) (g : Staged) : State := { s with sched := { s.sched with staged := g } }

/-! ### Building a bank -/

/-- R42: an entry takes its place in start order. -/
def insertEntry (e : Entry) : List Entry → List Entry
  | [] => [e]
  | f :: rest => if e.start < f.start then e :: f :: rest else f :: insertEntry e rest

/-- R48: the entry, if its fields are in range for its kind; only the fields of its kind are kept. -/
def RawEntry.inRange (r : RawEntry) : Option Entry :=
  if r.kind = 1 then
    if 1 ≤ r.owner && r.owner ≤ 62 && r.label ≠ 0 && 1 ≤ r.payload && r.payload ≤ 64 &&
        r.payload + 12 ≤ r.slotLength then
      some { start := r.start, slot := .cyclic r.slotLength r.owner r.label r.payload }
    else none
  else if r.kind = 2 then
    if r.slotLength = Config.openLength && r.floor ≤ 3 then some { start := r.start, slot := .openSlot r.floor } else none
  else none

/-- R49: PLACEMENT against a cycle length. -/
def Entry.placed (e : Entry) (length : Nat) : Bool :=
  Config.firstStart ≤ e.start && e.finish + Config.endClear ≤ length

/-- R48, R49: the check an entry fails, by its code (RANGE 1, PLACEMENT 2, START_IN_USE 3), or the entry. -/
def checkEntry (length : Nat) (bank : List Entry) (r : RawEntry) : Except Nat Entry :=
  match r.inRange with
  | none => .error 1
  | some e =>
    if !e.placed length then .error 2
    else if bank.any (fun f => f.start == e.start) then .error 3
    else .ok e

/-- R47: the entries of a request checked in order, each against the bank with those before it; the place and check of
the first that fails, or the bank with all of them. -/
def addEntries (length : Nat) (place : Nat) (bank : List Entry) : List RawEntry → Except (Nat × Nat) (List Entry)
  | [] => .ok bank
  | r :: rest =>
    match checkEntry length bank r with
    | .error check => .error (place, check)
    | .ok e => addEntries length (place + 1) (insertEntry e bank) rest

/-- R45: the refusal that the staged state gives a request that edits the bank. -/
def editRefusal : Staged → Reply
  | .armed _ _ _ _ => .refuse .stageArmed []
  | .empty | .editing _ _ | .closed _ _ _ => .refuse .stageNotEditing []

/-- R46: STAGE_BEGIN. R75: a bank that leaves CLOSED takes its adoption mark with it. -/
def stageBeginRequest : Handler := fun body s =>
  match s.sched.staged with
  | .armed _ _ _ _ => (.refuse .stageArmed [], s)
  | .empty | .editing _ _ | .closed _ _ _ =>
    if !usableLength (halfAt body 0).toNat then (.refuse .badValue [], s)
    else
      (.okWith [], { s with sched := { s.sched with staged := .editing (halfAt body 0).toNat [], adoption := false } })

/-- R47: STAGE_ADD. -/
def stageAddRequest : Handler := fun body s =>
  match s.sched.staged with
  | .editing length entries =>
    let n := (byteAt body 0).toNat
    if n < 1 || 8 < n then (.refuse .badValue [0, 0], s)
    else if Config.bankSize < entries.length + n then
      (.refuse .bankFull [byteOf (Config.bankSize - entries.length)], s)
    else
      match addEntries length 1 entries (rawEntries body n) with
      | .error (place, check) => (.refuse .badValue [byteOf place, byteOf check], s)
      | .ok bank => (.okWith [byteOf bank.length], s.withStaged (.editing length bank))
  | g => (editRefusal g, s)

/-- R50: STAGE_REMOVE. -/
def stageRemoveRequest : Handler := fun body s =>
  match s.sched.staged with
  | .editing length entries =>
    if entries.any (fun e => e.start == (halfAt body 0).toNat) then
      let rest := entries.filter (fun e => e.start != (halfAt body 0).toNat)
      (.okWith [byteOf rest.length], s.withStaged (.editing length rest))
    else (.refuse .badValue [], s)
  | g => (editRefusal g, s)

/-- R51: the entry fails OVERLAP against the one that follows it. -/
def overlapsNext (e : Entry) : List Entry → Bool
  | [] => false
  | f :: _ => f.start < e.finish

/-- R51: the walk in start order: the start and the reason code (OVERLAP 1, LABEL 2) of the first entry that fails.
`seen` is the labels of the CYCLIC entries before. -/
def closeFault (seen : List Byte) : List Entry → Option (Nat × Nat)
  | [] => none
  | e :: rest =>
    if e.label?.any (fun l => seen.contains l) then some (e.start, 2)
    else if overlapsNext e rest then some (e.start, 1)
    else closeFault (e.label?.toList ++ seen) rest

/-- R51, R52: STAGE_CLOSE. The reason code of EPOCH is 3. -/
def stageCloseRequest : Handler := fun body s =>
  match s.sched.staged with
  | .editing length entries =>
    match closeFault [] entries with
    | some (start, reason) => (.refuse .scheduleInvalid (halfBytesOf start ++ [byteOf reason]), s)
    | none =>
      if halfAt body 0 = 0 || halfAt body 0 = s.sched.active.epoch then
        (.refuse .scheduleInvalid (halfBytesOf 0 ++ [3]), s)
      else
        (.okWith (halfBytes (halfAt body 0) ++ [byteOf entries.length]),
         s.withStaged (.closed (halfAt body 0) length entries))
  | g => (editRefusal g, s)

/-- R53: STAGE_DISCARD. R75: the adoption mark goes with a CLOSED bank. -/
def stageDiscardRequest : Handler := fun _ s =>
  match s.sched.staged with
  | .armed _ _ _ _ => (.refuse .stageArmed [], s)
  | .empty | .editing _ _ | .closed _ _ _ =>
    (.okWith [], { s with sched := { s.sched with staged := .empty, adoption := false } })

/-! ### Reading a bank -/

/-- R56: the entries at positions from `first` on, up to `count`. -/
def entrySlice (entries : List Entry) (first count : Nat) : List Entry := (entries.drop first).take count

/-- R57, 10.4: the body of the READ_SCHEDULE reply. -/
def scheduleReply (bank state : Byte) (epoch : Option Half) (length : Option Nat) (cycle : Option Word)
    (entries : List Entry) (first count : Nat) : List Byte :=
  [bank, state, flagByte epoch.isSome, flagByte length.isSome, flagByte cycle.isSome] ++
    halfBytes (epoch.getD 0) ++ halfBytesOf (length.getD 0) ++ wordBytes (cycle.getD 0) ++
    [byteOf entries.length, byteOf first, byteOf (entrySlice entries first count).length] ++
    (entrySlice entries first count).flatMap Entry.bytes

/-- R57: the STAGED bank as READ_SCHEDULE reports it. -/
def stagedReply (g : Staged) (first count : Nat) : List Byte :=
  match g with
  | .empty => scheduleReply 2 g.state.code none none none [] first count
  | .editing length entries => scheduleReply 2 g.state.code none (some length) none entries first count
  | .closed epoch length entries => scheduleReply 2 g.state.code (some epoch) (some length) none entries first count
  | .armed epoch length entries cycle =>
    scheduleReply 2 g.state.code (some epoch) (some length) (some cycle) entries first count

/-- R56, R57: READ_SCHEDULE. The state code of the ACTIVE bank is 4 (10.6). -/
def readScheduleRequest : Handler := fun body s =>
  let first := (byteAt body 1).toNat
  let count := (byteAt body 2).toNat
  if 63 < first || count < 1 || 16 < count then (.refuse .badValue [], s)
  else if byteAt body 0 = 1 then
    (.okWith (scheduleReply 1 4 (some s.sched.active.epoch) (some s.activeLength) none s.sched.active.entries
      first count), s)
  else if byteAt body 0 = 2 then (.okWith (stagedReply s.sched.staged first count), s)
  else (.refuse .badValue [], s)

/-! ### The switch -/

/-- R75: after a late adoption the node awaits the frame that clears listen-only. -/
def SwitchMode.takeUp : SwitchMode → TakeUp
  | .onTime => .done
  | .late => .awaitsMatch

/-- R54, R63, R72, R75: the bank with this epoch, length and entries is switched in at the cycle start with this
number; SCHEDULE_ACTIVATED is given and then the channel unit is signalled (R77). -/
def makeSwitch (epoch : Half) (length : Nat) (entries : List Entry) (number : Word) (mode : SwitchMode) (s : State) :
    State :=
  reresolveAll (giveNotice (.scheduleActivated epoch length number mode)
    { s with sched := { s.sched with
        active := { epoch := epoch, cycleLength := some length, entries := entries }, staged := .empty,
        lastSwitch := some { epoch := epoch, cycle := number }, adoption := false,
        takeUp := mode.takeUp } })

/-- R60: the adoption mark is removed at a cycle start. -/
def dropAdoption (s : State) : State := { s with sched := { s.sched with adoption := false } }

/-- R75: the frame that clears listen-only after a late adoption lets the node send from the next cycle start. -/
def TakeUp.matched : TakeUp → TakeUp
  | .done => .done
  | .awaitsMatch | .awaitsCycle => .awaitsCycle

/-- R75: at that cycle start the node takes up sending. -/
def TakeUp.begins : TakeUp → TakeUp
  | .done | .awaitsCycle => .done
  | .awaitsMatch => .awaitsMatch

/-- R75: the schedule unit with a change of what the node awaits. -/
def State.withTakeUp (s : State) (t : TakeUp) : State := { s with sched := { s.sched with takeUp := t } }

/-- R63, R72, R75: the bank that the schedule unit switches in at the cycle start with this number, if it does. -/
def switchBank (number : Word) (s : State) : State :=
  match s.sched.staged with
  | .armed epoch length entries cycle =>
    if cycle = number then makeSwitch epoch length entries number .onTime s else dropAdoption s
  | .closed epoch length entries =>
    if s.sched.adoption then makeSwitch epoch length entries number .late s else dropAdoption s
  | .empty | .editing _ _ => dropAdoption s

/-- R63, R72, R75: the schedule unit at the cycle start with this number. -/
def scheduleCycleStart (number : Word) (s : State) : State :=
  switchBank number (s.withTakeUp s.sched.takeUp.begins)

/-! ### COMMIT and CANCEL -/

/-- R61, R64: the cycle number at a node of role MASTER that is LEADING. -/
def State.leadingNumber (s : State) : Option Word :=
  if s.cycle.role = .master && s.cycle.timing = .leading then s.cycle.now.map (·.number) else none

/-- R61, R67: the CLOSED bank becomes ARMED for a cycle; the unready record is cleared, and the adoption mark goes as
the bank leaves CLOSED (R60). -/
def armBank (epoch : Half) (length : Nat) (entries : List Entry) (cycle : Word) (source : ArmSource) (s : State) :
    State :=
  giveNotice (.activationArmed epoch cycle source)
    { s with sched := { s.sched with staged := .armed epoch length entries cycle, unready := none, adoption := false } }

/-- R61: C lies 16 to 65,535 cycles after N, counted modulo 4,294,967,296. -/
def commitLead (n c : Word) : Bool := 16 ≤ (c - n).toNat && (c - n).toNat ≤ 65535

/-- R61: COMMIT. -/
def commitRequest : Handler := fun body s =>
  match s.leadingNumber with
  | none => (.refuse .notMaster [], s)
  | some n =>
    match s.sched.staged with
    | .closed epoch length entries =>
      if !commitLead n (wordAt body 0) then (.refuse .badValue [], s)
      else
        (.okWith (halfBytes epoch ++ wordBytes (wordAt body 0)),
         armBank epoch length entries (wordAt body 0) .commit s)
    | .empty | .editing _ _ | .armed _ _ _ _ => (.refuse .wrongState [], s)

/-- R64, R71, R73: the ARMED bank returns to CLOSED and its activation is withdrawn. -/
def withdraw (epoch : Half) (length : Nat) (entries : List Entry) (cycle : Word) (reason : WithdrawReason) (s : State) :
    State :=
  giveNotice (.activationWithdrawn epoch cycle reason) (s.withStaged (.closed epoch length entries))

/-- 10.4: the detail of TOO_LATE. -/
def tooLateDetail (s : State) : List Byte :=
  halfBytes s.sched.active.epoch ++ optionBytes 6 (s.sched.lastSwitch.map (fun r => halfBytes r.epoch ++ wordBytes r.cycle))

/-- R64: CANCEL. -/
def cancelRequest : Handler := fun _ s =>
  match s.leadingNumber with
  | none => (.refuse .notMaster [], s)
  | some _ =>
    match s.sched.staged with
    | .armed epoch length entries cycle =>
      (.okWith (halfBytes epoch ++ wordBytes cycle), withdraw epoch length entries cycle .cancel s)
    | .empty | .editing _ _ | .closed _ _ _ => (.refuse .tooLate (tooLateDetail s), s)

/-! ### Announcements -/

/-- R66: the frame carries a valid announcement. -/
def CycleStartFrame.validAnnouncement (f : CycleStartFrame) : Bool :=
  f.announces && 1 ≤ (f.activation - f.number).toNat && (f.activation - f.number).toNat ≤ 65535

/-- R70: ACTIVATION_UNREADY for a bank that is not armed, once for each announcement; the record is kept in every case
(R150). -/
def unreadyOnce (epoch : Half) (cycle : Word) (stagedEpoch : Option Half) (s : State) : State :=
  if s.sched.unready = some { epoch := epoch, cycle := cycle } then s
  else
    giveNotice (.activationUnready epoch cycle s.sched.staged.state stagedEpoch false)
      { s with sched := { s.sched with unready := some { epoch := epoch, cycle := cycle } } }

/-- R69: a bank armed for another epoch is disarmed. -/
def disarmUnready (epoch : Half) (cycle : Word) (own : Half) (length : Nat) (entries : List Entry) (s : State) : State :=
  giveNotice (.activationUnready epoch cycle .closed (some own) true)
    { s with sched := { s.sched with staged := .closed own length entries,
                                     unready := some { epoch := epoch, cycle := cycle } } }

/-- R67 to R70: the valid announcement of an epoch and a cycle. -/
def announced (epoch : Half) (cycle : Word) (s : State) : State :=
  match s.sched.staged with
  | .closed own length entries =>
    if own = epoch then armBank own length entries cycle .announcement s else unreadyOnce epoch cycle (some own) s
  | .armed own length entries c =>
    if own ≠ epoch then disarmUnready epoch cycle own length entries s
    else if c = cycle then s
    else giveNotice (.activationArmed own cycle .rearm) (s.withStaged (.armed own length entries cycle))
  | .empty | .editing _ _ => unreadyOnce epoch cycle none s

/-- R60, R71: the unready record is cleared. -/
def clearUnready (s : State) : State := { s with sched := { s.sched with unready := none } }

/-- R71: an accepted frame without a valid announcement. -/
def notAnnounced (s : State) : State :=
  match s.sched.staged with
  | .armed epoch length entries cycle => withdraw epoch length entries cycle .notAnnounced (clearUnready s)
  | .empty | .editing _ _ | .closed _ _ _ => clearUnready s

/-- R74: the test for late adoption. -/
def adoptionTest (s : State) (f : CycleStartFrame) : Bool :=
  match s.sched.staged with
  | .closed epoch length _ => epoch == f.epoch && length == f.length && s.sched.active.epoch != f.epoch
  | .empty | .editing _ _ | .armed _ _ _ _ => false

/-- R74: the adoption mark is set when the test passes, and left as it is when it fails. -/
def markAdoption (f : CycleStartFrame) (s : State) : State :=
  if adoptionTest s f then { s with sched := { s.sched with adoption := true } } else s

/-- R66: the announcement of an accepted frame. -/
def evaluateAnnouncement (f : CycleStartFrame) (s : State) : State :=
  if f.validAnnouncement then announced f.announcedEpoch f.activation s else notAnnounced s

/-- R66, R74: the schedule unit takes an accepted frame. -/
def scheduleAccepts (f : CycleStartFrame) (s : State) : State := markAdoption f (evaluateAnnouncement f s)

/-! ### Departures -/

/-- R37: where a departure leads. -/
inductive Destination where
  | hunting
  | offline
  deriving DecidableEq, Repr

/-- R73: the reason of ACTIVATION_WITHDRAWN at a departure. -/
def Destination.withdrawReason : Destination → WithdrawReason
  | .hunting => .sync
  | .offline => .offline

/-- R73: the adoption mark and the unready record are removed; a node that departs has nothing left to take up (R75). -/
def clearMarks (s : State) : State :=
  { s with sched := { s.sched with adoption := false, unready := none, takeUp := .done } }

/-- R73: the schedule unit at a departure. -/
def scheduleDepart (d : Destination) (s : State) : State :=
  match s.sched.staged with
  | .armed epoch length entries cycle => withdraw epoch length entries cycle d.withdrawReason (clearMarks s)
  | .empty | .editing _ _ | .closed _ _ _ => clearMarks s

/-! ### Meanings -/

/-- STAGE_BEGIN (R46). -/
def execStageBegin (s : State) : Result := takeRequest 0x10 stageBeginRequest s

/-- STAGE_ADD (R47 to R49). -/
def execStageAdd (s : State) : Result := takeRequest 0x11 stageAddRequest s

/-- STAGE_REMOVE (R50). -/
def execStageRemove (s : State) : Result := takeRequest 0x12 stageRemoveRequest s

/-- STAGE_CLOSE (R51, R52). -/
def execStageClose (s : State) : Result := takeRequest 0x13 stageCloseRequest s

/-- STAGE_DISCARD (R53). -/
def execStageDiscard (s : State) : Result := takeRequest 0x14 stageDiscardRequest s

/-- READ_SCHEDULE (R56, R57). -/
def execReadSchedule (s : State) : Result := takeRequest 0x15 readScheduleRequest s

/-- COMMIT (R61). -/
def execCommit (s : State) : Result := takeRequest 0x16 commitRequest s

/-- CANCEL (R64). -/
def execCancel (s : State) : Result := takeRequest 0x17 cancelRequest s

end Sys2Proof.Machine
end

