-- ==== Sys2Proof/Machine/Transmit.lean ====
section
/-! DEFINITION. The transmit message unit (chapter 6): the outbound queue and the transmit store, candidates and
outcomes, the limits, aborting, its four requests. -/

namespace Sys2Proof.Machine

/-- The state with another outbound queue. -/
def State.withQueue (s : State) (q : List Message) : State := { s with tx := { s.tx with queue := q } }

/-! ### The store and the room watch -/

/-- R101: blocks go back to the store. -/
def returnBlocks (n : Nat) (s : State) : State := { s with tx := { s.tx with free := s.tx.free + n } }

/-- R102: after n blocks have been returned the room watch is examined. It is cleared even when TX_ROOM is masked or
lost (R150). -/
def examineRoom (n : Nat) (s : State) : State :=
  if 0 < n && s.tx.roomWatch && Config.roomLevel ≤ s.tx.free then
    giveNotice (.txRoom s.tx.free) { s with tx := { s.tx with roomWatch := false } }
  else s

/-- R113, R116, R117, R119: the first message leaves the queue with MESSAGE_FAILED, its blocks go back to the store, and
TX_ROOM may follow. -/
def failFirst (m : Message) (rest : List Message) (reason : FailReason) (abortSent : Bool) (s : State) : State :=
  examineRoom m.blocks
    (giveNotice (.messageFailed m.id m.dest m.cls reason abortSent m.sent) (returnBlocks m.blocks (s.withQueue rest)))

/-- R112: the first message has been delivered whole. -/
def sentFirst (m : Message) (rest : List Message) (s : State) : State :=
  examineRoom m.blocks
    (giveNotice (.messageSent m.id m.dest m.cls m.total) (returnBlocks m.blocks (s.withQueue rest)))

/-! ### Aborting -/

/-- R116: the message as it stands in ABORTING: its unsent bytes are discarded and no abort is pending. -/
def Message.abortingWith (m : Message) (r : InFlight) (reason : FailReason) : Message :=
  { m with data := m.data.take m.sent, state := .aborting { r with abortPending := false } reason 0 }

/-- R116: the first message, IN_FLIGHT with this record, enters ABORTING; with no segment WON it is removed at once. -/
def enterAborting (m : Message) (r : InFlight) (rest : List Message) (reason : FailReason) (s : State) : State :=
  if r.next = 0 then failFirst m rest reason false s
  else examineRoom m.blocks (returnBlocks m.blocks (s.withQueue (m.abortingWith r reason :: rest)))

/-! ### Candidates -/

/-- R103: the data segment i of a message, at this effective class and node address. -/
def dataSegment (m : Message) (i effective : Nat) (address : Byte) : SegmentFrame :=
  { key := arbitrationKey effective address, source := address, dest := m.dest, id := m.id, index := i,
    first := i == 0, last := i + 1 == segmentCount m.total, abort := false, cls := m.cls,
    total := if i = 0 then some m.total else none,
    payload := (m.data.take (segmentEnd m.total i)).drop (Config.segmentSize * i) }

/-- R103: the abort segment of a message. -/
def abortSegment (m : Message) (r : InFlight) (effective : Nat) (address : Byte) : SegmentFrame :=
  { key := arbitrationKey effective address, source := address, dest := m.dest, id := m.id, index := r.next,
    first := false, last := false, abort := true, cls := m.cls, total := none, payload := [] }

/-- R109: the candidate of the first message of the queue, and which frame of it that is. -/
def candidateOf (m : Message) (effective : Nat) (address : Byte) : Option (SegmentFrame × OnLine) :=
  match m.state with
  | .aborting r _ _ => some (abortSegment m r effective address, { index := r.next, abort := true })
  | .inFlight r =>
    if m.suppliedSegment r.next then
      some (dataSegment m r.next effective address, { index := r.next, abort := false })
    else none
  | .waiting =>
    if m.suppliedSegment 0 then some (dataSegment m 0 effective address, { index := 0, abort := false }) else none

/-- R111: the in-flight record a message gains. -/
def InFlight.start : InFlight := { next := 0, sinceWon := 0, starve := 0, disturbed := 0, abortPending := false }

/-- R111: the head becomes IN_FLIGHT when its segment 0 is offered; a message in flight stays as it is. -/
def Message.offered (m : Message) : Message := if m.waiting then { m with state := .inFlight InFlight.start } else m

/-- R109: the answer at the opening of an OPEN slot's window with this floor, permission granted or not. -/
def candidate (q : List Message) (permission : Bool) (floor : Nat) (address : Byte) : Option (SegmentFrame × OnLine) :=
  match q with
  | [] => none
  | m :: rest =>
    if permission && floor ≤ effectiveClass m (m :: rest) then candidateOf m (effectiveClass m (m :: rest)) address
    else none

/-- R109, R111: the frame is on the line, and the head, if it is the head's, is IN_FLIGHT. -/
def offerFirst (o : OnLine) (s : State) : State :=
  match s.tx.queue with
  | [] => s
  | m :: rest => { s with tx := { s.tx with queue := m.offered :: rest, onLine := some o } }

/-! ### Outcomes -/

/-- The frame is no longer on the line. -/
def clearOnLine (s : State) : State := { s with tx := { s.tx with onLine := none } }

/-- R112: the message after its data segment has been WON. -/
def Message.advanced (m : Message) (r : InFlight) : Message :=
  { m with sent := segmentEnd m.total r.next,
           state := .inFlight { r with next := r.next + 1, sinceWon := 0, starve := 0, disturbed := 0 } }

/-- R118: a pending abort acts on the message the outcome has left. -/
def actPending (m : Message) (r : InFlight) (rest : List Message) (s : State) : State :=
  if r.abortPending then enterAborting m r rest .host s else s

/-- R112, R118: a data segment is WON. Blocks returned are examined before a pending abort acts (log entry 9). -/
def dataWon (m : Message) (r : InFlight) (rest : List Message) (s : State) : State :=
  if r.next + 1 = segmentCount m.total then sentFirst m rest s
  else
    let m' := m.advanced r
    let back := m.blocks - m'.blocks
    actPending m' { r with next := r.next + 1, sinceWon := 0, starve := 0, disturbed := 0 } rest
      (examineRoom back (returnBlocks back (s.withQueue (m' :: rest))))

/-- R113, R118: a data segment is DISTURBED. -/
def dataDisturbed (m : Message) (r : InFlight) (rest : List Message) (s : State) : State :=
  if Config.disturbLimit ≤ r.disturbed + 1 then failFirst m rest .trunkFault false s
  else
    let r' := { r with disturbed := r.disturbed + 1 }
    let m' := { m with state := .inFlight r' }
    actPending m' r' rest (s.withQueue (m' :: rest))

/-- R14: the outcomes of a segment frame. -/
inductive SegmentOutcome where
  | won
  | lost
  | disturbed
  deriving DecidableEq, Repr

/-- R112, R113, R117, R118: the outcome of the frame `o` acts on the first message. An outcome that finds no message is
disregarded (R119). -/
def applyOutcome (o : OnLine) (result : SegmentOutcome) (s : State) : State :=
  match s.tx.queue with
  | [] => s
  | m :: rest =>
    match m.state, o.abort, result with
    | .inFlight r, false, .won => dataWon m r rest s
    | .inFlight r, false, .lost => actPending m r rest s
    | .inFlight r, false, .disturbed => dataDisturbed m r rest s
    | .aborting _ reason _, true, .won => failFirst m rest reason true s
    | _, _, _ => s

/-- R14, R119: the transmit message unit is handed an outcome. -/
def handOutcome (result : SegmentOutcome) (s : State) : State :=
  match s.tx.onLine with
  | some o => applyOutcome o result (clearOnLine s)
  | none => s

/-! ### Cycle starts and departures -/

/-- R114: the starve count after a cycle start. -/
def starveAfter (m : Message) (r : InFlight) : Nat := if m.suppliedSegment r.next then 0 else r.starve + 1

/-- R114: the in-flight record after a cycle start has counted. -/
def InFlight.counted (r : InFlight) (m : Message) : InFlight :=
  { r with sinceWon := r.sinceWon + 1, starve := starveAfter m r }

/-- R114: the limit a counted message has reached, STARVED before CONTENTION. -/
def limitReached (r : InFlight) : Option FailReason :=
  if Config.starveLimit ≤ r.starve then some .starved
  else if Config.contentionLimit ≤ r.sinceWon then some .contention
  else none

/-- R114: the message in flight at a cycle start. -/
def countInFlight (m : Message) (r : InFlight) (rest : List Message) (s : State) : State :=
  let r' := r.counted m
  let m' := { m with state := .inFlight r' }
  match limitReached r' with
  | some reason => enterAborting m' r' rest reason (s.withQueue (m' :: rest))
  | none => s.withQueue (m' :: rest)

/-- R117: the ABORTING message at a cycle start. -/
def countAborting (m : Message) (r : InFlight) (reason : FailReason) (attempts : Nat) (rest : List Message) (s : State) :
    State :=
  if Config.attemptLimit ≤ attempts + 1 then failFirst m rest reason false s
  else s.withQueue ({ m with state := .aborting r reason (attempts + 1) } :: rest)

/-- R114, R117: the transmit message unit at a cycle start. -/
def transmitCycleStart (s : State) : State :=
  match s.tx.queue with
  | [] => s
  | m :: rest =>
    match m.state with
    | .waiting => s
    | .inFlight r => countInFlight m r rest s
    | .aborting r reason attempts => countAborting m r reason attempts rest s

/-- R119: the transmit message unit at a departure; `reason` is SYNC or OFFLINE. -/
def transmitDepart (reason : FailReason) (s : State) : State :=
  match s.tx.queue with
  | [] => clearOnLine s
  | m :: rest =>
    match m.state with
    | .waiting => clearOnLine s
    | .inFlight r => failFirst m rest (if r.abortPending then .host else reason) false (clearOnLine s)
    | .aborting _ own _ => failFirst m rest own false (clearOnLine s)

/-! ### Requests -/

/-- R100: the first number from n upward, round from 255 to 0, that no message holds; `fuel` bounds the search. -/
def freeId (q : List Message) : Nat → Byte → Byte
  | 0, n => n
  | fuel + 1, n => if q.any (fun m => m.id == n) then freeId q fuel (n + 1) else n

/-- R99: a new WAITING message takes its place, after every message in flight and every WAITING message of its own or a
higher class. -/
def insertWaiting (m : Message) : List Message → List Message
  | [] => [m]
  | x :: rest => if x.waiting && x.cls < m.cls then m :: x :: rest else x :: insertWaiting m rest

/-- R104: a destination that SEND_MESSAGE accepts at a node with this address. -/
def destinationOk (dest address : Byte) : Bool :=
  dest ≠ 0 && dest ≠ 63 && !(128 ≤ dest && dest ≤ 254) && dest ≠ address

/-- R102: a NO_ROOM refusal sets the room watch. -/
def refuseNoRoom (s : State) : Reply × State :=
  (.refuse .noRoom [], { s with tx := { s.tx with roomWatch := true } })

/-- 10.4: the OK body of SEND_MESSAGE and MESSAGE_PIECE. -/
def suppliedReply (id : Byte) (supplied free : Nat) : Reply :=
  .okWith (id :: halfBytesOf supplied ++ [byteOf free])

/-- R105: the message of a SEND_MESSAGE that is taken. -/
def newMessage (id dest : Byte) (cls total : Nat) (piece : List Byte) : Message :=
  { id := id, dest := dest, cls := cls, total := total, data := piece, sent := 0, state := .waiting }

/-- R105: SEND_MESSAGE is taken. -/
def acceptMessage (dest : Byte) (cls total : Nat) (piece : List Byte) (s : State) : Reply × State :=
  let id := freeId s.tx.queue 9 s.tx.idCounter
  let free := s.tx.free - piecesBlocks 0 piece.length
  (suppliedReply id piece.length free,
   { s with tx := { s.tx with queue := insertWaiting (newMessage id dest cls total piece) s.tx.queue,
                              free := free, idCounter := id + 1 } })

/-- R104: SEND_MESSAGE. -/
def sendRequest : Handler := fun body s =>
  let dest := byteAt body 0
  let cls := (byteAt body 1).toNat
  let total := (halfAt body 2).toNat
  let piece := body.drop 4
  if !destinationOk dest s.cycle.address then (.refuse .badValue [1], s)
  else if 3 < cls then (.refuse .badValue [2], s)
  else if total < 1 || Config.maxMessage < total then (.refuse .badValue [3], s)
  else if total < piece.length then (.refuse .lengthExceeded [], s)
  else if Config.queueSize ≤ s.tx.queue.length then (.refuse .queueFull [], s)
  else if s.tx.free < piecesBlocks 0 piece.length then refuseNoRoom s
  else acceptMessage dest cls total piece s

/-- The message in the queue that holds an id. -/
def messageOf (q : List Message) (id : Byte) : Option Message := q.find? (fun m => m.id == id)

/-- The message that holds an id is replaced. -/
def replaceMessage (q : List Message) (id : Byte) (m' : Message) : List Message :=
  q.map (fun m => if m.id = id then m' else m)

/-- R106: a further piece joins its message. -/
def appendPiece (m : Message) (piece : List Byte) (s : State) : Reply × State :=
  let need := piecesBlocks m.data.length piece.length
  let m' := { m with data := m.data ++ piece }
  (suppliedReply m.id m'.data.length (s.tx.free - need),
   { s with tx := { s.tx with queue := replaceMessage s.tx.queue m.id m', free := s.tx.free - need } })

/-- R106: a message in ABORTING takes no piece. -/
def Message.abortingNow (m : Message) : Bool :=
  match m.state with
  | .aborting _ _ _ => true
  | .waiting | .inFlight _ => false

/-- R106: MESSAGE_PIECE. -/
def pieceRequest : Handler := fun body s =>
  let offset := (halfAt body 1).toNat
  let piece := body.drop 3
  match messageOf s.tx.queue (byteAt body 0) with
  | none => (.refuse .unknownHandle [], s)
  | some m =>
    if m.abortingNow then (.refuse .wrongState [], s)
    else if offset ≠ m.data.length then (.refuse .badValue (halfBytesOf m.data.length), s)
    else if m.total < offset + piece.length then (.refuse .lengthExceeded [], s)
    else if s.tx.free < piecesBlocks offset piece.length then refuseNoRoom s
    else appendPiece m piece s

/-- R107: a WAITING message is removed; no notice is given for it. -/
def removeWaiting (m : Message) (s : State) : State :=
  examineRoom m.blocks (returnBlocks m.blocks (s.withQueue (s.tx.queue.filter (fun x => x.id != m.id))))

/-- R107, R118: ABORT_MESSAGE on the message in flight: pending while a segment of it is on the line. -/
def abortInFlight (m : Message) (r : InFlight) (s : State) : State :=
  if s.tx.onLine.isSome then
    s.withQueue (replaceMessage s.tx.queue m.id { m with state := .inFlight { r with abortPending := true } })
  else enterAborting m r (s.tx.queue.drop 1) .host s

/-- R107: ABORT_MESSAGE. The reply carries the state before the request. -/
def abortRequest : Handler := fun body s =>
  match messageOf s.tx.queue (byteAt body 0) with
  | none => (.refuse .unknownHandle [], s)
  | some m =>
    match m.state with
    | .waiting => (.okWith [m.state.code], removeWaiting m s)
    | .inFlight r => (.okWith [m.state.code], abortInFlight m r s)
    | .aborting _ _ _ => (.okWith [m.state.code], s)

/-- 10.4: the in-flight fields, the effective class and the abort fields of an outbound record (R172: zeros where the
state has none). -/
def Message.stateBytes (m : Message) (q : List Message) : List Byte :=
  match m.state with
  | .waiting => [0, 0, 0, 0, 0, 0, 0]
  | .inFlight r =>
    [byteOf r.next, byteOf r.sinceWon, byteOf r.starve, byteOf r.disturbed, byteOf (effectiveClass m q), 0, 0]
  | .aborting r reason attempts =>
    [byteOf r.next, byteOf r.sinceWon, byteOf r.starve, byteOf r.disturbed, byteOf (effectiveClass m q), reason.code,
     byteOf attempts]

/-- 10.4: an outbound record, 18 bytes. -/
def Message.record (q : List Message) (m : Message) : List Byte :=
  [m.id, m.dest, byteOf m.cls] ++ halfBytesOf m.total ++ halfBytesOf m.data.length ++ halfBytesOf m.sent ++
    [m.state.code, byteOf m.blocks] ++ m.stateBytes q

/-- R108: READ_OUTBOUND. -/
def readOutboundRequest : Handler := fun _ s =>
  (.okWith ([byteOf s.tx.free, s.tx.idCounter, flagByte s.tx.roomWatch, byteOf s.tx.queue.length] ++
    s.tx.queue.flatMap (Message.record s.tx.queue)), s)

/-- SEND_MESSAGE (R104, R105). -/
def execSendMessage (s : State) : Result := takeRequest 0x30 sendRequest s

/-- MESSAGE_PIECE (R106). -/
def execMessagePiece (s : State) : Result := takeRequest 0x31 pieceRequest s

/-- ABORT_MESSAGE (R107). -/
def execAbortMessage (s : State) : Result := takeRequest 0x32 abortRequest s

/-- READ_OUTBOUND (R108). -/
def execReadOutbound (s : State) : Result := takeRequest 0x33 readOutboundRequest s

end Sys2Proof.Machine
end

