-- ==== Sys2Proof/Machine/Cycle.lean ====
section
/-! DEFINITION. The cycle unit (chapter 2): departures, cycle starts, claiming, leading, hunting, following, takeover,
listen-only, its requests; and READ_COUNTS (R18). -/

namespace Sys2Proof.Machine

/-- The state with another cycle unit. -/
def State.withCycle (s : State) (c : CycleUnit) : State := { s with cycle := c }

/-! ### Sending -/

/-- R4: the trunk interface begins an own cycle start or cyclic frame; TXEN is asserted while it is sent. -/
def beginFrame (f : OwnFrame) (s : State) : State :=
  { s with trunk := { s.trunk with sending := some f, txen := true } }

/-- R12: the interface has begun the segment it was given. -/
def OwnSegment.sent (g : OwnSegment) : Bool :=
  match g.way with
  | .sends _ => true
  | .waits _ | .silent _ => false

/-- R4, R12, R16: the interface has a frame of its own in progress. -/
def TrunkInterface.busy (t : TrunkInterface) : Bool := t.sending.isSome || t.segment.any OwnSegment.sent

/-- R16, R17: the interface with no frame in progress any more: TXEN is negated, and a change that waited for the end of
the frame is followed; a node reset brings the values after node reset. DESIGN CHOICE (log entry 14): a claim window that
a GO_ONLINE opened before that keeps the former clock's opening value. -/
def TrunkInterface.released (t : TrunkInterface) : TrunkInterface :=
  if t.deferred = some .nodeReset then .reset else { t with txen := false, deferred := none }

/-- R4, R16: what follows when a frame in progress has ended. -/
def TrunkInterface.follow (t : TrunkInterface) : TrunkInterface := if t.busy then t else t.released

/-- R4: the own cycle start or cyclic frame being sent ends. -/
def endFrame (s : State) : State := { s with trunk := { s.trunk with sending := none }.follow }

/-- R14: the interface is done with the segment frame. -/
def endSegment (s : State) : State := { s with trunk := { s.trunk with segment := none }.follow }

/-- R16: a GO_OFFLINE taken while a frame is being sent is followed from the end of that frame; so is a node reset taken
before it, which it does not displace. -/
def deferOffline (s : State) : State :=
  if s.trunk.busy && s.trunk.deferred.isNone then { s with trunk := { s.trunk with deferred := some .offline } } else s

/-! ### Departures -/

/-- R37: the timing state a departure leads to. -/
def Destination.timing : Destination → Timing
  | .hunting => .hunting
  | .offline => .offline

/-- R119: the reason of MESSAGE_FAILED at a departure. -/
def Destination.failReason : Destination → FailReason
  | .hunting => .sync
  | .offline => .offline

/-- R136: the reason of MESSAGE_DROPPED at a departure. -/
def Destination.dropReason : Destination → DropReason
  | .hunting => .sync
  | .offline => .offline

/-- R37: the interface ends its walk; the held slot frames and the pending window result go with it (R17). DEDUCED (log
entry 7): so does a segment that it has not begun, since nothing is begun outside the synchronised states (R5). -/
def TrunkInterface.endWalk (t : TrunkInterface) : TrunkInterface :=
  { t with segment := t.segment.filter OwnSegment.sent, window := .settled, slots := [], ownSlots := [], late := [],
           earlyWalk := [] }

/-- R37: the interface ends its walk. -/
def endWalk (s : State) : State := { s with trunk := s.trunk.endWalk }

/-- R37 step 1: the cycle values become absent in the new timing state. -/
def leaveCycle (d : Destination) (s : State) : State :=
  s.withCycle { s.cycle with timing := d.timing, now := none }

/-- R37 step 2: the rest of the cycle unit's state; `run` is the candidate run that R29 states. -/
def settleCycle (d : Destination) (run : Option CandidateRun) (s : State) : State :=
  match d with
  | .hunting => s.withCycle { s.cycle with listenOnly := false, claim := none, conflict := none, run := run }
  | .offline =>
    s.withCycle { s.cycle with listenOnly := false, claim := none, conflict := none, run := none, missCount := 0 }

/-- R37 step 3: the schedule, channel, transmit message and receive message units are signalled, in that order. -/
def signalDeparture (d : Destination) (s : State) : State :=
  receiveDepart d.dropReason (transmitDepart d.failReason (channelDepart (scheduleDepart d s)))

/-- R37: a departure; `own` is the notice that the rule causing it names. -/
def depart (d : Destination) (own : List NoticeBody) (run : Option CandidateRun) (s : State) : State :=
  signalDeparture d (settleCycle d run (giveNotices own (leaveCycle d (endWalk s))))

/-- R29: the candidate run of which this frame is the first. -/
def firstCandidate (f : CycleStartFrame) (stamp : Word) : CandidateRun :=
  { count := 1, source := f.source, number := f.number, length := f.length, stamp := stamp }

/-! ### Cycle starts -/

/-- R24: a leading node fixes the cycle length in use. -/
def fixLength (s : State) : State :=
  if s.cycle.timing = .leading then
    s.withCycle { s.cycle with now := s.cycle.now.map (fun c => { c with length := s.activeLength }) }
  else s

/-- R62: the announcement a leading node's frame carries. -/
def stagedAnnouncement : Staged → Option (Half × Word)
  | .armed epoch _ _ cycle => some (epoch, cycle)
  | .empty | .editing _ _ | .closed _ _ _ => none

/-- R27: the cycle start frame of the cycle that begins. -/
def leadingFrame (s : State) (c : CycleNow) : CycleStartFrame :=
  { source := s.cycle.address, number := c.number, epoch := s.sched.active.epoch, length := c.length,
    announces := (stagedAnnouncement s.sched.staged).isSome,
    announcedEpoch := ((stagedAnnouncement s.sched.staged).map Prod.fst).getD 0,
    activation := ((stagedAnnouncement s.sched.staged).map Prod.snd).getD 0 }

/-- R7, R27: a leading node sends its cycle start frame at byte time 0. -/
def sendCycleStart (s : State) : State :=
  match s.cycle.timing, s.cycle.now with
  | .leading, some c => beginFrame { bytes := (leadingFrame s c).bytes, since := c.origin } s
  | _, _ => s

/-- R28: the quiet count of an open conflict episode advances at a cycle start in LEADING. -/
def quietAfter (q : Option Nat) : Option Nat :=
  q.bind (fun n => if Config.quietLimit ≤ n + 1 then none else some (n + 1))

/-- R28: the conflict episode at a cycle start. -/
def advanceQuiet (s : State) : State :=
  if s.cycle.timing = .leading then s.withCycle { s.cycle with conflict := quietAfter s.cycle.conflict } else s

/-- R7: a follower's window for the cycle that begins; its frame is the node's own, if the node is sending one. -/
def windowOpened (s : State) : Window :=
  if s.cycle.timing.following then (if s.trunk.busy then .own else .awaiting) else .settled

/-- R6, R7: the trunk interface takes up a new cycle. No frame that began before the node went ONLINE is on the line any
more. -/
def takeUpCycle (s : State) : State :=
  { s with trunk := { s.trunk with
      window := windowOpened s, slots := [], ownSlots := [], earlyWalk := [], hearsFrom := none } }

/-- R23: the cycle start with this number is signalled to the schedule, channel, transmit message and receive message
units, in that order; a leading node fixes its cycle length after any switch (R24, R63). -/
def signalCycleStart (number : Word) (s : State) : State :=
  receiveCycleStart (transmitCycleStart (channelCycleStart (fixLength (scheduleCycleStart number s))))

/-- R23: the cycle with these values begins; its length is fixed afresh in LEADING. -/
def beginCycle (c : CycleNow) (s : State) : State :=
  sendCycleStart (signalCycleStart c.number (advanceQuiet
    (takeUpCycle ((s.withCycle { s.cycle with now := some c }).atInstant c.origin))))

/-- R23: the cycle that follows: the number advances by one and the origin is the expected start. -/
def CycleNow.following (c : CycleNow) : CycleNow :=
  { c with number := c.number + 1, origin := c.origin + BitVec.ofNat 32 c.length }

/-- R6: the slot of an entry ends no later than 8 byte times before the end of a cycle of this length. -/
def Entry.fits (e : Entry) (length : Nat) : Bool := e.finish + Config.endClear ≤ length

/-- R6: whether an entry is walked in this cycle, as judged at the opening of its slot window. -/
def walks (s : State) (c : CycleNow) (e : Entry) : Bool :=
  match s.trunk.earlyWalk.find? (fun w => w.start == e.start) with
  | some w => w.walked
  | none => e.fits c.length

/-- R6: an instant of the current cycle. -/
def CycleNow.at (c : CycleNow) (pos : Nat) : Word := c.origin + BitVec.ofNat 32 pos

/-- R9, R15: the node has begun a frame of its own in the slot with this start. -/
def sentInSlot (s : State) (start : Nat) : Bool := s.trunk.ownSlots.any (fun o => o.start == start)

/-- R11: at the end of this cycle a frame that began in the entry's slot window may still be on the line: the entry is
CYCLIC, its window has had no frame, and the longest frame from the window's close runs past the cycle. -/
def mayRunLate (s : State) (c : CycleNow) (e : Entry) : Bool :=
  walks s c e && e.isCyclic && !s.trunk.slots.any (fun r => r.start == e.start) && !sentInSlot s e.start &&
    decide (c.length < e.start + 4 + Config.longestFrame)

/-- R11: the slots that wait past the cycle's end for a frame that is still being received. -/
def lateSlots (s : State) (c : CycleNow) : List LateSlot :=
  (s.sched.active.entries.filter (mayRunLate s c)).map
    (fun e => { entry := e, opened := c.at e.start - 4, record := none })

/-- R11: the interface at the end of a cycle. -/
def keepLate (c : CycleNow) (s : State) : State := { s with trunk := { s.trunk with late := lateSlots s c } }

/-- R23: a cycle start of a synchronised node. -/
def nextCycle (s : State) : Result :=
  match s.current with
  | some c => finish (beginCycle c.following (keepLate c s))
  | none => noEvent s

/-! ### Listen-only -/

/-- R35: the frame's active epoch and cycle length equal those of the node's own ACTIVE bank. -/
def scheduleMatches (f : CycleStartFrame) (s : State) : Bool :=
  f.epoch == s.sched.active.epoch && f.length == s.activeLength

/-- R35, R75: the listen-only flag is cleared. -/
def clearListenOnly (s : State) : State :=
  (s.withCycle { s.cycle with listenOnly := false }).withTakeUp s.sched.takeUp.matched

/-- R35: the listen-only flag is evaluated at an accepted frame. -/
def evaluateListenOnly (f : CycleStartFrame) (s : State) : State :=
  if scheduleMatches f s then
    if s.cycle.listenOnly then giveNotice (.scheduleMatch f.epoch) (clearListenOnly s)
    else s
  else if s.cycle.listenOnly then s
  else
    giveNotice (.scheduleMismatch f.epoch f.length s.sched.active.epoch s.activeLength)
      (s.withCycle { s.cycle with listenOnly := true })

/-- R30, R31: what follows the adoption of an accepted frame: listen-only, then the schedule unit. -/
def acceptFields (f : CycleStartFrame) (s : State) : State := scheduleAccepts f (evaluateListenOnly f s)

/-! ### Claiming and leading -/

/-- R26, R34: entry to LEADING. -/
def CycleUnit.leads (c : CycleUnit) : CycleUnit :=
  { c with timing := .leading, lastMaster := c.address, phaseError := 0, missCount := 0, listenOnly := false,
           conflict := none, claim := none, run := none }

/-- R26: the first cycle of a node that has claimed. -/
def ClaimRecord.firstCycle (r : ClaimRecord) (length : Nat) : CycleNow :=
  { number := (r.lastHigher.map (· + 1)).getD 0, origin := r.opened + BitVec.ofNat 32 Config.claimWindow,
    length := length }

/-- R26: the claim window expires. -/
def claimExpires (r : ClaimRecord) (s : State) : State :=
  let c := r.firstCycle s.activeLength
  beginCycle c (giveNotice (.masterLeading .claim c.number) (s.withCycle { s.cycle.leads with now := some c }))

/-- R25, R28: a claiming or leading master yields to a lower address. A source of 0 is taken as well (log entry 21). -/
def yieldTo (f : CycleStartFrame) (stamp : Word) (s : State) : State :=
  depart .hunting [.masterYielded f.source] (some (firstCandidate f stamp))
    (s.withCycle { s.cycle with lastMaster := f.source })

/-- R25: a usable frame in CLAIMING. -/
def claimFrame (f : CycleStartFrame) (stamp : Word) (s : State) : State :=
  if f.source < s.cycle.address then yieldTo f stamp s
  else s.withCycle { s.cycle with claim := s.cycle.claim.map (fun r => { r with lastHigher := some f.number }) }

/-- R28: a conflicting frame opens an episode with a notice, or continues one; the quiet count is 0 in either case
(R150: the episode opens even when its notice is masked or lost). -/
def conflictFrame (f : CycleStartFrame) (s : State) : State :=
  giveNotices (if s.cycle.conflict.isSome then [] else [.masterConflict f.source])
    (s.withCycle { s.cycle with conflict := some 0 })

/-- R28: a usable frame in LEADING. -/
def leadFrame (f : CycleStartFrame) (stamp : Word) (s : State) : State :=
  if f.source < s.cycle.address then yieldTo f stamp s else conflictFrame f s

/-! ### Hunting -/

/-- R29: the spacing of a frame from the latest of a run, modulo 4,294,967,296. -/
def CandidateRun.spacing (r : CandidateRun) (stamp : Word) : Nat := (stamp - r.stamp).toNat

/-- R29: a spacing within 2 byte times of a length. -/
def within2 (spacing length : Nat) : Bool := spacing ≤ length + 2 && length ≤ spacing + 2

/-- R29: the frame continues the run. -/
def CandidateRun.continuedBy (r : CandidateRun) (f : CycleStartFrame) (stamp : Word) : Bool :=
  f.source == r.source && f.number == r.number + 1 && within2 (r.spacing stamp) r.length

/-- R30: the cycle unit as it enters LOCKED on the third frame of a run. Its source becomes the last master address whatever
it is (log entry 21). -/
def CycleUnit.lockedOn (c : CycleUnit) (r : CandidateRun) (f : CycleStartFrame) (stamp : Word) : CycleUnit :=
  { c with timing := .locked, now := some { number := f.number, origin := stamp, length := f.length },
           lastMaster := f.source, phaseError := (r.spacing stamp : Int) - r.length, missCount := 0, run := none }

/-- R30: the third frame of a run: SYNC_LOCKED, then the first cycle start, then the frame as accepted in LOCKED. DESIGN
CHOICE (log entry 16): in this cycle, which the node enters at byte time 22, an entry at start 24 or 25 is walked like any
other, judged by the adopted length, though its slot window opened before the entry to LOCKED. -/
def lockOn (r : CandidateRun) (f : CycleStartFrame) (stamp : Word) (s : State) : State :=
  acceptFields f (signalCycleStart f.number (endWalk (giveNotice (.syncLocked f.source f.length)
    (s.withCycle (s.cycle.lockedOn r f stamp)))))

/-- R29: the run that a frame leaves when it does not lock. -/
def nextRun (r : CandidateRun) (f : CycleStartFrame) (stamp : Word) : CandidateRun :=
  if r.continuedBy f stamp then { firstCandidate f stamp with count := r.count + 1 } else firstCandidate f stamp

/-- R29, R30: the frame is the third of the run. -/
def CandidateRun.completedBy (r : CandidateRun) (f : CycleStartFrame) (stamp : Word) : Bool :=
  2 ≤ r.count && r.continuedBy f stamp

/-- R29: a usable frame in HUNTING. -/
def huntFrame (f : CycleStartFrame) (stamp : Word) (s : State) : State :=
  match s.cycle.run with
  | none => s.withCycle { s.cycle with run := some (firstCandidate f stamp) }
  | some r =>
    if r.completedBy f stamp then lockOn r f stamp s
    else s.withCycle { s.cycle with run := some (nextRun r f stamp) }

/-! ### Following -/

/-- R31, R33: the node jumps to HUNTING with this frame as the first of a run. -/
def jump (reason : JumpReason) (f : CycleStartFrame) (stamp : Word) (s : State) : State :=
  depart .hunting [.syncJump reason f.source] (some (firstCandidate f stamp)) s

/-- R34: a deferring master takes the cycle over. The current cycle runs on; R76: the banks and records are kept. -/
def takeOver (c : CycleNow) (s : State) : State :=
  giveNotice (.masterLeading .takeover c.number) (s.withCycle { s.cycle.leads with now := some c })

/-- R32: what the eighth miss does, by role. -/
def giveUpCycle (c : CycleNow) (s : State) : State :=
  match s.cycle.role with
  | .member => depart .hunting [.syncLost s.cycle.lastMaster] none s
  | .master => takeOver c s

/-- R32: a missed cycle start. -/
def missCycleStart (c : CycleNow) (s : State) : State :=
  let missed := s.withCycle { s.cycle with timing := .holdover, missCount := s.cycle.missCount + 1 }
  if Config.missLimit ≤ s.cycle.missCount + 1 then giveUpCycle c missed else missed

/-- R7: the window's result has been handed; no other follows in this cycle. -/
def settleWindow (s : State) : State := { s with trunk := { s.trunk with window := .settled } }

/-- R31: the cycle unit after an accepted frame. DEDUCED, unsafe (log entry 21): no rule checks the source of a cycle start
frame, so one of 0 or above 62 is held as last master address too, outside the range that R23 and R40 give it. -/
def CycleUnit.accepts (c : CycleUnit) (n : CycleNow) (f : CycleStartFrame) (stamp : Word) : CycleUnit :=
  { c with timing := .locked, now := some { number := n.number, origin := stamp, length := f.length },
           phaseError := offsetFrom n.origin stamp, missCount := 0, lastMaster := f.source }

/-- R6: the entries whose slot window, 4 byte times before the start, opened before the frame's end, 22 byte times after
its stamp: each was judged against the former cycle length. -/
def judgedBefore (entries : List Entry) (former : CycleNow) (stamp : Word) : List EarlyWalk :=
  (entries.filter (fun e => decide ((e.start : Int) - 4 < offsetFrom former.origin stamp + 22))).map
    (fun e => { start := e.start, walked := e.fits former.length })

/-- R31: a GOOD window result with a usable frame of the expected number. -/
def acceptFrame (n : CycleNow) (f : CycleStartFrame) (stamp : Word) (s : State) : State :=
  acceptFields f { s with cycle := s.cycle.accepts n f stamp,
                          trunk := { s.trunk with earlyWalk := judgedBefore s.sched.active.entries n stamp } }

/-- R24: the frame's cycle length is usable. -/
def CycleStartFrame.usable (f : CycleStartFrame) : Bool := usableLength f.length

/-- R31: the window result GOOD in LOCKED or HOLDOVER. -/
def windowGood (n : CycleNow) (f : CycleStartFrame) (stamp : Word) (s : State) : State :=
  if !f.usable then missCycleStart n s
  else if f.number = n.number then acceptFrame n f stamp s
  else jump .number f stamp s

/-- R8, R24, R25, R28, R29, R33: an unexpected cycle start frame; one that is not usable is disregarded. -/
def unexpectedFrame (f : CycleStartFrame) (stamp : Word) (s : State) : State :=
  if !f.usable then s
  else
    match s.cycle.timing with
    | .offline => s
    | .claiming => claimFrame f stamp s
    | .leading => leadFrame f stamp s
    | .hunting => huntFrame f stamp s
    | .locked | .holdover => jump .phase f stamp s

/-! ### Requests -/

/-- R38: IDENTIFY. -/
def identifyRequest : Handler := fun _ s =>
  (.okWith ([0x5A] ++ halfBytesOf 410 ++ [1, s.cycle.address, s.cycle.role.code, s.operatingCode]), s)

/-- R20: SET_NODE. -/
def setNodeRequest : Handler := fun body s =>
  if s.online then (.refuse .wrongState [], s)
  else if 62 < byteAt body 0 then (.refuse .badValue [], s)
  else
    match roleOf (byteAt body 1) with
    | none => (.refuse .badValue [], s)
    | some role => (.okWith [], s.withCycle { s.cycle with address := byteAt body 0, role := role })

/-- R39: SET_CYCLE. -/
def setCycleRequest : Handler := fun body s =>
  if usableLength (halfAt body 0).toNat then
    (.okWith [], s.withCycle { s.cycle with bareLength := (halfAt body 0).toNat })
  else (.refuse .badValue [], s)

/-- R21, R25, R29: the cycle unit as it goes online at this instant. -/
def CycleUnit.goesOnline (c : CycleUnit) (clock : Word) : CycleUnit :=
  match c.role with
  | .member => { c with timing := .hunting, run := none, missCount := 0, listenOnly := false }
  | .master =>
    { c with timing := .claiming, claim := some { opened := clock, lastHigher := none }, missCount := 0,
             listenOnly := false }

/-- R5, R16: in OFFLINE nothing is received, so the interface hears the frames that begin from this instant on. -/
def hearFromNow (s : State) : State :=
  { s with trunk := { s.trunk with hearsFrom := some s.trunk.lineClock } }

/-- R21: GO_ONLINE. -/
def goOnlineRequest : Handler := fun _ s =>
  if s.online || s.cycle.address = 0 then (.refuse .wrongState [], s)
  else (.okWith [], hearFromNow (s.withCycle (s.cycle.goesOnline s.trunk.lineClock)))

/-- R22: GO_OFFLINE. -/
def goOfflineRequest : Handler := fun _ s =>
  (.okWith [], if s.online then depart .offline [] none (deferOffline s) else s)

/-- R40: the cycle length in use that READ_SYNC reports. -/
def State.reportedLength (s : State) : Nat := (s.current.map (·.length)).getD s.cycle.bareLength

/-- R40: READ_SYNC. -/
def readSyncRequest : Handler := fun _ s =>
  (.okWith ([s.cycle.timing.code] ++ optionBytes 4 (s.cycleNumber.map wordBytes) ++ halfBytesOf s.reportedLength ++
    [s.cycle.lastMaster, signedByte s.cycle.phaseError, byteOf s.cycle.missCount, flagByte s.cycle.listenOnly] ++
    halfBytes s.sched.active.epoch ++ [s.sched.staged.state.code]), s)

/-- R18: the seven counters, in the order of the reply. -/
def counterBytes (s : State) : List Byte :=
  halfBytesOf s.trunk.crcErrors ++ halfBytesOf s.trunk.malformed ++ halfBytesOf s.trunk.wrongSlot ++
    halfBytesOf s.trunk.stray ++ halfBytesOf s.trunk.disturbed ++ halfBytesOf s.rx.orphan ++ halfBytesOf s.rx.duplicate

/-- R18: each of the seven counters is set to 0. -/
def clearCounters (s : State) : State :=
  { s with trunk := { s.trunk with crcErrors := 0, malformed := 0, wrongSlot := 0, stray := 0, disturbed := 0 },
           rx := { s.rx with orphan := 0, duplicate := 0 } }

/-- R18: READ_COUNTS. -/
def readCountsRequest : Handler := fun body s =>
  if byteAt body 0 = 0 then (.okWith (counterBytes s), s)
  else if byteAt body 0 = 1 then (.okWith (counterBytes s), clearCounters s)
  else (.refuse .badValue [], s)

/-! ### Meanings -/

/-- IDENTIFY (R38). -/
def execIdentify (s : State) : Result := takeRequest 0x01 identifyRequest s

/-- SET_NODE (R20). -/
def execSetNode (s : State) : Result := takeRequest 0x02 setNodeRequest s

/-- SET_CYCLE (R39). -/
def execSetCycle (s : State) : Result := takeRequest 0x03 setCycleRequest s

/-- GO_ONLINE (R21). -/
def execGoOnline (s : State) : Result := takeRequest 0x04 goOnlineRequest s

/-- GO_OFFLINE (R22). -/
def execGoOffline (s : State) : Result := takeRequest 0x05 goOfflineRequest s

/-- READ_SYNC (R40). -/
def execReadSync (s : State) : Result := takeRequest 0x07 readSyncRequest s

/-- READ_COUNTS (R18). -/
def execReadCounts (s : State) : Result := takeRequest 0x60 readCountsRequest s

/-- CLAIM_WINDOW_EXPIRES (R26). -/
def execClaimWindowExpires (s : State) : Result :=
  match s.cycle.timing, s.cycle.claim with
  | .claiming, some r => finish (claimExpires r s)
  | _, _ => noEvent s

/-- CYCLE_START (R23). -/
def execCycleStart (s : State) : Result := nextCycle s

/-- The next cycle start ends the conflict episode (R28). -/
def quietEnds (s : State) : Bool :=
  s.cycle.timing == .leading && s.cycle.conflict.any (fun n => Config.quietLimit ≤ n + 1)

/-- CONFLICT_EPISODE_END (R28): the cycle start at which the quiet count reaches 8 (log entry 4). -/
def execConflictEpisodeEnd (s : State) : Result := if quietEnds s then nextCycle s else noEvent s

/-- The limit of R114 that the message in flight reaches at the next cycle start. -/
def limitAhead (s : State) : Option FailReason :=
  match s.tx.queue with
  | [] => none
  | m :: _ =>
    match m.state with
    | .inFlight r => limitReached (r.counted m)
    | .waiting | .aborting _ _ _ => none

/-- MESSAGE_STARVED (R114): the cycle start at which the starve count reaches 32 (log entry 4). -/
def execMessageStarved (s : State) : Result := if limitAhead s = some .starved then nextCycle s else noEvent s

/-- MESSAGE_CONTENTION (R114): the cycle start at which cycles since won reaches 48 (log entry 4). -/
def execMessageContention (s : State) : Result := if limitAhead s = some .contention then nextCycle s else noEvent s

/-- The next cycle start exhausts the abort attempts of the ABORTING message (R117). -/
def attemptsEnd (s : State) : Bool :=
  match s.tx.queue with
  | [] => false
  | m :: _ =>
    match m.state with
    | .aborting _ _ attempts => Config.attemptLimit ≤ attempts + 1
    | .waiting | .inFlight _ => false

/-- ABORT_ATTEMPTS_EXHAUSTED (R117): the cycle start at which the abort attempt count reaches 16 (log entry 4). -/
def execAbortAttemptsExhausted (s : State) : Result := if attemptsEnd s then nextCycle s else noEvent s

/-- The next cycle start breaks a context with TIMEOUT (R135). -/
def timeoutAhead (s : State) : Bool := s.rx.places.any (fun o => o.any (fun c => Config.idleLimit ≤ c.idle + 1))

/-- CONTEXT_TIMEOUT (R135): a cycle start at which the idle cycles of a context reach 64 (log entry 4). -/
def execContextTimeout (s : State) : Result := if timeoutAhead s then nextCycle s else noEvent s

/-- A completion record lapses at the next cycle start (R133). -/
def lapseAhead (s : State) : Bool := s.rx.records.any (fun r => Config.recordLimit ≤ r.count + 1)

/-- COMPLETION_RECORD_LAPSE (R133): a cycle start at which the count of a record reaches 64 (log entry 4). -/
def execCompletionRecordLapse (s : State) : Result := if lapseAhead s then nextCycle s else noEvent s

/-- R7: the cycle whose window waits for its frame, in LOCKED and HOLDOVER. -/
def State.openWindow (s : State) : Option CycleNow :=
  if s.cycle.timing.following && s.trunk.window = .awaiting then s.cycle.now else none

/-- R7: the cycle whose window has had no result, in LOCKED and HOLDOVER. With the node's own frame as the window's frame
the result is ABSENT too. -/
def State.pendingWindow (s : State) : Option CycleNow :=
  if s.cycle.timing.following && s.trunk.window != .settled then s.cycle.now else none

/-- R7: the window closes 2 byte times after the expected start, with the result ABSENT. -/
def windowAbsent (c : CycleNow) (s : State) : State := missCycleStart c (settleWindow (s.atInstant (c.origin + 2)))

/-- R7, R32: the open window closes with the result ABSENT. -/
def closeWindow (s : State) : Result :=
  match s.pendingWindow with
  | some c => finish (windowAbsent c s)
  | none => noEvent s

/-- CYCLE_START_WINDOW_CLOSES (R7, R32). -/
def execCycleStartWindowCloses (s : State) : Result := closeWindow s

/-- R32: the next missed cycle start is the eighth. -/
def eighthMiss (s : State) : Bool := Config.missLimit ≤ s.cycle.missCount + 1

/-- SYNC_LOST (R32): the window result ABSENT with which a member's miss count reaches 8 (log entry 4). -/
def execSyncLost (s : State) : Result :=
  if s.cycle.role = .member && eighthMiss s then closeWindow s else noEvent s

/-- TAKEOVER (R34): the window result ABSENT with which a deferring master's miss count reaches 8 (log entry 4). -/
def execTakeover (s : State) : Result :=
  if s.cycle.role = .master && eighthMiss s then closeWindow s else noEvent s

end Sys2Proof.Machine
end

