-- ==== Sys2Proof/Machine/Resets.lean ====
section
/-! DEFINITION. Node reset and power-on reset (R41, R155, R157, R170). A link reset stands in HostLink.lean. -/

namespace Sys2Proof.Machine

/-- R16, R17: the trunk interface at a node reset: at once, or from the end of the frame it is sending. In the second case
the node is OFFLINE already, so that the walk ends and nothing more is begun (R5; DEDUCED, log entry 7). -/
def nodeResetTrunk (t : TrunkInterface) : TrunkInterface :=
  if t.busy then { t.endWalk with deferred := some .nodeReset } else .reset

/-- R41: every unit except the host link takes its node-reset values; NODE_RESTARTED (REQUEST) is queued (R155). -/
def nodeReset (s : State) : State :=
  { trunk := nodeResetTrunk s.trunk, cycle := .reset, sched := .reset,
    channels := List.replicate Config.channelCount none, tx := .reset, rx := .reset, notices := .reset .request,
    link := s.link, pending := s.pending }

/-- R41: RESET_NODE. The reply is formed first. -/
def resetNodeRequest : Handler := fun _ s => (.okWith [], nodeReset s)

/-- RESET_NODE (R41). -/
def execResetNode (s : State) : Result := takeRequest 0x06 resetNodeRequest s

/-- POWER_ON_RESET (R41, R157): every unit takes its power-on values, the straps are sampled. Any frame ends at once
(R16). -/
def execPowerOnReset (mode rate1 rate0 : Bool) (s : State) : Result :=
  finish { State.powerOn { mode := mode, rate1 := rate1, rate0 := rate0 } with pending := s.pending }

end Sys2Proof.Machine
end

