-- ==== Sys2Proof/Machine/Trunk.lean ====
section
/-! DEFINITION. The trunk interface (chapter 1): received frames, the walk, CYCLIC and OPEN slots, the ends of the node's
own frames. -/

namespace Sys2Proof.Machine

/-! ### Counters -/

/-- R17: one more in CRC_ERRORS. -/
def countCrc (s : State) : State := { s with trunk := { s.trunk with crcErrors := bump s.trunk.crcErrors } }

/-- R17: one more in MALFORMED. -/
def countMalformed (s : State) : State := { s with trunk := { s.trunk with malformed := bump s.trunk.malformed } }

/-- R17: one more in STRAY. -/
def countStray (s : State) : State := { s with trunk := { s.trunk with stray := bump s.trunk.stray } }

/-- R4, R5, R16: an own frame abandoned on a mismatch counts in DISTURBED, in the synchronised states and while the
interface has still to follow a GO_OFFLINE or node reset (DEDUCED, log entry 7). -/
def countDisturbed (s : State) : State :=
  if s.cycle.timing.synchronised || s.trunk.deferred.isSome then
    { s with trunk := { s.trunk with disturbed := bump s.trunk.disturbed } }
  else s

/-! ### The walk -/

/-- R6: the walked entry with this start. -/
def walkedEntry (s : State) (c : CycleNow) (start : Nat) : Option Entry :=
  s.sched.active.entries.find? (fun e => e.start == start && walks s c e)

/-- R9: a position lies in the slot window of an entry. -/
def Entry.windowHolds (e : Entry) (pos : Int) : Bool :=
  decide ((e.start : Int) - 4 ≤ pos) && decide (pos ≤ (e.start : Int) + 4)

/-- R9: the walked entry whose slot window holds a position. -/
def entryAt (s : State) (c : CycleNow) (pos : Int) : Option Entry :=
  s.sched.active.entries.find? (fun e => e.windowHolds pos && walks s c e)

/-- R9: when a frame begins at this instant the slot with this start has had its frame: a received one, or one that the
node itself has begun there (log entry 15). -/
def slotTaken (s : State) (start : Nat) (stamp : Word) : Bool :=
  s.trunk.slots.any (fun r => r.start == start) ||
    s.trunk.ownSlots.any (fun o => o.start == start && decide (0 ≤ offsetFrom o.since stamp))

/-- R9: the first frame of a slot's window, which has ended now, with the cyclic frame to hold for the slot's end. -/
def takeSlot (start : Nat) (held : Option CyclicFrame) (s : State) : State :=
  { s with trunk := { s.trunk with
      slots := { start := start, held := held, ended := s.trunk.lineClock } :: s.trunk.slots } }

/-- R7: an offset from the expected start lies in the cycle start window. -/
def inStartWindow (pos : Int) : Bool := decide (-2 ≤ pos) && decide (pos ≤ 2)

/-! ### Received frames -/

/-- R9: a frame that is not handed in the slot whose window it falls in still is that window's frame, if it is the first. -/
def noteSlotFrame (c : CycleNow) (stamp : Word) (s : State) : State :=
  match entryAt s c (offsetFrom c.origin stamp) with
  | some e => if slotTaken s e.start stamp then s else takeSlot e.start none s
  | none => s

/-- R9: a good cyclic frame outside the cycle start window. -/
def cyclicFrameAt (c : CycleNow) (stamp : Word) (f : CyclicFrame) (s : State) : State :=
  match entryAt s c (offsetFrom c.origin stamp) with
  | none => countStray s
  | some e =>
    if slotTaken s e.start stamp then countStray s
    else
      match e.slot with
      | .cyclic _ _ _ _ => takeSlot e.start (some f) s
      | .openSlot _ => countStray (takeSlot e.start none s)

/-- R9, R15: a good segment frame outside the cycle start window. A slot in which the node has begun a frame of its own has
had its frame, so that nothing is handed there. -/
def segmentFrameAt (c : CycleNow) (stamp : Word) (f : SegmentFrame) (s : State) : State :=
  match entryAt s c (offsetFrom c.origin stamp) with
  | none => countStray s
  | some e =>
    if slotTaken s e.start stamp then countStray s
    else
      match e.slot with
      | .cyclic _ _ _ _ => countStray (takeSlot e.start none s)
      | .openSlot _ => receiveSegment c.number f (takeSlot e.start none s)

/-- R7: the frame of the cycle start window gives the window's result. -/
def windowFrame (c : CycleNow) (stamp : Word) (j : Judgement) (s : State) : State :=
  match j with
  | .malformed => missCycleStart c (settleWindow (countMalformed s))
  | .crcError => missCycleStart c (settleWindow (countCrc s))
  | .good (.cycleStart f) => windowGood c f stamp (settleWindow s)
  | .good (.cyclic _) | .good (.segment _) => missCycleStart c (settleWindow (countStray s))

/-- R8, R9: a frame that is not the cycle start window's. -/
def cycleFrame (c : CycleNow) (stamp : Word) (j : Judgement) (s : State) : State :=
  match j with
  | .malformed => noteSlotFrame c stamp (countMalformed s)
  | .crcError => noteSlotFrame c stamp (countCrc s)
  | .good (.cycleStart f) => unexpectedFrame f stamp (noteSlotFrame c stamp s)
  | .good (.cyclic f) => cyclicFrameAt c stamp f s
  | .good (.segment f) => segmentFrameAt c stamp f s

/-- R9, R11: the frame began in the window of a slot of the cycle before that still waits for it. -/
def LateSlot.awaits (l : LateSlot) (stamp : Word) : Bool := l.record.isNone && decide ((stamp - l.opened).toNat ≤ 8)

/-- R11: the slot whose frame has been on the line since before this cycle's start. -/
def lateSlotOf (s : State) (stamp : Word) : Option LateSlot := s.trunk.late.find? (fun l => l.awaits stamp)

/-- R11: a late slot with its frame, which has ended at this instant. -/
def LateSlot.taken (l : LateSlot) (held : Option CyclicFrame) (ended : Word) : LateSlot :=
  { l with record := some { start := l.entry.start, held := held, ended := ended } }

/-- R9, R11: the frame of a late slot has ended. -/
def takeLate (l : LateSlot) (held : Option CyclicFrame) (s : State) : State :=
  { s with trunk := { s.trunk with
      late := s.trunk.late.map (fun x => if x = l then l.taken held s.trunk.lineClock else x) } }

/-- R9, R11: a frame that began in the CYCLIC slot `l` of the cycle before. -/
def lateFrame (l : LateSlot) (stamp : Word) (j : Judgement) (s : State) : State :=
  match j with
  | .malformed => takeLate l none (countMalformed s)
  | .crcError => takeLate l none (countCrc s)
  | .good (.cycleStart f) => unexpectedFrame f stamp (takeLate l none s)
  | .good (.cyclic f) => takeLate l (some f) s
  | .good (.segment _) => takeLate l none (countStray s)

/-- R5: a frame received in CLAIMING or HUNTING, where the node has no position in a cycle. -/
def placelessFrame (stamp : Word) (j : Judgement) (s : State) : State :=
  match j with
  | .malformed => countMalformed s
  | .crcError => countCrc s
  | .good (.cycleStart f) => unexpectedFrame f stamp s
  | .good (.cyclic _) | .good (.segment _) => s

/-- R7, R8, R9, R11: a frame received by a synchronised node. -/
def placedFrame (c : CycleNow) (stamp : Word) (j : Judgement) (s : State) : State :=
  if s.openWindow.isSome && inStartWindow (offsetFrom c.origin stamp) then windowFrame c stamp j s
  else
    match lateSlotOf s stamp with
    | some l => lateFrame l stamp j s
    | none => cycleFrame c stamp j s

/-- R5: a judged frame, by timing state. In OFFLINE nothing is received. -/
def handFrame (stamp : Word) (j : Judgement) (s : State) : State :=
  match s.cycle.timing with
  | .offline => s
  | .claiming | .hunting => placelessFrame stamp j s
  | .leading | .locked | .holdover =>
    match s.cycle.now with
    | some c => placedFrame c stamp j s
    | none => s

/-- R3: the instant at which a frame that began at `stamp` has been read or is given up. -/
def readInstant (stamp : Word) (bytes : List Byte) : Word := stamp + BitVec.ofNat 32 (readTime bytes)

/-- R1, R5, R16: the frame began before the node last went ONLINE, and the line had not fallen quiet by then (log entry
18). It may have been on the line when the node entered OFFLINE or was reset. -/
def begunUnheard (s : State) (stamp : Word) (bytes : List Byte) : Bool :=
  s.trunk.hearsFrom.any (fun t => decide (0 < (t - stamp).toNat) && decide ((t - stamp).toNat ≤ bytes.length))

/-- R5: nothing of the frame is received: the node is OFFLINE, or was when the frame began. -/
def unheard (s : State) (stamp : Word) (bytes : List Byte) : Bool :=
  s.cycle.timing == .offline || begunUnheard s stamp bytes

/-- R16: a frame has been received that began after the node went ONLINE; no earlier one is on the line any more. -/
def heard (s : State) : State := { s with trunk := { s.trunk with hearsFrom := none } }

/-- R3: a frame is received, judged and handed. -/
def receiveFrame (stamp : Word) (bytes : List Byte) (s : State) : Result :=
  if unheard s stamp bytes then noEvent s
  else finish (handFrame stamp (judge bytes) (heard (s.atInstant (readInstant stamp bytes))))

/-- TRUNK_FRAME_RECEIVED (R3). -/
def execTrunkFrameReceived (stamp : Word) (bytes : List Byte) (s : State) : Result := receiveFrame stamp bytes s

/-- R30: the frame is the third of the candidate run of a hunting node. -/
def locks (s : State) (stamp : Word) (bytes : List Byte) : Bool :=
  match s.cycle.timing, s.cycle.run, judge bytes with
  | .hunting, some r, .good (.cycleStart f) => f.usable && r.completedBy f stamp
  | _, _, _ => false

/-- SYNC_LOCKED (R30): the received frame that completes a candidate run (log entry 4). -/
def execSyncLocked (stamp : Word) (bytes : List Byte) (s : State) : Result :=
  if locks s stamp bytes then receiveFrame stamp bytes s else noEvent s

/-! ### CYCLIC slots -/

/-- R10: the cyclic frame that the channel unit's answer makes. -/
def ownCyclic (address label : Byte) (answer : List Byte × Byte) : CyclicFrame :=
  { source := address, label := label, age := answer.2, payload := answer.1 }

/-- R9, R15: the slot with this start has a frame of the node's own, whose first bit is at this instant. -/
def noteOwnSlot (start : Nat) (since : Word) (s : State) : State :=
  { s with trunk := { s.trunk with ownSlots := { start := start, since := since } :: s.trunk.ownSlots } }

/-- R10, R11: the interface sends its own cyclic frame in the slot with this start. DEDUCED (log entry 15): it is the slot's
frame, so that a good frame that begins later in the slot's window counts in STRAY. -/
def sendCyclic (start : Nat) (f : OwnFrame) (s : State) : State := beginFrame f (noteOwnSlot start f.since s)

/-- R10: the channel unit is asked, if permission is granted, and its answer is sent. -/
def startCyclicSlot (start : Nat) (label : Byte) (since : Word) (s : State) : State :=
  if s.maySendCyclic then
    match produceAnswer label s with
    | some a => sendCyclic start { bytes := (ownCyclic s.cycle.address label a).bytes, since := since } s
    | none => s
  else s

/-- CYCLIC_SLOT_START (R10): the start of a walked CYCLIC slot that the node's own address owns. -/
def execCyclicSlotStart (start : Nat) (s : State) : Result :=
  match s.current with
  | none => noEvent s
  | some c =>
    match walkedEntry s c start with
    | some { slot := .cyclic _ owner label _, .. } =>
      if owner = s.cycle.address then finish (startCyclicSlot start label (c.at start) (s.atInstant (c.at start)))
      else noEvent s
    | some { slot := .openSlot _, .. } | none => noEvent s

/-- R9: the frame that the slot with this start has had. -/
def recordOfSlot (start : Nat) (s : State) : Option SlotRecord := s.trunk.slots.find? (fun r => r.start == start)

/-- R9, R11: the frame held for a slot; a slot in which the node sent its own frame is handed with none. -/
def heldFrame (start : Nat) (s : State) : Option CyclicFrame :=
  if sentInSlot s start then none else (recordOfSlot start s).bind (·.held)

/-- R11: the slot end with its entry's owner, label and payload length, its frame if it has one, and its instant. -/
structure SlotEnd where
  owner : Byte
  label : Byte
  payload : Nat
  frame : Option CyclicFrame
  instant : Word
  deriving DecidableEq, Repr

/-- The later of two instants that lie less than half the line clock's range apart. -/
def laterOf (a b : Word) : Word := if 0 < offsetFrom a b then b else a

/-- R11: the instant of a slot end: when the slot's last byte time has passed, or when its frame ends, if that is later. -/
def slotEndInstant (finish : Word) (r : Option SlotRecord) : Word :=
  match r with
  | some r => laterOf finish r.ended
  | none => finish

/-- R11: the slot end of a CYCLIC entry. -/
def Entry.slotEnd (e : Entry) (frame : Option CyclicFrame) (instant : Word) : Option SlotEnd :=
  match e.slot with
  | .cyclic _ owner label payload =>
    some { owner := owner, label := label, payload := payload, frame := frame, instant := instant }
  | .openSlot _ => none

/-- R11: the late slot with this start whose frame has ended, so that its slot end is due. -/
def lateSlotDue (start : Nat) (s : State) : Option LateSlot :=
  s.trunk.late.find? (fun l => l.entry.start == start && l.record.isSome)

/-- R11: the slot end of a late slot, in the cycle that follows. -/
def LateSlot.slotEnd (l : LateSlot) : Option SlotEnd :=
  l.entry.slotEnd (l.record.bind (·.held))
    (slotEndInstant (l.opened + BitVec.ofNat 32 (4 + l.entry.slotLength)) l.record)

/-- R11: the slot end that is due for the entry with this start: that of a late slot first, else that of a walked entry. -/
def slotEndDue (c : CycleNow) (start : Nat) (s : State) : Option SlotEnd :=
  match lateSlotDue start s with
  | some l => l.slotEnd
  | none => (walkedEntry s c start).bind (fun e =>
      e.slotEnd (heldFrame start s) (slotEndInstant (c.at e.finish) (recordOfSlot start s)))

/-- R11: the held frame of a slot of this cycle is handed, and is no longer held. -/
def releaseHeld (start : Nat) (s : State) : State :=
  { s with trunk := { s.trunk with
      slots := s.trunk.slots.map (fun r => if r.start = start then { r with held := none } else r) } }

/-- R11: a slot has ended, and holds no frame any more. -/
def releaseSlot (start : Nat) (s : State) : State :=
  match lateSlotDue start s with
  | some l => { s with trunk := { s.trunk with late := s.trunk.late.filter (· != l) } }
  | none => releaseHeld start s

/-- R11: a slot end is handed to the channel unit in the cycle with this number. -/
def handSlotEnd (number : Word) (e : SlotEnd) (s : State) : State :=
  channelSlotEnd number e.owner e.label e.payload e.frame s

/-- R11: the end of the CYCLIC slot with this start. -/
def cyclicSlotEnds (start : Nat) (s : State) : Result :=
  match s.current with
  | none => noEvent s
  | some c =>
    match slotEndDue c start s with
    | some e => finish (handSlotEnd c.number e (releaseSlot start (s.atInstant e.instant)))
    | none => noEvent s

/-- CYCLIC_SLOT_END (R11). -/
def execCyclicSlotEnd (start : Nat) (s : State) : Result := cyclicSlotEnds start s

/-- R91: the channel enters LOST when it has no accepted frame at its slot end. -/
def Channel.losesNow (c : Channel) : Bool :=
  match c.direction with
  | .consume d => c.resolution == .resolved && d.state != .lost && d.miss.state == .lost
  | .produce _ => false

/-- R91: at this slot end a consume channel enters LOST. -/
def SlotEnd.loses (e : SlotEnd) (s : State) : Bool :=
  (channelOfLabel e.label 0 s.channels).any (fun p =>
    (p.2.takes (inPlaceFrame e.owner e.label e.payload e.frame)).isNone && p.2.losesNow)

/-- R91: at the end of the slot with this start a consume channel enters LOST. -/
def channelLostAt (start : Nat) (s : State) : Bool :=
  (s.current.bind (fun c => slotEndDue c start s)).any (fun e => e.loses s)

/-- CHANNEL_LOST (R91): the slot end at which a consume channel enters LOST (log entry 4). -/
def execChannelLost (start : Nat) (s : State) : Result :=
  if channelLostAt start s then cyclicSlotEnds start s else noEvent s

/-! ### OPEN slots -/

/-- R14: the interface has still to hand the outcome of a segment frame. -/
def State.sendingSegment (s : State) : Bool := s.trunk.segment.isSome

/-- R12: what the interface does with a segment for the OPEN slot whose own start is this instant, by what the line shows:
it joins a lead seen in the window, begins its own lead at the slot's start or once the line is quiet, finds the line busy
at the slot's start, or finds the window closed before the line is quiet. -/
def wayToContend (line : OpenLine) (start : Word) : Contention :=
  match line with
  | .leadSeen after => if after < 4 then .waits (start - 4 + BitVec.ofNat 32 after) else .waits start
  | .quiet => .waits start
  | .busy => .silent start
  | .quietAfter after => if after ≤ 4 then .waits (start + BitVec.ofNat 32 after) else .silent (start + 4)

/-- R12, R14: the interface has a segment. -/
def holdSegment (g : OwnSegment) (s : State) : State := { s with trunk := { s.trunk with segment := some g } }

/-- R12, R13: the instant of the segment's first bit, if the interface sends it. -/
def OwnSegment.firstBit (g : OwnSegment) : Option Word :=
  match g.way with
  | .waits since | .sends since => some since
  | .silent _ => none

/-- R12, R13: the interface contends with a segment, which begins when the line clock reaches its first bit. -/
def contend (g : OwnSegment) (s : State) : State :=
  match g.firstBit with
  | some since => noteOwnSlot g.start since (holdSegment g s)
  | none => holdSegment g s

/-- R12: the transmit message unit is asked; its segment, if it gives one, is on the line until its outcome (R109). -/
def openWindow (start floor : Nat) (way : Contention) (s : State) : State :=
  match candidate s.tx.queue s.maySendSegment floor s.cycle.address with
  | some (f, o) => contend { bytes := f.bytes, start := start, way := way } (offerFirst o s)
  | none => s

/-- OPEN_SLOT_WINDOW_OPENS (R12): 4 byte times before the start of a walked OPEN slot. DESIGN CHOICE (log entry 7): what the
line shows about the slot is an operand. -/
def execOpenSlotWindowOpens (slot : OpenSlotWindow) (s : State) : Result :=
  match s.current with
  | none => noEvent s
  | some c =>
    match walkedEntry s c slot.start with
    | some { slot := .openSlot floor, .. } =>
      if s.sendingSegment then noEvent s
      else
        finish ((openWindow slot.start floor (wayToContend slot.line (c.at slot.start)) s).atInstant
          (c.at slot.start - 4))
    | some { slot := .cyclic _ _ _ _, .. } | none => noEvent s

/-- R14: an outcome of the segment frame is handed, and the interface is done with the frame. -/
def segmentOutcome (result : SegmentOutcome) (s : State) : State := endSegment (handOutcome result s)

/-- R14: the instant at which the segment ends, if it is sent whole. -/
def OwnSegment.ends (g : OwnSegment) : Option Word :=
  g.firstBit.map (fun since => since + BitVec.ofNat 32 g.bytes.length)

/-- R13, R14: an outcome that comes on the line finds the segment begun (log entry 7). -/
def State.segmentBegun (s : State) : State :=
  match s.trunk.segment.map OwnSegment.way with
  | some (.waits since) => s.atInstant since
  | some (.sends _) | some (.silent _) | none => s

/-- SEGMENT_WON (R112, R117): at the end of the last CRC byte (R14). -/
def execSegmentWon (s : State) : Result :=
  match s.trunk.segment.bind OwnSegment.ends with
  | some ends => finish (segmentOutcome .won (s.atInstant ends))
  | none => noEvent s

/-- R13, R15: a node that takes LOST becomes a listener in the slot: the slot has had no frame of its own. -/
def yieldSlot (g : OwnSegment) (s : State) : State :=
  match g.way with
  | .waits since | .sends since =>
    { s with trunk := { s.trunk with
        ownSlots := s.trunk.ownSlots.filter (· != { start := g.start, since := since }) } }
  | .silent lostAt => s.atInstant lostAt

/-- SEGMENT_LOST (R113): in arbitration (R13), or because the interface does not send (R12). -/
def execSegmentLost (s : State) : Result :=
  match s.trunk.segment with
  | some g => finish (segmentOutcome .lost (yieldSlot g s.segmentBegun))
  | none => noEvent s

/-- R113: the outcome DISTURBED of the segment frame, which counts in DISTURBED (R4, R13). -/
def segmentDisturbs (s : State) : Result :=
  if s.trunk.segment.any (fun g => g.firstBit.isSome) then
    finish (segmentOutcome .disturbed (countDisturbed s.segmentBegun))
  else noEvent s

/-- SEGMENT_DISTURBED (R113). -/
def execSegmentDisturbed (s : State) : Result := segmentDisturbs s

/-- R113: the next DISTURBED outcome is the sixteenth of the data segment on the line. -/
def faultAhead (s : State) : Bool :=
  match s.tx.queue with
  | [] => false
  | m :: _ =>
    match m.state with
    | .inFlight r => s.tx.onLine.any (fun o => !o.abort) && Config.disturbLimit ≤ r.disturbed + 1
    | .waiting | .aborting _ _ _ => false

/-- MESSAGE_TRUNK_FAULT (R113): the outcome DISTURBED at which the disturbed count reaches 16 (log entry 4). -/
def execMessageTrunkFault (s : State) : Result := if faultAhead s then segmentDisturbs s else noEvent s

/-! ### The node's own cycle start and cyclic frames -/

/-- OWN_FRAME_MISMATCH (R4): the frame is abandoned and counts in DISTURBED; no outcome is handed. -/
def execOwnFrameMismatch (s : State) : Result :=
  match s.trunk.sending with
  | some _ => finish (endFrame (countDisturbed s))
  | none => noEvent s

/-- R4: the instant at which a frame that is sent whole ends. -/
def OwnFrame.ends (f : OwnFrame) : Word := f.since + BitVec.ofNat 32 f.bytes.length

/-- OWN_FRAME_SENT (R4, R16): the frame ends with its last CRC byte. -/
def execOwnFrameSent (s : State) : Result :=
  match s.trunk.sending with
  | some f => finish (endFrame (s.atInstant f.ends))
  | none => noEvent s

end Sys2Proof.Machine
end

