-- ==== Sys2Proof/Machine/Dispatch.lean ====
section
/-! DEFINITION. One arm for each command, in the order of spec/opcode_table.json. -/

namespace Sys2Proof.Machine

/-- The effect of a command on everything but the queue of waiting commands. -/
def exec (i : Instr) (s : State) : Host.Outcome State Fault Refusal :=
  match i with
  | .identify => Sys2Proof.Machine.execIdentify s
  | .setNode => Sys2Proof.Machine.execSetNode s
  | .setCycle => Sys2Proof.Machine.execSetCycle s
  | .goOnline => Sys2Proof.Machine.execGoOnline s
  | .goOffline => Sys2Proof.Machine.execGoOffline s
  | .resetNode => Sys2Proof.Machine.execResetNode s
  | .readSync => Sys2Proof.Machine.execReadSync s
  | .stageBegin => Sys2Proof.Machine.execStageBegin s
  | .stageAdd => Sys2Proof.Machine.execStageAdd s
  | .stageRemove => Sys2Proof.Machine.execStageRemove s
  | .stageClose => Sys2Proof.Machine.execStageClose s
  | .stageDiscard => Sys2Proof.Machine.execStageDiscard s
  | .readSchedule => Sys2Proof.Machine.execReadSchedule s
  | .commit => Sys2Proof.Machine.execCommit s
  | .cancel => Sys2Proof.Machine.execCancel s
  | .bindChannel => Sys2Proof.Machine.execBindChannel s
  | .unbindChannel => Sys2Proof.Machine.execUnbindChannel s
  | .writeChannel => Sys2Proof.Machine.execWriteChannel s
  | .readChannel => Sys2Proof.Machine.execReadChannel s
  | .readChannels => Sys2Proof.Machine.execReadChannels s
  | .sendMessage => Sys2Proof.Machine.execSendMessage s
  | .messagePiece => Sys2Proof.Machine.execMessagePiece s
  | .abortMessage => Sys2Proof.Machine.execAbortMessage s
  | .readOutbound => Sys2Proof.Machine.execReadOutbound s
  | .setGroups => Sys2Proof.Machine.execSetGroups s
  | .readMessage => Sys2Proof.Machine.execReadMessage s
  | .releaseMessage => Sys2Proof.Machine.execReleaseMessage s
  | .readInbound => Sys2Proof.Machine.execReadInbound s
  | .noticeMask => Sys2Proof.Machine.execNoticeMask s
  | .ackNotices => Sys2Proof.Machine.execAckNotices s
  | .readCounts => Sys2Proof.Machine.execReadCounts s
  | .badRequest => Sys2Proof.Machine.execBadRequest s
  | .hostFrameReceived bytes => Sys2Proof.Machine.execHostFrameReceived bytes s
  | .lineBreak => Sys2Proof.Machine.execBreak s
  | .framingFault => Sys2Proof.Machine.execFramingFault s
  | .gap => Sys2Proof.Machine.execGap s
  | .selNegated => Sys2Proof.Machine.execSelNegated s
  | .outboundSelect => Sys2Proof.Machine.execOutboundSelect s
  | .replySent => Sys2Proof.Machine.execReplySent s
  | .powerOnReset mode rate1 rate0 => Sys2Proof.Machine.execPowerOnReset mode rate1 rate0 s
  | .claimWindowExpires => Sys2Proof.Machine.execClaimWindowExpires s
  | .cycleStart => Sys2Proof.Machine.execCycleStart s
  | .conflictEpisodeEnd => Sys2Proof.Machine.execConflictEpisodeEnd s
  | .messageStarved => Sys2Proof.Machine.execMessageStarved s
  | .messageContention => Sys2Proof.Machine.execMessageContention s
  | .abortAttemptsExhausted => Sys2Proof.Machine.execAbortAttemptsExhausted s
  | .contextTimeout => Sys2Proof.Machine.execContextTimeout s
  | .completionRecordLapse => Sys2Proof.Machine.execCompletionRecordLapse s
  | .trunkFrameReceived stamp bytes => Sys2Proof.Machine.execTrunkFrameReceived stamp bytes s
  | .cycleStartWindowCloses => Sys2Proof.Machine.execCycleStartWindowCloses s
  | .syncLost => Sys2Proof.Machine.execSyncLost s
  | .takeover => Sys2Proof.Machine.execTakeover s
  | .syncLocked stamp bytes => Sys2Proof.Machine.execSyncLocked stamp bytes s
  | .cyclicSlotStart start => Sys2Proof.Machine.execCyclicSlotStart start s
  | .cyclicSlotEnd start => Sys2Proof.Machine.execCyclicSlotEnd start s
  | .channelLost start => Sys2Proof.Machine.execChannelLost start s
  | .openSlotWindowOpens slot => Sys2Proof.Machine.execOpenSlotWindowOpens slot s
  | .segmentWon => Sys2Proof.Machine.execSegmentWon s
  | .segmentLost => Sys2Proof.Machine.execSegmentLost s
  | .segmentDisturbed => Sys2Proof.Machine.execSegmentDisturbed s
  | .messageTrunkFault => Sys2Proof.Machine.execMessageTrunkFault s
  | .ownFrameMismatch => Sys2Proof.Machine.execOwnFrameMismatch s
  | .ownFrameSent => Sys2Proof.Machine.execOwnFrameSent s
  | .noticeFrameSent => Sys2Proof.Machine.execNoticeFrameSent s
  | .breakEnd => Sys2Proof.Machine.execBreakEnd s

end Sys2Proof.Machine
end

