-- ==== Sys2Proof/Machine/Arbitration.lean ====
section
/-! DEFINITION. The line bit by bit: which outcome a contender takes from the levels it reads back (R4, R13, R14).
`exec` is told the outcome by the commands SEGMENT_WON, SEGMENT_LOST and SEGMENT_DISTURBED, since the levels on the line
depend on the other nodes; these functions say which of the three the levels give (log entry 10). True is a 1 bit, the
recessive level. -/

namespace Sys2Proof.Machine

/-- R1: the bits of a frame, most significant first. -/
def bitsOf (bytes : List Byte) : List Bool :=
  bytes.flatMap (fun b => [7, 6, 5, 4, 3, 2, 1, 0].map (fun i => b.getLsbD i))

/-- Section 1.1: the level of one bit on the line when two nodes send; the dominant level, a 0, prevails. -/
def lineOf (a b : List Bool) : List Bool := List.zipWith (· && ·) a b

/-- R13: the levels on the line when two contenders send in step and the one that leaves a 1 and reads a 0 falls silent at
once, so that what follows is the other's. -/
def contest : List Bool → List Bool → List Bool
  | [], line => line
  | line, [] => line
  | a :: as, b :: bs => if a = b then a :: contest as bs else false :: (if a then bs else as)

/-- R4, R14: past the arbitration field any difference is a mismatch. -/
def drivenOutcome : List Bool → List Bool → SegmentOutcome
  | [], _ => .won
  | _ :: _, [] => .disturbed
  | sent :: more, read :: line => if sent = read then drivenOutcome more line else .disturbed

/-- R13: in the arbitration field, of which `field` bits are left, a 1 read as 0 is LOST and a 0 read as 1 is
DISTURBED. -/
def contendOutcome : Nat → List Bool → List Bool → SegmentOutcome
  | 0, sent, line => drivenOutcome sent line
  | _ + 1, [], _ => .won
  | _ + 1, _ :: _, [] => .disturbed
  | field + 1, sent :: more, read :: line =>
    if sent = read then contendOutcome field more line else if sent then .lost else .disturbed

/-- R4: the bits of the arbitration field: the lead, the kind and the arbitration key. -/
def arbitrationBits : Nat := 40

/-- R13, R14: the outcome that a contender with this frame takes from the levels it reads back. -/
def outcomeOf (frame : List Byte) (line : List Bool) : SegmentOutcome :=
  contendOutcome arbitrationBits (bitsOf frame) line

end Sys2Proof.Machine
end

