-- ==== Sys2Proof/Safety.lean ====
section
/-! DEFINITION. What counts as a sound state: the laws that the rules say hold at all times, unit by unit, and the
terms that the statements use. -/

namespace Sys2Proof.Machine

/-! ### Terms -/

/-- R162: the request interpreter's oldest ACCEPTED entry holds this command code and this body. -/
def State.takes (s : State) (code : Byte) (body : List Byte) : Prop :=
  (oldestAccepted s.link.buffer).map (fun q => (q.code, q.body)) = some (code, body)

/-- R162: the step that answers the request being taken with this reply and leaves this state otherwise. -/
def replied (r : Reply) (s : State) : Result := .next (s.answer r).setAttn

/-- R23: the commands that are a cycle start of a synchronised node: CYCLE_START and the rows named after what comes
about inside one. -/
def cycleStartCommands : List Instr :=
  [.cycleStart, .conflictEpisodeEnd, .messageStarved, .messageContention, .abortAttemptsExhausted, .contextTimeout,
   .completionRecordLapse]

/-- The requests that only read: IDENTIFY, READ_SYNC, READ_SCHEDULE, READ_CHANNEL, READ_CHANNELS, READ_OUTBOUND,
READ_MESSAGE, READ_INBOUND; and BAD_REQUEST. -/
def readingCommands : List Instr :=
  [.identify, .readSync, .readSchedule, .readChannel, .readChannels, .readOutbound, .readMessage, .readInbound,
   .badRequest]

/-- The commands of the host link that are neither requests nor POWER_ON_RESET. -/
def onHostLink : Instr → Bool
  | .hostFrameReceived _ | .lineBreak | .breakEnd | .framingFault | .gap | .selNegated | .outboundSelect | .replySent
  | .noticeFrameSent => true
  | _ => false

/-- The commands of the trunk and of time: all but the requests, BAD_REQUEST, those of the host link and
POWER_ON_RESET. -/
def onTrunk : Instr → Bool
  | .powerOnReset _ _ _ | .badRequest => false
  | c => !onHostLink c && (requestCode c).isNone

/-! ### The cycle unit -/

/-- R23, R25, R28, R29, R32, R35: what each timing state holds, and the ranges of the values. -/
def CycleUnit.sound (c : CycleUnit) : Prop :=
  c.now.isSome = c.timing.synchronised ∧
  c.claim.isSome = (c.timing == .claiming) ∧
  (c.run.isSome → c.timing = .hunting) ∧
  (∀ r ∈ c.run.toList, r.count = 1 ∨ r.count = 2) ∧
  (c.conflict.isSome → c.timing = .leading) ∧
  (∀ n ∈ c.conflict.toList, n < Config.quietLimit) ∧
  (c.listenOnly → c.timing.following) ∧
  c.missCount ≤ Config.missLimit ∧
  (c.timing = .holdover → 1 ≤ c.missCount ∧ c.missCount < Config.missLimit) ∧
  (c.timing = .offline ∨ c.timing = .claiming ∨ c.timing = .leading ∨ c.timing = .locked → c.missCount = 0) ∧
  -2 ≤ c.phaseError ∧ c.phaseError ≤ 2 ∧
  c.address ≤ 62 ∧
  (c.timing ≠ .offline → c.address ≠ 0) ∧
  (c.timing = .claiming ∨ c.timing = .leading → c.role = .master)

/-! ### The schedule unit -/

/-- R48: the fields of an entry are in range for its kind. -/
def Entry.ranged (e : Entry) : Prop :=
  match e.slot with
  | .cyclic n owner label payload =>
    1 ≤ owner ∧ owner ≤ 62 ∧ label ≠ 0 ∧ 1 ≤ payload ∧ payload ≤ 64 ∧ payload + 12 ≤ n
  | .openSlot floor => floor ≤ 3

/-- R42, R47 to R49: a list of entries as STAGE_ADD builds it: at most 64, in ascending order of start, each in range
and placed within a cycle of this length. -/
def entriesSound (length : Nat) (entries : List Entry) : Prop :=
  entries.length ≤ Config.bankSize ∧ entries.Pairwise (fun a b => a.start < b.start) ∧
  ∀ e ∈ entries, e.ranged ∧ e.placed length = true

/-- R47, R49: these new entries may all join a bank of this cycle length that holds these entries. -/
def entriesAdmitted (length : Nat) (bank added : List Entry) : Prop :=
  (∀ e ∈ added, 24 ≤ e.start ∧ e.finish + 8 ≤ length) ∧ (added.map (·.start)).Nodup ∧
  ∀ e ∈ added, ∀ f ∈ bank, f.start ≠ e.start

/-- R51: no two entries overlap, and no two CYCLIC entries share a label. -/
def entriesClosed (entries : List Entry) : Prop :=
  entries.Pairwise (fun a b => a.finish ≤ b.start) ∧ (entries.filterMap Entry.label?).Nodup

/-- R44, R51, R52: what the staged bank holds in each state, beside an active bank of this epoch. -/
def Staged.sound (active : Half) : Staged → Prop
  | .empty => True
  | .editing length entries => usableLength length = true ∧ entriesSound length entries
  | .closed epoch length entries | .armed epoch length entries _ =>
    usableLength length = true ∧ entriesSound length entries ∧ entriesClosed entries ∧ epoch ≠ 0 ∧ epoch ≠ active

/-- R43, R51: the ACTIVE bank is the empty schedule, or a closed bank with an epoch other than 0. -/
def ActiveBank.sound (b : ActiveBank) : Prop :=
  match b.cycleLength with
  | none => b.epoch = 0 ∧ b.entries = []
  | some length =>
    b.epoch ≠ 0 ∧ usableLength length = true ∧ entriesSound length b.entries ∧ entriesClosed b.entries

/-- R44, R54, R60: the two banks and the records of the schedule unit. -/
def ScheduleUnit.sound (u : ScheduleUnit) : Prop :=
  u.active.sound ∧ u.staged.sound u.active.epoch ∧
  (u.adoption → u.staged.state = .closed) ∧
  u.lastSwitch.map (·.epoch) = (if u.active.epoch = 0 then none else some u.active.epoch)

/-! ### The channel unit -/

/-- R79, R90, R91: the fields of a CONSUME channel against its resolution. -/
def Consume.sound (d : Consume) (r : Resolution) : Prop :=
  (d.state = .unscheduled ↔ r ≠ .resolved) ∧ 1 ≤ d.missLimit ∧ d.missLimit ≤ 255 ∧
  match d.state with
  | .unscheduled | .waiting => d.missCount = 0
  | .fresh | .staleSource => d.missCount = 0 ∧ d.received.isSome
  | .missed => 1 ≤ d.missCount ∧ d.missCount < d.missLimit
  | .lost => d.missCount = d.missLimit

/-- R79: a bound channel record. A value has the channel's length. A PRODUCE channel has an age exactly while it has a
value, a CONSUME channel that has received has a value. -/
def Channel.sound (c : Channel) : Prop :=
  c.label ≠ 0 ∧ 1 ≤ c.length ∧ c.length ≤ 64 ∧ (∀ v ∈ c.value.toList, v.length = c.length) ∧
  match c.direction with
  | .produce age => age.isSome = c.value.isSome ∧ ∀ a ∈ age.toList, a ≤ Config.ageMax
  | .consume d => d.sound c.resolution ∧ d.received.isSome = c.value.isSome

/-- R79: the table of 32 records; no two bound channels hold the same label. -/
def channelsSound (channels : List (Option Channel)) : Prop :=
  channels.length = Config.channelCount ∧ (channels.filterMap (fun o => o.map (·.label))).Nodup ∧
  ∀ o ∈ channels, ∀ c ∈ o.toList, c.sound

/-! ### The transmit message unit -/

/-- R98, R103, R113 to R117: the counts of a message that has been offered, with the segments WON so far. -/
def InFlight.sound (r : InFlight) (m : Message) : Prop :=
  r.next < segmentCount m.total ∧ m.sent = Config.segmentSize * r.next ∧ r.sinceWon ≤ Config.contentionLimit ∧
  r.starve ≤ Config.starveLimit ∧ r.disturbed < Config.disturbLimit

/-- R98, R116: an outbound message in its state. -/
def Message.sound (m : Message) : Prop :=
  1 ≤ m.total ∧ m.total ≤ Config.maxMessage ∧ m.cls ≤ 3 ∧ m.data.length ≤ m.total ∧ m.sent ≤ m.data.length ∧
  match m.state with
  | .waiting => m.sent = 0
  | .inFlight r => r.sound m ∧ r.sinceWon < Config.contentionLimit ∧ r.starve < Config.starveLimit
  | .aborting r reason attempts =>
    r.sound m ∧ 1 ≤ r.next ∧ m.data.length = m.sent ∧ attempts < Config.attemptLimit ∧
      (reason = .host ∨ reason = .starved ∨ reason = .contention)

/-- R99: only the first message is IN_FLIGHT or ABORTING, and the WAITING ones stand in descending order of class. -/
def queueOrdered (q : List Message) : Prop :=
  q.Pairwise (fun a b => b.waiting = true ∧ (a.waiting = true → b.cls ≤ a.cls))

/-- R109: a data segment on the line has all its bytes supplied. -/
def Message.backs (m : Message) (o : OnLine) : Prop :=
  match m.state with
  | .inFlight r => o.abort = false → m.suppliedSegment r.next = true
  | .waiting | .aborting _ _ _ => True

/-- R98 to R101, R109: the outbound queue and the transmit store; free and held blocks total 24. -/
def TransmitUnit.sound (u : TransmitUnit) : Prop :=
  u.queue.length ≤ Config.queueSize ∧ (u.queue.map (·.id)).Nodup ∧ queueOrdered u.queue ∧
  (∀ m ∈ u.queue, m.sound) ∧ (∀ m ∈ u.queue.head?.toList, ∀ o ∈ u.onLine.toList, m.backs o) ∧
  u.free + (u.queue.map Message.blocks).sum = Config.txBlocks

/-! ### The receive message unit -/

/-- R125: an open reassembly context, between hand-overs. -/
def Context.sound (c : Context) : Prop :=
  1 ≤ c.source ∧ c.source ≤ 62 ∧ c.cls ≤ 3 ∧ 1 ≤ c.total ∧ c.total ≤ Config.maxMessage ∧ 1 ≤ c.next ∧
  1 ≤ c.data.length ∧ c.data.length ≤ c.total ∧ c.idle < Config.idleLimit

/-- R137: an entry of the receive queue. -/
def Arrival.sound (a : Arrival) : Prop :=
  a.handle ≠ 0 ∧ 1 ≤ a.source ∧ a.source ≤ 62 ∧ a.cls ≤ 3 ∧ 1 ≤ a.data.length ∧ a.data.length ≤ Config.maxMessage

/-- R122: the group table. -/
def groupsSound (groups : List Byte) : Prop :=
  groups.length ≤ 8 ∧ groups.Nodup ∧ ∀ g ∈ groups, 64 ≤ g ∧ g ≤ 127

/-- R133: the completion records; a source that holds one holds no open context. -/
def recordsSound (records : List Completion) (places : List (Option Context)) : Prop :=
  records.length ≤ Config.recordCount ∧ (records.map (·.source)).Nodup ∧
  ∀ r ∈ records, r.count < Config.recordLimit ∧ ∀ c ∈ places.filterMap id, c.source ≠ r.source

/-- R126: the blocks that the contexts and the receive queue hold. -/
def ReceiveUnit.held (u : ReceiveUnit) : Nat :=
  ((u.places.filterMap id).map Context.blocks).sum + (u.queue.map Arrival.blocks).sum

/-- R122, R125, R126, R133, R137: the receive message unit; free and held blocks total 64. -/
def ReceiveUnit.sound (u : ReceiveUnit) : Prop :=
  groupsSound u.groups ∧ u.places.length = Config.placeCount ∧
  ((u.places.filterMap id).map (·.source)).Nodup ∧ (∀ c ∈ u.places.filterMap id, c.sound) ∧
  u.queue.length ≤ Config.queueSize ∧ (u.queue.map (·.handle)).Nodup ∧ (∀ a ∈ u.queue, a.sound) ∧
  u.handleCounter ≠ 0 ∧ recordsSound u.records u.places ∧ u.free + u.held = Config.rxBlocks

/-! ### The notice unit -/

/-- R147: the sequence numbers that a queue of this length must hold, the newest one before the next. -/
def expectedSeqs (next : Half) (length : Nat) : List Half :=
  (List.range length).map (fun i => next - BitVec.ofNat 16 (length - i))

/-- R147 to R149, R151: the notice queue with its numbers, the delivered run, the lost count and the enables. -/
def NoticeUnit.sound (n : NoticeUnit) : Prop :=
  n.queue.length ≤ Config.noticeSize ∧ n.delivered ≤ n.queue.length ∧ n.lost ≤ Config.lostMax ∧
  n.queue.map (·.seq) = expectedSeqs n.nextSeq n.queue.length ∧ ∀ k ∈ n.disabled, k ∈ maskableKinds

/-! ### The host link -/

/-- R160: the bytes of an inbound frame in progress begin with the sync byte, and its length field, once read, lies in
1 to 259 and is not yet reached. -/
def inboundSound (rx : List Byte) : Prop :=
  rx = [] ∨ (byteAt rx 0 = 0xA5 ∧
    (rx.length < 3 ∨
      (1 ≤ (halfAt rx 1).toNat ∧ (halfAt rx 1).toNat ≤ Config.maxHostLength ∧ rx.length < hostLength rx)))

/-- R161, R163: the request buffer: at most 4 entries, tags distinct and not 0, the TAKEN ones before the ACCEPTED. -/
def bufferSound (buffer : List Request) : Prop :=
  buffer.length ≤ Config.bufferSize ∧ (buffer.map (·.tag)).Nodup ∧ (∀ q ∈ buffer, q.tag ≠ 0) ∧
  buffer.Pairwise (fun a b => b.reply.isSome → a.reply.isSome)

/-- R163: the reply that a frame carries is that of a TAKEN entry of the buffer. -/
def frameAnswers (f : Option OutFrame) (buffer : List Request) : Prop :=
  ∀ tag ∈ (f.bind OutFrame.replyTag).toList, ∃ q ∈ buffer, q.tag = tag ∧ q.reply.isSome

/-- R157 to R164: the receiver, the buffer and the outbound side. A frame is held, and SEL asserted, only in SPI mode;
a break is in progress only in UART mode. -/
def HostLink.sound (l : HostLink) : Prop :=
  inboundSound l.rx ∧ bufferSound l.buffer ∧ frameAnswers l.outbound l.buffer ∧ frameAnswers l.held l.buffer ∧
  (l.outbound.isSome → l.held = none) ∧ (l.held.isSome → l.spi) ∧ (l.sel → l.spi) ∧ (l.breakLow → ¬ l.spi) ∧
  (l.breakLow → l.rx = [])

/-! ### The trunk interface -/

/-- R17, R140: the seven counters stay within 16 bits. -/
def countersSound (s : State) : Prop :=
  s.trunk.crcErrors ≤ Config.counterMax ∧ s.trunk.malformed ≤ Config.counterMax ∧
  s.trunk.wrongSlot ≤ Config.counterMax ∧ s.trunk.stray ≤ Config.counterMax ∧
  s.trunk.disturbed ≤ Config.counterMax ∧ s.rx.orphan ≤ Config.counterMax ∧ s.rx.duplicate ≤ Config.counterMax

/-- R4, R16: TXEN is asserted exactly while the interface has a frame of its own in progress, and a change waits for the
end of a frame only while there is one. -/
def TrunkInterface.sound (t : TrunkInterface) : Prop :=
  t.txen = t.busy ∧ (t.deferred.isSome → t.busy = true)

/-- R5, R37: the interface walks no slots: no window is open, no slot has a frame, and no segment waits to be begun. -/
def TrunkInterface.walksNothing (t : TrunkInterface) : Prop :=
  t.window = .settled ∧ t.slots = [] ∧ t.ownSlots = [] ∧ t.late = [] ∧ t.earlyWalk = [] ∧
  ∀ g ∈ t.segment.toList, g.sent = true

/-- R4, R5, R16, R37: the trunk interface beside the timing state. -/
def State.trunkSound (s : State) : Prop :=
  s.trunk.sound ∧ (s.cycle.timing.synchronised = false → s.trunk.walksNothing)

/-! ### The whole part -/

/-- R166: ATTN stands as its test says. -/
def attnRight (s : State) : Prop := s.link.attn = s.attnLevel

/-- Every cycle length that the part holds is usable (R23, R24, R42, R46). -/
def lengthsUsable (s : State) : Prop :=
  usableLength s.cycle.bareLength = true ∧ (∀ c ∈ s.cycle.now.toList, usableLength c.length = true) ∧
  (∀ n ∈ s.sched.active.cycleLength.toList, usableLength n = true) ∧
  match s.sched.staged with
  | .empty => True
  | .editing n _ | .closed _ n _ | .armed _ n _ _ => usableLength n = true

/-- A sound state of the whole part. -/
def State.sound (s : State) : Prop :=
  s.cycle.sound ∧ s.sched.sound ∧ channelsSound s.channels ∧ s.tx.sound ∧ s.rx.sound ∧ s.notices.sound ∧
  s.link.sound ∧ s.trunkSound ∧ countersSound s ∧ lengthsUsable s ∧ attnRight s

end Sys2Proof.Machine
end

