-- ==== Sys2Proof/Certificates/Slice0/Obligations.lean ====
section
/-! DEFINITION. The statements for the provers. `replied r u` is the step that answers the request being taken with the
reply r and leaves the part as in u (R162); `s.takes code body` says that a request with this command code and body is
the oldest ACCEPTED one. -/

open Sys2Proof Sys2Proof.Machine

/-! ### The machine -/

/-- A step runs the command at the front of the queue on the state with the rest of the queue; on an empty queue one byte
time passes on the line clock (R1), which is the model's choice (log entry 2). `reach` moves the line clock: a segment that
waits for its first bit is on the line, with TXEN asserted, once the line clock has come to that instant (R4, R12; log entry
7), and nothing else changes. -/
def Obligations.StepRunsFrontCommand : Prop :=
  (∀ (c : Instr) (rest : List Instr) (s : State), s.pending = c :: rest → step s = exec c { s with pending := rest }) ∧
  (∀ s : State, s.pending = [] → step s = .next { s with trunk := s.trunk.reach (s.trunk.lineClock + 1) }) ∧
  ∀ (i : TrunkInterface) (t : Word),
    (∀ g since, i.segment = some g → g.way = .waits since → 0 ≤ (t - since).toInt →
      i.reach t = { i with lineClock := t, segment := some { g with way := .sends since }, txen := true }) ∧
    ((∀ g since, i.segment = some g → g.way = .waits since → (t - since).toInt < 0) →
      i.reach t = { i with lineClock := t })

/-- No command faults or is refused, and none touches the queue of waiting commands. That there is such a queue (log entry
2), and that a command which cannot occur in a state answers that state (log entry 3), are the model's choices. -/
def Obligations.CommandsCompleteAndKeepPending : Prop :=
  ∀ (c : Instr) (s : State), ∃ t, exec c s = .next t ∧ t.pending = s.pending

/-- R17, R19, R23, R59, R97, R121, R145, R155, R170: what the part holds after reset. The levels of the straps are the
model's choice (log entry 1) and are not stated; `hearsFrom` and `takeUp` are the model's own fields (log entries 17 and
18). -/
def Obligations.ResetHoldsTheStatedValues : Prop :=
  let s := State.reset
  s.trunk = { lineClock := 0, crcErrors := 0, malformed := 0, wrongSlot := 0, stray := 0, disturbed := 0, txen := false,
              sending := none, segment := none, deferred := none, hearsFrom := some 0, window := .settled, slots := [],
              ownSlots := [], late := [], earlyWalk := [] } ∧
  s.cycle = { address := 0, role := .member, timing := .offline, now := none, bareLength := 2500, missCount := 0,
              phaseError := 0, lastMaster := 0, listenOnly := false, claim := none, run := none, conflict := none } ∧
  s.sched = { active := { epoch := 0, cycleLength := none, entries := [] }, staged := .empty, unready := none,
              adoption := false, lastSwitch := none, takeUp := .done } ∧
  s.channels = List.replicate 32 none ∧
  s.tx = { queue := [], free := 24, idCounter := 0, roomWatch := false, onLine := none } ∧
  s.rx = { groups := [], places := List.replicate 4 none, free := 64, queue := [], handleCounter := 1, records := [],
           orphan := 0, duplicate := 0 } ∧
  s.notices = { queue := [{ seq := 0, cycle := none, body := .nodeRestarted .powerOn }], delivered := 0, nextSeq := 1,
                lost := 0, disabled := [] } ∧
  s.link.rx = [] ∧ s.link.buffer = [] ∧ s.link.outbound = none ∧ s.link.held = none ∧ s.link.attn = true ∧
  s.pending = []

/-- R41, R157: POWER_ON_RESET, whatever the levels of the straps, leaves the part as right after power-on, and that state
is sound. That SEL is negated then is the model's choice (log entry 1). -/
def Obligations.PowerOnResetIsSound : Prop :=
  ∀ (mode rate1 rate0 : Bool) (s : State),
    exec (.powerOnReset mode rate1 rate0) s =
      .next { State.reset with link := { State.reset.link with straps := { mode := mode, rate1 := rate1, rate0 := rate0 } },
                               pending := s.pending } ∧
    (State.powerOn { mode := mode, rate1 := rate1, rate0 := rate0 }).sound

/-! ### Invariants that every step keeps -/

/-- R19, R23, R25, R28, R29, R32, R35: the cycle unit stays sound. -/
def Obligations.CycleUnitStaysSound : Prop :=
  ∀ s t : State, s.cycle.sound → step s = .next t → t.cycle.sound

/-- R42 to R44, R48, R49, R51, R52, R60: the two banks stay sound. -/
def Obligations.BanksStaySound : Prop :=
  ∀ s t : State, s.sched.sound → step s = .next t → t.sched.sound

/-- R79: the channel table stays sound; a value, produced or received, has its channel's length. That a frame of another
length is not accepted in a slot of the cycle before is the model's choice (log entry 12). -/
def Obligations.ChannelsStaySound : Prop :=
  ∀ s t : State, channelsSound s.channels → step s = .next t → channelsSound t.channels

/-- R98 to R101, R111: the outbound queue stays sound, and free and held blocks total 24. -/
def Obligations.TransmitUnitStaysSound : Prop :=
  ∀ s t : State, s.tx.sound → step s = .next t → t.tx.sound

/-- R122, R125, R126, R133, R137: the receive message unit stays sound, and free and held blocks total 64. -/
def Obligations.ReceiveUnitStaysSound : Prop :=
  ∀ s t : State, s.rx.sound → step s = .next t → t.rx.sound

/-- R147, R148, R151: at most 32 notices with consecutive sequence numbers, the delivered run within them. -/
def Obligations.NoticeQueueStaysSound : Prop :=
  ∀ s t : State, s.notices.sound → step s = .next t → t.notices.sound

/-- R158 to R164: the receiver, the request buffer and the outbound side stay sound. -/
def Obligations.HostLinkStaysSound : Prop :=
  ∀ s t : State, s.link.sound → step s = .next t → t.link.sound

/-- R4, R5, R12, R16, R37: TXEN is asserted exactly while a frame of the node's own is in progress, a segment from its first
bit to its outcome. Outside the synchronised states no window is open, no slot has a frame, and no segment waits to be begun
(that a departure drops one is the model's reading, log entry 7). -/
def Obligations.TxenFollowsOwnFrames : Prop :=
  ∀ s t : State, s.trunkSound → step s = .next t → t.trunkSound

/-- R17, R23, R24, R42, R46, R140: the seven counters stay within 16 bits, and every cycle length held is usable. -/
def Obligations.CountersAndLengthsStayInRange : Prop :=
  ∀ s t : State, countersSound s → lengthsUsable s → step s = .next t → countersSound t ∧ lengthsUsable t

/-- R166: ATTN is asserted exactly while a frame waits or is held. -/
def Obligations.AttnStaysRight : Prop :=
  ∀ s t : State, attnRight s → step s = .next t → attnRight t

/-! ### Rules of the whole part -/

/-- R150: what a command does is the same whatever the notice unit holds, so whether a notice is queued, lost or masked.
Not ACK_NOTICES, which is about the queue, nor OUTBOUND_SELECT, which sends from it. -/
def Obligations.NoticesNeverSteer : Prop :=
  ∀ (c : Instr) (s : State) (n : NoticeUnit), c ≠ .ackNotices → c ≠ .outboundSelect →
    ∃ t u, exec c s = .next t ∧ exec c { s with notices := n } = .next u ∧
      t = { u with notices := t.notices, link := { u.link with attn := t.link.attn } }

/-- R162, R102: every request is answered at once; a refused one leaves the part as it was, but for the room watch that a
NO_ROOM refusal sets. -/
def Obligations.RefusalsChangeNothing : Prop :=
  ∀ (c : Instr) (code : Byte) (s : State) (q : Request), requestCode c = some code →
    oldestAccepted s.link.buffer = some q → q.code = code →
    ∃ r u, exec c s = replied r u ∧ u.link = s.link ∧ u.pending = s.pending ∧
      (r.status ≠ .ok → u = s ∨ (r.status = .noRoom ∧ u = { s with tx := { s.tx with roomWatch := true } }))

/-- R23: while the node stays synchronised the cycle number advances by exactly one at each cycle start, and at nothing
else. -/
def Obligations.CycleNumberAdvancesByOne : Prop :=
  ∀ (c : Instr) (s t : State) (a b : CycleNow), exec c s = .next t → s.current = some a → t.current = some b →
    (c ∉ cycleStartCommands → b.number = a.number) ∧ (c = .cycleStart → b.number = a.number + 1) ∧
    (b.number = a.number ∨ b.number = a.number + 1)

/-- R36, R10, R12, R75: the node begins a frame only with permission: a cycle start frame of its own only at a cycle start or
the expiry of its claim window, in LEADING; a cyclic frame only in a walked slot of its own; a segment is taken up only at the
opening of the window of a walked OPEN slot, in LEADING or LOCKED; and neither while a following node is listen-only or, after
a late adoption, has yet to take up sending (the model's reading of R75, log entry 17). A segment that is held stays the one
that was given, from its first bit on as one being sent (R12). -/
def Obligations.OwnFramesNeedPermission : Prop :=
  ∀ (c : Instr) (s t : State), exec c s = .next t →
    let free := s.cycle.listenOnly = false ∧ s.sched.takeUp ≠ .awaitsCycle
    (∀ own, t.trunk.sending ≠ s.trunk.sending → t.trunk.sending = some own →
      ((c ∈ cycleStartCommands ∨ c = .claimWindowExpires) ∧ t.cycle.timing = .leading ∧
        ∃ f : CycleStartFrame, f.source = t.cycle.address ∧ own.bytes = f.bytes) ∨
      ∃ now e n label payload, s.current = some now ∧ e ∈ s.sched.active.entries ∧ walks s now e = true ∧
        c = .cyclicSlotStart e.start ∧ e.slot = .cyclic n s.cycle.address label payload ∧
        (∃ f : CyclicFrame, f.source = s.cycle.address ∧ f.label = label ∧ own.bytes = f.bytes) ∧
        (s.cycle.timing = .leading ∨ (s.cycle.timing.following = true ∧ free))) ∧
    (∀ own, t.trunk.segment = some own →
      (∃ given, s.trunk.segment = some given ∧
        (own = given ∨ ∃ since, given.way = .waits since ∧ own = { given with way := .sends since })) ∨
      ∃ now e floor line, s.current = some now ∧ e ∈ s.sched.active.entries ∧ walks s now e = true ∧
        c = .openSlotWindowOpens { start := e.start, line := line } ∧ e.slot = .openSlot floor ∧ own.start = e.start ∧
        (s.cycle.timing = .leading ∨ (s.cycle.timing = .locked ∧ free)))

/-- R19, R20 to R22, R39, R41, R157: what the host configures changes only by the request that configures it, or by a
reset. -/
def Obligations.NodeChangesOnlyByRequest : Prop :=
  ∀ (c : Instr) (s t : State), exec c s = .next t → c ≠ .resetNode → (∀ a b d, c ≠ .powerOnReset a b d) →
    (c ≠ .setNode → t.cycle.address = s.cycle.address ∧ t.cycle.role = s.cycle.role) ∧
    (c ≠ .setCycle → t.cycle.bareLength = s.cycle.bareLength) ∧
    (c ≠ .goOnline → c ≠ .goOffline → t.online = s.online) ∧
    (c ≠ .setGroups → t.rx.groups = s.rx.groups) ∧
    (c ≠ .noticeMask → t.notices.disabled = s.notices.disabled) ∧
    t.link.straps = s.link.straps

/-- R54: the ACTIVE bank changes only by a reset or a switch, and a switch puts the CLOSED or ARMED staged bank in its
place whole and leaves the staged bank EMPTY. -/
def Obligations.ActiveBankOnlySwitchedIn : Prop :=
  ∀ (c : Instr) (s t : State), exec c s = .next t → t.sched.active ≠ s.sched.active →
    c = .resetNode ∨ (∃ a b d, c = .powerOnReset a b d) ∨
    (requestCode c = none ∧ t.sched.staged = .empty ∧ ∃ epoch length entries,
      (s.sched.staged = .closed epoch length entries ∨ ∃ cycle, s.sched.staged = .armed epoch length entries cycle) ∧
      t.sched.active = { epoch := epoch, cycleLength := some length, entries := entries })

/-! ### Frames: what commands leave as it was -/

/-- The reading requests and BAD_REQUEST change nothing but the entry they answer and ATTN. -/
def Obligations.ReadingRequestsChangeNothing : Prop :=
  ∀ c ∈ readingCommands, ∀ s t : State, exec c s = .next t →
    t = { s with link := { s.link with buffer := t.link.buffer, attn := t.link.attn } }

/-- The requests that act change the unit that owns them, the notices where their rule gives one, the entry they answer
and ATTN, and nothing else; but GO_ONLINE changes the trunk interface's field `hearsFrom` too, which is the model's own (log
entry 18). -/
def Obligations.RequestsKeepOtherUnits : Prop :=
  ∀ s t : State,
    let l := { s.link with buffer := t.link.buffer, attn := t.link.attn }
    (∀ c ∈ [Instr.setNode, .setCycle], exec c s = .next t → t = { s with cycle := t.cycle, link := l }) ∧
    (exec .goOnline s = .next t →
      t = { s with cycle := t.cycle, trunk := { s.trunk with hearsFrom := t.trunk.hearsFrom }, link := l }) ∧
    (∀ c ∈ [Instr.stageBegin, .stageAdd, .stageRemove, .stageClose, .stageDiscard], exec c s = .next t →
      t = { s with sched := { s.sched with staged := t.sched.staged, adoption := t.sched.adoption }, link := l }) ∧
    (∀ c ∈ [Instr.commit, .cancel], exec c s = .next t →
      t = { s with sched := { s.sched with staged := t.sched.staged, unready := t.sched.unready,
                                           adoption := t.sched.adoption },
                   notices := t.notices, link := l }) ∧
    (∀ c ∈ [Instr.bindChannel, .unbindChannel, .writeChannel], exec c s = .next t →
      t = { s with channels := t.channels, link := l }) ∧
    (∀ c ∈ [Instr.sendMessage, .messagePiece, .abortMessage], exec c s = .next t →
      t = { s with tx := { t.tx with onLine := s.tx.onLine }, notices := t.notices, link := l }) ∧
    (exec .setGroups s = .next t → t = { s with rx := { s.rx with groups := t.rx.groups }, link := l }) ∧
    (exec .releaseMessage s = .next t →
      t = { s with rx := { s.rx with queue := t.rx.queue, free := t.rx.free }, link := l }) ∧
    (exec .noticeMask s = .next t →
      t = { s with notices := { s.notices with disabled := t.notices.disabled }, link := l }) ∧
    (exec .ackNotices s = .next t →
      t = { s with notices := { t.notices with disabled := s.notices.disabled }, link := l }) ∧
    (exec .readCounts s = .next t →
      t = { s with trunk := { s.trunk with crcErrors := t.trunk.crcErrors, malformed := t.trunk.malformed,
                                           wrongSlot := t.trunk.wrongSlot, stray := t.trunk.stray,
                                           disturbed := t.trunk.disturbed },
                   rx := { s.rx with orphan := t.rx.orphan, duplicate := t.rx.duplicate }, link := l })

/-- The events of the host link touch the link and the notices alone (R168: nothing outside the link but the rewind and
LINK_ERROR); those of the trunk touch no part of the link but ATTN; those of one slot or one own frame touch only what
their rules name. -/
def Obligations.EventsKeepOtherUnits : Prop :=
  ∀ (c : Instr) (s t : State), exec c s = .next t →
    (onHostLink c → t = { s with notices := t.notices, link := { t.link with straps := s.link.straps } }) ∧
    (onTrunk c → t.link = { s.link with attn := t.link.attn } ∧ t.notices.disabled = s.notices.disabled ∧
      t.notices.delivered = s.notices.delivered ∧ t.tx.idCounter = s.tx.idCounter ∧ t.rx.groups = s.rx.groups) ∧
    (∀ start, c = .cyclicSlotStart start → t = s ∨ t = { s with
      trunk := { s.trunk.reach t.trunk.lineClock with sending := t.trunk.sending, txen := t.trunk.txen,
                                                      ownSlots := t.trunk.ownSlots },
      link := { s.link with attn := t.link.attn } }) ∧
    (∀ start, c = .cyclicSlotEnd start ∨ c = .channelLost start → t = s ∨ t = { s with
      trunk := { s.trunk.reach t.trunk.lineClock with slots := t.trunk.slots, late := t.trunk.late,
                                                      wrongSlot := t.trunk.wrongSlot },
      channels := t.channels, notices := t.notices, link := { s.link with attn := t.link.attn } }) ∧
    (∀ slot, c = .openSlotWindowOpens slot → t = { s with
      trunk := { s.trunk with lineClock := t.trunk.lineClock, segment := t.trunk.segment, txen := t.trunk.txen,
                              ownSlots := t.trunk.ownSlots },
      tx := { s.tx with queue := t.tx.queue, onLine := t.tx.onLine }, link := { s.link with attn := t.link.attn } }) ∧
    (c ∈ [Instr.segmentWon, .segmentLost, .segmentDisturbed, .messageTrunkFault] → t = { s with
      trunk := t.trunk, tx := { t.tx with idCounter := s.tx.idCounter }, notices := t.notices,
      link := { s.link with attn := t.link.attn } }) ∧
    (c ∈ [Instr.ownFrameSent, .ownFrameMismatch] → t = { s with
      trunk := t.trunk, link := { s.link with attn := t.link.attn } })

/-! ### Shared operations -/

/-- R161, R162, 10.3: the oldest ACCEPTED entry is found behind TAKEN ones only, and the reply joins it and no other. A code
names a request exactly when some command is that request; a body of a length not allowed is answered with BAD_LENGTH and
its length, a code that names no request with BAD_REQUEST and the code, and neither changes anything. -/
def Obligations.RequestsTakenInOrder : Prop :=
  (∀ (r : Reply) (s : State) (q : Request), oldestAccepted s.link.buffer = some q →
    ∃ before after, s.link.buffer = before ++ q :: after ∧ (∀ p ∈ before, p.reply.isSome) ∧ q.reply = none ∧
      s.answer r = { s with link := { s.link with buffer := before ++ { q with reply := some r } :: after } }) ∧
  (∀ code, (bodyShape code).isSome ↔ ∃ c, requestCode c = some code) ∧
  (∀ (c : Instr) (code : Byte) (body : List Byte) (s : State), requestCode c = some code → s.takes code body →
    (bodyShape code).any (fun shape => shape.allows body) = false →
    exec c s = replied ⟨.badLength, halfBytesOf body.length⟩ s) ∧
  ∀ (code : Byte) (body : List Byte) (s : State), s.takes code body → bodyShape code = none →
    exec .badRequest s = replied ⟨.badRequest, [code]⟩ s

/-- R146 to R149: a notice of a disabled maskable kind is not created; with 32 in the queue it is counted as lost, to 255;
else it joins the end with the next number and the cycle number of a synchronised node. -/
def Obligations.NoticeQueuedOrLost : Prop :=
  ∀ (b : NoticeBody) (s : State),
    giveNotice b s =
      if b.kind ∈ maskableKinds ∧ b.kind ∈ s.notices.disabled then s
      else if 32 ≤ s.notices.queue.length then
        { s with notices := { s.notices with lost := if s.notices.lost < 255 then s.notices.lost + 1 else 255 } }
      else
        { s with notices := { s.notices with
            queue := s.notices.queue ++
              [{ seq := s.notices.nextSeq,
                 cycle := if s.cycle.timing = .leading ∨ s.cycle.timing = .locked ∨ s.cycle.timing = .holdover then
                   s.cycle.now.map (·.number) else none,
                 body := b }],
            nextSeq := s.notices.nextSeq + 1 } }

/-- R37, R17, R73, R75, R93, R119, R136: what a departure does to every unit. `own` is the notice of the rule that causes
it, `run` the candidate run of R29. The notices follow in the order of the units and carry no cycle number: `own`, then
ACTIVATION_WITHDRAWN, MESSAGE_FAILED (with the reason HOST where an abort is pending, its own where it is ABORTING) and
TX_ROOM, MESSAGE_DROPPED for each open context in the order of the places. That a segment not begun is dropped is the model's
reading (log entry 7); `takeUp` is log entry 17, `ownSlots` log entry 15, `late` and `earlyWalk` log entry 12. -/
def Obligations.DepartureEffects : Prop :=
  ∀ (d : Destination) (own : List NoticeBody) (run : Option CandidateRun) (s : State), s.rx.sound →
    let t := depart d own run s
    let ended : Option (Message × FailReason) := match s.tx.queue with
      | [] => none
      | m :: _ => match m.state with
        | .waiting => none
        | .inFlight r => some (m, if r.abortPending then .host else if d = .hunting then .sync else .offline)
        | .aborting _ reason _ => some (m, reason)
    let back : Nat := (ended.map (fun p => p.1.blocks)).getD 0
    let room : Bool := decide (0 < back) && s.tx.roomWatch && decide (4 ≤ s.tx.free + back)
    let withdrawn : List NoticeBody := match s.sched.staged with
      | .armed epoch _ _ cycle => [.activationWithdrawn epoch cycle (if d = .hunting then .sync else .offline)]
      | _ => []
    let failed : List NoticeBody := ended.toList.map
      (fun p => .messageFailed p.1.id p.1.dest p.1.cls p.2 false p.1.sent)
    let dropped : List NoticeBody := (s.rx.places.filterMap id).map
      (fun c => .messageDropped c.source c.id c.dest (if d = .hunting then .sync else .offline) c.data.length)
    t.cycle = { s.cycle with timing := if d = .hunting then .hunting else .offline, now := none, listenOnly := false,
                             claim := none, conflict := none, run := if d = .hunting then run else none,
                             missCount := if d = .hunting then s.cycle.missCount else 0 } ∧
    t.sched = { s.sched with adoption := false, unready := none, takeUp := .done,
                             staged := match s.sched.staged with
                               | .armed epoch length entries _ => .closed epoch length entries
                               | g => g } ∧
    t.channels = s.channels.map (fun o => o.map (fun c => match c.direction with
      | .consume k => if c.resolution = .resolved then
          { c with direction := .consume { k with state := .waiting, missCount := 0 } } else c
      | .produce _ => c)) ∧
    t.tx = { s.tx with queue := if ended.isSome then s.tx.queue.drop 1 else s.tx.queue, free := s.tx.free + back,
                       roomWatch := s.tx.roomWatch && !room, onLine := none } ∧
    t.rx = { s.rx with places := List.replicate 4 none, records := [],
                       free := s.rx.free + ((s.rx.places.filterMap id).map Context.blocks).sum } ∧
    t.notices = (giveNotices
      (own ++ withdrawn ++ failed ++ (if room then [.txRoom (s.tx.free + back)] else []) ++ dropped)
      { s with cycle := { s.cycle with now := none } }).notices ∧
    t.trunk = { s.trunk with window := .settled, slots := [], ownSlots := [], late := [], earlyWalk := [],
                             segment := s.trunk.segment.filter (fun g => match g.way with
                               | .sends _ => true
                               | .waits _ | .silent _ => false) } ∧
    t.link = s.link ∧ t.pending = s.pending

/-! ### Frames on the two links -/

/-- R1 to R3, R171, R173, 10.7: the bytes of a frame of each kind are judged good and read as the same fields, whatever
follows them without a quiet byte time between; the frame cut short is MALFORMED, and with another CRC it counts in
CRC_ERRORS. A frame whose lead or kind is wrong, or whose length byte is out of range, is MALFORMED and given up when that
check fails. That check 1 fails with the fourth byte, and that the bytes end where the line falls quiet, are log entry 20. -/
def Obligations.TrunkFramesRoundTrip : Prop :=
  let checked (bytes : List Byte) (f : TrunkFrame) : Prop :=
    (∀ tail, judge (bytes ++ tail) = .good f ∧ readTime (bytes ++ tail) = bytes.length) ∧
    (∀ n < bytes.length, judge (bytes.take n) = .malformed ∧ readTime (bytes.take n) = n) ∧
    ∀ (check : Half) (tail : List Byte), halfBytes check ≠ bytes.drop (bytes.length - 2) →
      judge (bytes.take (bytes.length - 2) ++ halfBytes check ++ tail) = .crcError
  let lead : List Byte := [0x55, 0x55, 0x4E]
  (∀ f : CycleStartFrame, f.length < 65536 → (f.announces = false → f.announcedEpoch = 0 ∧ f.activation = 0) →
    f.bytes.length = 22 ∧ checked f.bytes (.cycleStart f)) ∧
  (∀ f : CyclicFrame, 1 ≤ f.payload.length → f.payload.length ≤ 64 →
    f.bytes.length = f.payload.length + 10 ∧ checked f.bytes (.cyclic f)) ∧
  (∀ f : SegmentFrame, f.index < 256 → f.cls < 256 → f.payload.length ≤ 40 → f.total.isSome = f.first →
    (∀ n ∈ f.total, n < 65536) →
    f.bytes.length = f.payload.length + (if f.first then 16 else 14) ∧ checked f.bytes (.segment f)) ∧
  ∀ b : List Byte,
    (b.take 3 ≠ lead ∨ byteAt b 3 ∉ [0x1E, 0x2D, 0x4B] → judge b = .malformed ∧ readTime b = min b.length 4) ∧
    (b.take 3 = lead → byteAt b 3 = 0x2D → byteAt b 7 = 0 ∨ 64 < (byteAt b 7).toNat →
      judge b = .malformed ∧ readTime b = min b.length 8) ∧
    (b.take 3 = lead → byteAt b 3 = 0x4B → 40 < (byteAt b 11).toNat →
      judge b = .malformed ∧ readTime b = min b.length 12)

/-- R171: running the computation on over the covered bytes and the two CRC bytes leaves the register at 0, and the CRC
of the characters 1 to 9 is 29B1 hex. -/
def Obligations.CrcResidueIsZero : Prop :=
  (∀ covered : List Byte, crc (covered ++ halfBytes (crc covered)) = 0) ∧
  crc [0x31, 0x32, 0x33, 0x34, 0x35, 0x36, 0x37, 0x38, 0x39] = 0x29B1

/-- R13, R14: of two contenders with different keys that send in step, the one with the higher key takes LOST in the
arbitration field and falls silent, and what then stands on the line is the other's frame, whole, which is WON; a frame
read back as it was sent is WON. The levels on the line stand beside `exec`, which is told the outcome by the command (the
model's choice, log entry 10). -/
def Obligations.LowestKeyWins : Prop :=
  (∀ f g : SegmentFrame, f.key < g.key →
    let line := contest (bitsOf f.bytes) (bitsOf g.bytes)
    line = bitsOf f.bytes ∧ contest (bitsOf g.bytes) (bitsOf f.bytes) = line ∧
    outcomeOf f.bytes line = .won ∧ outcomeOf g.bytes line = .lost ∧
    outcomeOf g.bytes (lineOf (bitsOf f.bytes) (bitsOf g.bytes)) = .lost) ∧
  ∀ frame : List Byte, outcomeOf frame (bitsOf frame) = .won

/-- HOST_FRAME_RECEIVED (R160, R161, R156): the bytes of one REQUEST frame, received by a hunting receiver, meet the checks
at acceptance in order: tag 0, a tag in use, a full buffer; else the request joins the end of the buffer. A length field
out of range is given up with LENGTH as soon as it is in. A frame whose CRC is wrong, whose kind is neither REQUEST nor
RESYNC, or whose length does not fit its kind is discarded with LINK_ERROR. Bytes that come while a break is in progress, and
bytes other than A5 hex at a hunting receiver, are passed over. Bytes that come in several commands act as in one. That bytes imply an asserted SEL in SPI mode, and that a command may hold any run of bytes, is the model's reading
(log entry 6). -/
def Obligations.HostFramesReceived : Prop :=
  (∀ (tag code : Byte) (body : List Byte) (s : State), s.link.rx = [] → s.link.breakLow = false → body.length ≤ 256 →
    let u := { s with link := { s.link with sel := s.link.sel || s.link.straps.mode } }
    exec (.hostFrameReceived (hostFrame ([1, tag, code] ++ body))) s =
      if tag = 0 then .next (giveNotice (.linkError .zeroTag (some 0)) u).setAttn
      else if ∃ q ∈ s.link.buffer, q.tag = tag then .next (giveNotice (.linkError .tagInUse (some tag)) u).setAttn
      else if 4 ≤ s.link.buffer.length then .next (giveNotice (.linkError .overrun (some tag)) u).setAttn
      else .next (State.setAttn { u with link := { u.link with
        buffer := u.link.buffer ++ [{ tag := tag, code := code, body := body, reply := none }] } })) ∧
  (∀ (inner : List Byte) (check : Half) (s : State), s.link.rx = [] → s.link.breakLow = false →
    1 ≤ inner.length → inner.length ≤ 259 →
    let u := { s with link := { s.link with sel := s.link.sel || s.link.straps.mode } }
    (check ≠ crc (halfBytesOf inner.length ++ inner) →
      exec (.hostFrameReceived (0xA5 :: halfBytesOf inner.length ++ inner ++ halfBytes check)) s =
        .next (giveNotice (.linkError .crc none) u).setAttn) ∧
    (byteAt inner 0 ≠ 1 → byteAt inner 0 ≠ 0x0F →
      exec (.hostFrameReceived (hostFrame inner)) s = .next (giveNotice (.linkError .kind none) u).setAttn) ∧
    (byteAt inner 0 = 1 → inner.length < 3 →
      exec (.hostFrameReceived (hostFrame inner)) s = .next (giveNotice (.linkError .length none) u).setAttn) ∧
    (byteAt inner 0 = 0x0F → inner.length ≠ 1 →
      exec (.hostFrameReceived (hostFrame inner)) s = .next (giveNotice (.linkError .length none) u).setAttn)) ∧
  (∀ (b0 b1 : Byte) (s : State), s.link.rx = [] → s.link.breakLow = false →
    (b0 ++ b1).toNat = 0 ∨ 259 < (b0 ++ b1).toNat →
    exec (.hostFrameReceived [0xA5, b0, b1]) s = .next (giveNotice (.linkError .length none)
      { s with link := { s.link with sel := s.link.sel || s.link.straps.mode } }).setAttn) ∧
  (∀ (bytes : List Byte) (s : State),
    s.link.breakLow = true ∨ (s.link.rx = [] ∧ ∀ b ∈ bytes, b ≠ 0xA5) →
    exec (.hostFrameReceived bytes) s =
      .next (State.setAttn { s with link := { s.link with sel := s.link.sel || s.link.straps.mode } })) ∧
  ∀ (a b : List Byte) (s : State), ∃ t, exec (.hostFrameReceived a) s = .next t ∧
    exec (.hostFrameReceived (a ++ b)) s = exec (.hostFrameReceived b) t

/-! ### The cycle unit's requests, RESET_NODE and READ_COUNTS -/

/-- IDENTIFY (R38). The family code is 5A hex and the part code 410 takes two bytes; the codes of role and operating state
are those of 10.6. -/
def Obligations.IdentifyReply : Prop :=
  ∀ s : State, s.takes 0x01 [] →
    exec .identify s = replied ⟨.ok, [0x5A, 0x01, 0x9A, 1, s.cycle.address,
      if s.cycle.role = .master then 2 else 1, if s.cycle.timing = .offline then 0 else 1]⟩ s

/-- SET_NODE (R20). -/
def Obligations.SetNodeResult : Prop :=
  ∀ (address role : Byte) (s : State), s.takes 0x02 [address, role] →
    exec .setNode s =
      if s.cycle.timing ≠ .offline then replied ⟨.wrongState, []⟩ s
      else if 62 < address.toNat ∨ (role ≠ 1 ∧ role ≠ 2) then replied ⟨.badValue, []⟩ s
      else replied ⟨.ok, []⟩
        { s with cycle := { s.cycle with address := address, role := if role = 2 then .master else .member } }

/-- SET_CYCLE (R39), GO_ONLINE (R21, R5) and GO_OFFLINE (R22, R16); what a departure does is `DepartureEffects`. That a
segment counts as being sent until its outcome is log entry 7, that frames begun before GO_ONLINE are not heard log entry
18. -/
def Obligations.OnlineRequestsResult : Prop :=
  ∀ s : State,
    (∀ b0 b1, s.takes 0x03 [b0, b1] → exec .setCycle s =
      if 250 ≤ (b0 ++ b1).toNat ∧ (b0 ++ b1).toNat ≤ 25000 then
        replied ⟨.ok, []⟩ { s with cycle := { s.cycle with bareLength := (b0 ++ b1).toNat } }
      else replied ⟨.badValue, []⟩ s) ∧
    (s.takes 0x04 [] → exec .goOnline s =
      if s.cycle.timing ≠ .offline ∨ s.cycle.address = 0 then replied ⟨.wrongState, []⟩ s
      else replied ⟨.ok, []⟩ { s with
        trunk := { s.trunk with hearsFrom := some s.trunk.lineClock },
        cycle := match s.cycle.role with
          | .member => { s.cycle with timing := .hunting, run := none, missCount := 0, listenOnly := false }
          | .master => { s.cycle with timing := .claiming, missCount := 0, listenOnly := false,
                                      claim := some { opened := s.trunk.lineClock, lastHigher := none } } }) ∧
    (s.takes 0x05 [] → exec .goOffline s =
      if s.cycle.timing = .offline then replied ⟨.ok, []⟩ s
      else if s.trunk.busy = true ∧ s.trunk.deferred = none then
        replied ⟨.ok, []⟩
          (depart .offline [] none { s with trunk := { s.trunk with deferred := some .offline } })
      else replied ⟨.ok, []⟩ (depart .offline [] none s))

/-- RESET_NODE (R41, R155, R16): every unit but the host link takes its node-reset values; the trunk interface does so from
the end of a frame it is sending, for a segment until its outcome. Until then it keeps its counters, its line clock and that
frame; its walk ends at once, and a segment not begun is dropped, since the node is OFFLINE (the model's reading, log entry
7). -/
def Obligations.ResetNodeResult : Prop :=
  ∀ s : State, s.takes 0x06 [] →
    exec .resetNode s = replied ⟨.ok, []⟩ { State.reset with
      notices := { State.reset.notices with
        queue := [{ seq := 0, cycle := none, body := .nodeRestarted .request }] },
      trunk := if s.trunk.busy = true then
        { s.trunk with deferred := some .nodeReset, window := .settled, slots := [], ownSlots := [], late := [],
                       earlyWalk := [],
                       segment := s.trunk.segment.filter (fun g => match g.way with
                         | .sends _ => true
                         | .waits _ | .silent _ => false) }
      else State.reset.trunk,
      link := s.link, pending := s.pending }

/-- READ_SYNC (R40) and READ_COUNTS (R18). -/
def Obligations.ReadSyncAndCountsResult : Prop :=
  ∀ s : State,
    (s.takes 0x07 [] → exec .readSync s = replied ⟨.ok,
      [s.cycle.timing.code] ++ optionBytes 4 (s.current.map (fun c => wordBytes c.number)) ++
      halfBytesOf (match s.current with
        | some c => c.length
        | none => s.cycle.bareLength) ++
      [s.cycle.lastMaster, BitVec.ofInt 8 s.cycle.phaseError, byteOf s.cycle.missCount, flagByte s.cycle.listenOnly] ++
      halfBytes s.sched.active.epoch ++ [s.sched.staged.state.code]⟩ s) ∧
    (∀ clear, s.takes 0x60 [clear] → exec .readCounts s =
      if 1 < clear.toNat then replied ⟨.badValue, []⟩ s
      else replied ⟨.ok,
          halfBytesOf s.trunk.crcErrors ++ halfBytesOf s.trunk.malformed ++ halfBytesOf s.trunk.wrongSlot ++
          halfBytesOf s.trunk.stray ++ halfBytesOf s.trunk.disturbed ++ halfBytesOf s.rx.orphan ++
          halfBytesOf s.rx.duplicate⟩
        (if clear = 1 then
          { s with trunk := { s.trunk with crcErrors := 0, malformed := 0, wrongSlot := 0, stray := 0, disturbed := 0 },
                   rx := { s.rx with orphan := 0, duplicate := 0 } }
        else s))

/-! ### The schedule unit's requests -/

/-- STAGE_BEGIN (R46), STAGE_DISCARD (R53) and READ_SCHEDULE (R56, R57). A bank that leaves CLOSED takes its adoption mark
with it (R75). A reading gives the fields of the bank asked for, absent ones as zeros, and up to `count` entries from position
`first`, and changes nothing. -/
def Obligations.StageBeginDiscardReadResult : Prop :=
  (∀ s : State,
    (∀ b0 b1, s.takes 0x10 [b0, b1] → exec .stageBegin s =
      if s.sched.staged.state = .armed then replied ⟨.stageArmed, []⟩ s
      else if 250 ≤ (b0 ++ b1).toNat ∧ (b0 ++ b1).toNat ≤ 25000 then
        replied ⟨.ok, []⟩ { s with sched := { s.sched with staged := .editing (b0 ++ b1).toNat [], adoption := false } }
      else replied ⟨.badValue, []⟩ s) ∧
    (s.takes 0x14 [] → exec .stageDiscard s =
      if s.sched.staged.state = .armed then replied ⟨.stageArmed, []⟩ s
      else replied ⟨.ok, []⟩ { s with sched := { s.sched with staged := .empty, adoption := false } })) ∧
  ∀ (bank first count : Byte) (s : State), s.takes 0x15 [bank, first, count] →
    let reply (state : Byte) (epoch : Option Half) (length : Option Nat) (cycle : Option Word) (entries : List Entry) :=
      let shown := (entries.drop first.toNat).take count.toNat
      replied ⟨.ok, [bank, state, flagByte epoch.isSome, flagByte length.isSome, flagByte cycle.isSome] ++
        halfBytes (epoch.getD 0) ++ halfBytesOf (length.getD 0) ++ wordBytes (cycle.getD 0) ++
        [byteOf entries.length, first, byteOf shown.length] ++ shown.flatMap Entry.bytes⟩ s
    exec .readSchedule s =
      if 63 < first.toNat ∨ count.toNat < 1 ∨ 16 < count.toNat ∨ (bank ≠ 1 ∧ bank ≠ 2) then replied ⟨.badValue, []⟩ s
      else if bank = 1 then
        reply 4 (some s.sched.active.epoch) (some s.activeLength) none s.sched.active.entries
      else match s.sched.staged with
        | .empty => reply 0 none none none []
        | .editing length entries => reply 1 none (some length) none entries
        | .closed epoch length entries => reply 2 (some epoch) (some length) none entries
        | .armed epoch length entries cycle => reply 3 (some epoch) (some length) (some cycle) entries

/-- STAGE_ADD (R45, R47 to R49) and STAGE_REMOVE (R45, R50) on an EDITING bank: the entries are inserted together, in start
order, or none is; the first that fails is named with its place and check. In the other states the requests are refused. -/
def Obligations.StageAddAndRemoveResult : Prop :=
  (∀ (body : List Byte) (s : State) (length : Nat) (bank added : List Entry) (raw : RawEntry)
      (pre post : List RawEntry),
    let n := (byteAt body 0).toNat
    s.takes 0x11 body → body.length = 1 + 9 * n → s.sched.staged = .editing length bank →
    (n = 0 ∨ 8 < n → exec .stageAdd s = replied ⟨.badValue, [0, 0]⟩ s) ∧
    (1 ≤ n → n ≤ 8 → 64 < bank.length + n →
      exec .stageAdd s = replied ⟨.bankFull, [byteOf (64 - bank.length)]⟩ s) ∧
    (1 ≤ n → n ≤ 8 → bank.length + n ≤ 64 → (rawEntries body n).map RawEntry.inRange = added.map some →
      entriesAdmitted length bank added →
      ∃ new, exec .stageAdd s = replied ⟨.ok, [byteOf new.length]⟩
          { s with sched := { s.sched with staged := .editing length new } } ∧
        new.Perm (bank ++ added) ∧
        (bank.Pairwise (fun a b => a.start < b.start) → new.Pairwise (fun a b => a.start < b.start))) ∧
    (1 ≤ n → n ≤ 8 → bank.length + n ≤ 64 → rawEntries body n = pre ++ raw :: post →
      pre.map RawEntry.inRange = added.map some → entriesAdmitted length bank added →
      (∀ e, raw.inRange = some e → ¬ entriesAdmitted length (bank ++ added) [e]) →
      exec .stageAdd s = replied ⟨.badValue, [byteOf (pre.length + 1), match raw.inRange with
        | none => 1
        | some e => if e.start < 24 ∨ length < e.finish + 8 then 2 else 3]⟩ s)) ∧
  (∀ (b0 b1 : Byte) (s : State) (length : Nat) (bank before after : List Entry) (e : Entry),
    s.takes 0x12 [b0, b1] → s.sched.staged = .editing length bank →
    ((∀ f ∈ bank, f.start ≠ (b0 ++ b1).toNat) → exec .stageRemove s = replied ⟨.badValue, []⟩ s) ∧
    (bank = before ++ e :: after → e.start = (b0 ++ b1).toNat → bank.Pairwise (fun a b => a.start < b.start) →
      exec .stageRemove s = replied ⟨.ok, [byteOf (bank.length - 1)]⟩
        { s with sched := { s.sched with staged := .editing length (before ++ after) } })) ∧
  ∀ (body : List Byte) (s : State), s.sched.staged.state ≠ .editing →
    let r := if s.sched.staged.state = .armed then Status.stageArmed else .stageNotEditing
    (s.takes 0x11 body → body.length = 1 + 9 * (byteAt body 0).toNat → exec .stageAdd s = replied ⟨r, []⟩ s) ∧
    (s.takes 0x12 body → body.length = 2 → exec .stageRemove s = replied ⟨r, []⟩ s)

/-- STAGE_CLOSE (R45, R51, R52): a bank in which nothing overlaps and no label is repeated closes under an epoch that is
neither 0 nor the active one; else the first entry that fails LABEL or OVERLAP is named, or the reason EPOCH. -/
def Obligations.StageCloseResult : Prop :=
  (∀ (b0 b1 : Byte) (s : State) (length : Nat) (bank before after : List Entry) (e : Entry),
    s.takes 0x13 [b0, b1] → s.sched.staged = .editing length bank →
    (entriesClosed bank → exec .stageClose s =
      if b0 ++ b1 = (0 : Half) ∨ b0 ++ b1 = s.sched.active.epoch then replied ⟨.scheduleInvalid, [0, 0, 3]⟩ s
      else replied ⟨.ok, [b0, b1, byteOf bank.length]⟩
        { s with sched := { s.sched with staged := .closed (b0 ++ b1) length bank } }) ∧
    (bank = before ++ e :: after → (before ++ [e]).Pairwise (fun a b => a.finish ≤ b.start) →
      (before.filterMap Entry.label?).Nodup →
      (e.label?.any (fun l => (before.filterMap Entry.label?).contains l) = true →
        exec .stageClose s = replied ⟨.scheduleInvalid, halfBytesOf e.start ++ [2]⟩ s) ∧
      (e.label?.any (fun l => (before.filterMap Entry.label?).contains l) = false →
        after.head?.any (fun f => f.start < e.finish) = true →
        exec .stageClose s = replied ⟨.scheduleInvalid, halfBytesOf e.start ++ [1]⟩ s))) ∧
  ∀ (b0 b1 : Byte) (s : State), s.takes 0x13 [b0, b1] → s.sched.staged.state ≠ .editing →
    exec .stageClose s =
      replied ⟨if s.sched.staged.state = .armed then .stageArmed else .stageNotEditing, []⟩ s

/-- COMMIT (R61) and CANCEL (R64) at a leading master, and NOT_MASTER elsewhere. -/
def Obligations.CommitAndCancelResult : Prop :=
  ∀ s : State,
    (∀ b0 b1 b2 b3, s.takes 0x16 [b0, b1, b2, b3] →
      let cycle : Word := (b0 ++ b1) ++ (b2 ++ b3)
      (s.cycle.role ≠ .master ∨ s.cycle.timing ≠ .leading → exec .commit s = replied ⟨.notMaster, []⟩ s) ∧
      ∀ c, s.cycle.role = .master → s.cycle.timing = .leading → s.cycle.now = some c →
        exec .commit s = match s.sched.staged with
          | .closed epoch length entries =>
            if 16 ≤ (cycle - c.number).toNat ∧ (cycle - c.number).toNat ≤ 65535 then
              replied ⟨.ok, halfBytes epoch ++ [b0, b1, b2, b3]⟩ (giveNotice (.activationArmed epoch cycle .commit)
                { s with sched := { s.sched with staged := .armed epoch length entries cycle, unready := none,
                                                 adoption := false } })
            else replied ⟨.badValue, []⟩ s
          | _ => replied ⟨.wrongState, []⟩ s) ∧
    (s.takes 0x17 [] →
      (s.cycle.role ≠ .master ∨ s.cycle.timing ≠ .leading → exec .cancel s = replied ⟨.notMaster, []⟩ s) ∧
      (s.cycle.role = .master → s.cycle.timing = .leading → s.cycle.now.isSome →
        exec .cancel s = match s.sched.staged with
          | .armed epoch length entries cycle =>
            replied ⟨.ok, halfBytes epoch ++ wordBytes cycle⟩ (giveNotice (.activationWithdrawn epoch cycle .cancel)
              { s with sched := { s.sched with staged := .closed epoch length entries } })
          | _ => replied ⟨.tooLate, halfBytes s.sched.active.epoch ++ (match s.sched.lastSwitch with
              | some r => 1 :: (halfBytes r.epoch ++ wordBytes r.cycle)
              | none => [0, 0, 0, 0, 0, 0, 0])⟩ s))

/-! ### The channel unit -/

/-- BIND_CHANNEL (R80, R81) and UNBIND_CHANNEL (R82); and the resolution of R83: against the one CYCLIC entry that carries
the label, ABSENT, OWNER and LENGTH in this order. -/
def Obligations.BindAndUnbindResult : Prop :=
  (∀ (entries : List Entry) (address label : Byte) (length : Nat) (d : Direction),
    (entries.filterMap Entry.label?).Nodup →
    ((∀ e ∈ entries, e.label? ≠ some label) → resolve entries address label length d = .absent) ∧
    ∀ (e : Entry) (n : Nat) (owner : Byte) (payload : Nat), e ∈ entries → e.slot = .cyclic n owner label payload →
      resolve entries address label length d =
        if (match d with
          | .produce _ => owner != address
          | .consume _ => owner == address) then .owner
        else if payload ≠ length then .length else .resolved) ∧
  ∀ (n label dir len report miss stale : Byte) (s : State), s.channels.length = 32 →
    (s.takes 0x20 [n, label, dir, len, report, miss, stale] →
      let d : Direction := if dir = 1 then .produce none else
        .consume { state := .unscheduled, missCount := 0, missLimit := if miss = 0 then 3 else miss.toNat,
                   staleLimit := stale, received := none }
      let found := resolve s.sched.active.entries s.cycle.address label len.toNat d
      let first : ConsumeState := if found = .resolved then .waiting else .unscheduled
      exec .bindChannel s =
        if 31 < n.toNat then replied ⟨.unknownChannel, []⟩ s
        else if (s.channels.getD n.toNat none).isSome then replied ⟨.wrongState, []⟩ s
        else if label = 0 ∨ (dir ≠ 1 ∧ dir ≠ 2) ∨ len = 0 ∨ 64 < len.toNat ∨ 1 < report.toNat then
          replied ⟨.badValue, []⟩ s
        else if ∃ o ∈ s.channels, o.any (fun c => c.label == label) = true then replied ⟨.duplicateLabel, []⟩ s
        else replied ⟨.ok, [found.code, if dir = 1 then 0 else first.code]⟩
          { s with channels := s.channels.set n.toNat (some
              { label := label, length := len.toNat, report := report == 1, value := none, resolution := found,
                direction := match d with
                  | .produce a => .produce a
                  | .consume c => .consume { c with state := first } }) }) ∧
    (s.takes 0x21 [n] → exec .unbindChannel s =
      if 31 < n.toNat then replied ⟨.unknownChannel, []⟩ s
      else if (s.channels.getD n.toNat none).isNone then replied ⟨.wrongState, []⟩ s
      else replied ⟨.ok, []⟩ { s with channels := s.channels.set n.toNat none })

/-- WRITE_CHANNEL (R86), READ_CHANNEL (R94) and READ_CHANNELS (R95). -/
def Obligations.ChannelValuesResult : Prop :=
  ∀ (n : Byte) (value numbers : List Byte) (s : State), s.channels.length = 32 →
    (1 ≤ value.length → value.length ≤ 64 → s.takes 0x22 (n :: value) → exec .writeChannel s =
      if 31 < n.toNat then replied ⟨.unknownChannel, []⟩ s
      else match s.channels.getD n.toNat none with
        | none => replied ⟨.wrongState, []⟩ s
        | some c => match c.direction with
          | .consume _ => replied ⟨.wrongState, []⟩ s
          | .produce _ =>
            if value.length ≠ c.length then replied ⟨.badValue, [byteOf c.length]⟩ s
            else replied ⟨.ok, [c.resolution.code]⟩ { s with channels := s.channels.set n.toNat (some
              { c with value := some value, direction := .produce (some 0) }) }) ∧
    (s.takes 0x23 [n] → exec .readChannel s =
      if 31 < n.toNat then replied ⟨.unknownChannel, []⟩ s
      else replied ⟨.ok, channelRecord n.toNat (s.channels.getD n.toNat none)⟩ s) ∧
    (s.takes 0x24 (n :: numbers) → numbers.length = n.toNat →
      (n.toNat < 1 ∨ 8 < n.toNat → exec .readChannels s = replied ⟨.badValue, [0]⟩ s) ∧
      (1 ≤ n.toNat → n.toNat ≤ 8 → ∀ before bad after, numbers = before ++ bad :: after →
        (∀ k ∈ before, k.toNat ≤ 31) → 31 < bad.toNat →
        exec .readChannels s = replied ⟨.unknownChannel, [byteOf (before.length + 1)]⟩ s) ∧
      (1 ≤ n.toNat → n.toNat ≤ 8 → (∀ k ∈ numbers, k.toNat ≤ 31) → exec .readChannels s =
        if 256 < 1 + 14 * n.toNat +
            (numbers.map (fun k => ((s.channels.getD k.toNat none).map (·.length)).getD 0)).sum then
          replied ⟨.badValue, [0]⟩ s
        else replied ⟨.ok, n :: numbers.flatMap (fun k =>
          channelRecord k.toNat (s.channels.getD k.toNat none))⟩ s))

/-! ### The transmit message unit -/

/-- SEND_MESSAGE (R104, R105, R99, R100, R102): the checks in order; a message that is taken gets the first id from the id
counter on that no message holds, and the place behind every message in flight and every WAITING one of its own or a
higher class. -/
def Obligations.SendMessageResult : Prop :=
  ∀ (dest cls b0 b1 : Byte) (piece : List Byte) (s : State),
    s.takes 0x30 (dest :: cls :: b0 :: b1 :: piece) → piece.length ≤ 200 →
    let total := (b0 ++ b1).toNat
    let need := (piece.length + 63) / 64
    (dest = 0 ∨ dest = 63 ∨ (128 ≤ dest.toNat ∧ dest.toNat ≤ 254) ∨ dest = s.cycle.address →
      exec .sendMessage s = replied ⟨.badValue, [1]⟩ s) ∧
    (¬ (dest = 0 ∨ dest = 63 ∨ (128 ≤ dest.toNat ∧ dest.toNat ≤ 254) ∨ dest = s.cycle.address) →
      if 3 < cls.toNat then exec .sendMessage s = replied ⟨.badValue, [2]⟩ s
      else if total = 0 ∨ 1024 < total then exec .sendMessage s = replied ⟨.badValue, [3]⟩ s
      else if total < piece.length then exec .sendMessage s = replied ⟨.lengthExceeded, []⟩ s
      else if 8 ≤ s.tx.queue.length then exec .sendMessage s = replied ⟨.queueFull, []⟩ s
      else if s.tx.free < need then
        exec .sendMessage s = replied ⟨.noRoom, []⟩ { s with tx := { s.tx with roomWatch := true } }
      else ∃ id before after,
        s.tx.queue = before ++ after ∧ (∀ m ∈ before, m.waiting = true → cls.toNat ≤ m.cls) ∧
        (∀ m ∈ after.head?, m.waiting = true ∧ m.cls < cls.toNat) ∧
        (∀ m ∈ s.tx.queue, m.id ≠ id) ∧
        (∀ k < (id - s.tx.idCounter).toNat, ∃ m ∈ s.tx.queue, m.id = s.tx.idCounter + BitVec.ofNat 8 k) ∧
        exec .sendMessage s = replied ⟨.ok, id :: halfBytesOf piece.length ++ [byteOf (s.tx.free - need)]⟩
          { s with tx := { s.tx with
            queue := before ++ { id := id, dest := dest, cls := cls.toNat, total := total, data := piece, sent := 0,
                                 state := .waiting } :: after,
            free := s.tx.free - need, idCounter := id + 1 } })

/-- R102, R113, R116, R117, R119: a message that fails leaves the queue with MESSAGE_FAILED and gives its blocks back;
after blocks have gone back a set room watch gives TX_ROOM once 4 are free. -/
def Obligations.FailedMessageLeaves : Prop :=
  ∀ (m : Message) (rest : List Message) (reason : FailReason) (abortSent : Bool) (s : State),
    let u := giveNotice (.messageFailed m.id m.dest m.cls reason abortSent m.sent)
      { s with tx := { s.tx with queue := rest, free := s.tx.free + m.blocks } }
    failFirst m rest reason abortSent s =
      if 0 < m.blocks ∧ s.tx.roomWatch = true ∧ 4 ≤ s.tx.free + m.blocks then
        giveNotice (.txRoom (s.tx.free + m.blocks)) { u with tx := { u.tx with roomWatch := false } }
      else u

/-- MESSAGE_PIECE (R106) and ABORT_MESSAGE (R107, R116, R118) on the message that holds the id, which is the only one. -/
def Obligations.PieceAndAbortResult : Prop :=
  ∀ (id b0 b1 : Byte) (piece : List Byte) (s : State), 1 ≤ piece.length → piece.length ≤ 200 →
    ((∀ m ∈ s.tx.queue, m.id ≠ id) →
      (s.takes 0x31 (id :: b0 :: b1 :: piece) → exec .messagePiece s = replied ⟨.unknownHandle, []⟩ s) ∧
      (s.takes 0x32 [id] → exec .abortMessage s = replied ⟨.unknownHandle, []⟩ s)) ∧
    ∀ before m after, s.tx.queue = before ++ m :: after → (s.tx.queue.map (·.id)).Nodup → m.id = id →
      let offset := (b0 ++ b1).toNat
      let need := (offset + piece.length + 63) / 64 - (offset + 63) / 64
      (s.takes 0x31 (id :: b0 :: b1 :: piece) → exec .messagePiece s =
        if m.abortingNow then replied ⟨.wrongState, []⟩ s
        else if offset ≠ m.data.length then replied ⟨.badValue, halfBytesOf m.data.length⟩ s
        else if m.total < offset + piece.length then replied ⟨.lengthExceeded, []⟩ s
        else if s.tx.free < need then
          replied ⟨.noRoom, []⟩ { s with tx := { s.tx with roomWatch := true } }
        else replied ⟨.ok, id :: halfBytesOf (m.data.length + piece.length) ++ [byteOf (s.tx.free - need)]⟩
          { s with tx := { s.tx with free := s.tx.free - need,
                                     queue := before ++ { m with data := m.data ++ piece } :: after } }) ∧
      (s.takes 0x32 [id] →
        (m.state = .waiting → exec .abortMessage s = replied ⟨.ok, [1]⟩ (examineRoom m.blocks
          { s with tx := { s.tx with queue := before ++ after, free := s.tx.free + m.blocks } })) ∧
        (∀ r, m.state = .inFlight r → s.tx.onLine.isSome → exec .abortMessage s = replied ⟨.ok, [2]⟩
          { s with tx := { s.tx with
            queue := before ++ { m with state := .inFlight { r with abortPending := true } } :: after } }) ∧
        (∀ r, m.state = .inFlight r → s.tx.onLine = none → before = [] → exec .abortMessage s =
          if r.next = 0 then replied ⟨.ok, [2]⟩ (failFirst m after .host false s)
          else replied ⟨.ok, [2]⟩ (examineRoom m.blocks { s with tx := { s.tx with
            queue := { m with data := m.data.take m.sent,
                              state := .aborting { r with abortPending := false } .host 0 } :: after,
            free := s.tx.free + m.blocks } })) ∧
        (∀ r reason k, m.state = .aborting r reason k → exec .abortMessage s = replied ⟨.ok, [3]⟩ s))

/-- READ_OUTBOUND (R108) and READ_INBOUND (R143): the whole of each message unit, and nothing changes. That the completion
records stand in the order they were set is the model's choice (log entry 8). -/
def Obligations.MessageUnitsRead : Prop :=
  ∀ s : State,
    (s.takes 0x33 [] → exec .readOutbound s = replied ⟨.ok,
      [byteOf s.tx.free, s.tx.idCounter, if s.tx.roomWatch then 1 else 0, byteOf s.tx.queue.length] ++
      s.tx.queue.flatMap (fun m => [m.id, m.dest, byteOf m.cls] ++ halfBytesOf m.total ++ halfBytesOf m.data.length ++
        halfBytesOf m.sent ++ (match m.state with
          | .waiting => [1, byteOf m.blocks, 0, 0, 0, 0, 0, 0, 0]
          | .inFlight r => [2, byteOf m.blocks, byteOf r.next, byteOf r.sinceWon, byteOf r.starve, byteOf r.disturbed,
              byteOf (max m.cls (highestWaiting s.tx.queue)), 0, 0]
          | .aborting r reason k => [3, 0, byteOf r.next, byteOf r.sinceWon, byteOf r.starve, byteOf r.disturbed,
              byteOf (max m.cls (highestWaiting s.tx.queue)), reason.code, byteOf k]))⟩ s) ∧
    (s.takes 0x43 [] → exec .readInbound s = replied ⟨.ok,
      [byteOf s.rx.free, s.rx.handleCounter, byteOf s.rx.groups.length] ++ s.rx.groups ++
      List.replicate (8 - s.rx.groups.length) 0 ++ [byteOf s.rx.queue.length] ++
      s.rx.queue.flatMap (fun a => [a.handle, a.source, a.id, a.kind.code, a.dest, byteOf a.cls] ++
        halfBytesOf a.data.length ++ [byteOf ((a.data.length + 63) / 64)] ++ wordBytes a.cycle) ++
      [byteOf (s.rx.places.filterMap id).length] ++
      (s.rx.places.zipIdx.filterMap (fun p => p.1.map (fun c => (p.2, c)))).flatMap (fun p =>
        [byteOf p.1, p.2.source, p.2.id, p.2.dest, byteOf p.2.cls] ++ halfBytesOf p.2.total ++ [byteOf p.2.next] ++
        halfBytesOf p.2.data.length ++ [byteOf ((p.2.data.length + 63) / 64), byteOf p.2.idle]) ++
      [byteOf s.rx.records.length] ++
      s.rx.records.flatMap (fun r => [r.source, r.id, byteOf r.lastIndex, byteOf r.count])⟩ s)

/-! ### The receive message unit -/

/-- SET_GROUPS (R122), READ_MESSAGE (R141) and RELEASE_MESSAGE (R142). -/
def Obligations.InboundRequestsResult : Prop :=
  (∀ (k : Byte) (ids : List Byte) (s : State), s.takes 0x40 (k :: ids) → ids.length = k.toNat →
    (8 < k.toNat → exec .setGroups s = replied ⟨.badValue, [0]⟩ s) ∧
    (k.toNat ≤ 8 → ids.Nodup → (∀ g ∈ ids, 64 ≤ g.toNat ∧ g.toNat ≤ 127) →
      exec .setGroups s = replied ⟨.ok, [k]⟩ { s with rx := { s.rx with groups := ids } }) ∧
    (k.toNat ≤ 8 → ∀ before bad after, ids = before ++ bad :: after → before.Nodup →
      (∀ g ∈ before, 64 ≤ g.toNat ∧ g.toNat ≤ 127) → (bad ∈ before ∨ ¬ (64 ≤ bad.toNat ∧ bad.toNat ≤ 127)) →
      exec .setGroups s = replied ⟨.badValue, [byteOf (before.length + 1)]⟩ s)) ∧
  ∀ (handle b0 b1 count : Byte) (s : State),
    ((∀ a ∈ s.rx.queue, a.handle ≠ handle) →
      (s.takes 0x41 [handle, b0, b1, count] → exec .readMessage s = replied ⟨.unknownHandle, []⟩ s) ∧
      (s.takes 0x42 [handle] → exec .releaseMessage s = replied ⟨.unknownHandle, []⟩ s)) ∧
    ∀ before a after, s.rx.queue = before ++ a :: after → (s.rx.queue.map (·.handle)).Nodup → a.handle = handle →
      let offset := (b0 ++ b1).toNat
      (s.takes 0x41 [handle, b0, b1, count] → exec .readMessage s =
        if count.toNat < 1 ∨ 200 < count.toNat ∨ a.data.length ≤ offset ∨ a.data.length < offset + count.toNat then
          replied ⟨.badValue, halfBytesOf a.data.length⟩ s
        else replied ⟨.ok, [handle, b0, b1, count] ++ (a.data.drop offset).take count.toNat⟩ s) ∧
      (s.takes 0x42 [handle] → exec .releaseMessage s =
        replied ⟨.ok, [byteOf (s.rx.free + (a.data.length + 63) / 64)]⟩
          { s with rx := { s.rx with queue := before ++ after,
                                     free := s.rx.free + (a.data.length + 63) / 64 } })

/-- R123, R124, R127 to R134, R138, R139: what a segment handed to the receive message unit does: the filter, an
inconsistent segment (ORPHAN), a repeat of a completed message (DUPLICATE), an abort segment, a FIRST segment that opens a
context or finds none free, a data segment that continues its context, repeats one (DUPLICATE), leaves a gap or finds no
context (ORPHAN). `t` is the state the hand-over leaves; `appends u p c` says what appending to the context c at the place p
of the state u leaves: the context grown, broken for its length or for room, or complete with its completion record and its
entry in the receive queue, under the first handle from the handle counter on that no entry holds (R137; 1 follows 255), or
dropped where the queue is full. That next index may rise to 26 is the model's reading (log entry 19). -/
def Obligations.SegmentContinuesMessage : Prop :=
  ∀ (number : Word) (f : SegmentFrame) (s : State), s.rx.sound →
    let t := receiveSegment number f s
    let duplicate (u : State) : State := { u with rx := { u.rx with duplicate := bump u.rx.duplicate } }
    let orphan (u : State) : State := { u with rx := { u.rx with orphan := bump u.rx.orphan } }
    let broken (u : State) (p : Nat) (c : Context) (reason : DropReason) (received : Nat) : State :=
      giveNotice (.messageDropped c.source c.id c.dest reason received)
        { u with rx := { u.rx with places := u.rx.places.set p none,
                                   free := u.rx.free + (c.data.length + 63) / 64 } }
    let recorded (old new : List Completion) : Prop :=
      let fresh : Completion := { source := f.source, id := f.id, lastIndex := f.index, count := 0 }
      (old.length < 4 → new = old ++ [fresh]) ∧
      (4 ≤ old.length → ∃ before oldest after, old = before ++ oldest :: after ∧
        (∀ r ∈ before, r.count < oldest.count) ∧ (∀ r ∈ after, r.count ≤ oldest.count) ∧
        new = before ++ after ++ [fresh])
    let next (h : Byte) : Byte := if h = 255 then 1 else h + 1
    let appends (u : State) (p : Nat) (c : Context) : Prop :=
      let data := c.data ++ f.payload
      let need := (data.length + 63) / 64 - (c.data.length + 63) / 64
      if c.total < data.length then t = broken u p c .length c.data.length
      else if u.rx.free < need then t = broken u p c .noRoom c.data.length
      else if f.last = false then
        t = { u with rx := { u.rx with
          places := u.rx.places.set p (some { c with data := data, next := c.next + 1, idle := 0 }),
          free := u.rx.free - need } }
      else if data.length ≠ c.total then t = broken u p c .length data.length
      else
        ∃ records, recorded u.rx.records records ∧
        let done : ReceiveUnit := { u.rx with places := u.rx.places.set p none, records := records }
        if 8 ≤ u.rx.queue.length then
          t = giveNotice (.messageDropped c.source c.id c.dest .queueFull c.total)
            { u with rx := { done with free := u.rx.free + (c.data.length + 63) / 64 } }
        else
          ∃ k, let handle := Nat.iterate next k u.rx.handleCounter
            (∀ j < k, ∃ a ∈ u.rx.queue, a.handle = Nat.iterate next j u.rx.handleCounter) ∧
            handle ≠ 0 ∧ (∀ a ∈ u.rx.queue, a.handle ≠ handle) ∧
            t = giveNotice (.messageArrived handle c.source c.id (destKind c.dest) c.dest c.cls data.length)
              { u with rx := { done with
                free := u.rx.free - need, handleCounter := next handle,
                queue := u.rx.queue ++ [{ handle := handle, source := c.source, id := c.id, kind := destKind c.dest,
                                          dest := c.dest, cls := c.cls, data := data, cycle := number }] } }
    let opens (u : State) : Prop :=
      ((∀ o ∈ u.rx.places, o.isSome) → t = giveNotice (.messageDropped f.source f.id f.dest .noContext 0) u) ∧
      ∀ before after, u.rx.places = before ++ none :: after → (∀ o ∈ before, o.isSome) →
        (u.rx.free = 0 → t = giveNotice (.messageDropped f.source f.id f.dest .noRoom 0) u) ∧
        (0 < u.rx.free → appends u before.length { source := f.source, id := f.id, dest := f.dest, cls := f.cls,
                                                   total := f.total.getD 0, next := 0, data := [], idle := 0 })
    let taken : Prop := f.source ≠ s.cycle.address ∧
      (f.dest = s.cycle.address ∨ f.dest ∈ s.rx.groups ∨ f.dest = 255 ∨
        ∃ c, some c ∈ s.rx.places ∧ c.source = f.source ∧ c.id = f.id ∧ c.dest = f.dest)
    let wrong : Prop := f.source = 0 ∨ 62 < f.source.toNat ∨ 3 < f.cls ∨
      (f.abort = true ∧ (f.first = true ∨ f.last = true ∨ f.payload ≠ [] ∨ f.index = 0 ∨ 25 < f.index)) ∨
      (f.abort = false ∧ (f.payload = [] ∨ 25 < f.index ∨ (f.first = true ∧ f.index ≠ 0) ∨
        (f.first = false ∧ f.index = 0) ∨ ∃ n, f.total = some n ∧ (n = 0 ∨ 1024 < n)))
    let repeats (r : Completion) : Prop := f.abort = false ∧ r.id = f.id ∧ r.lastIndex = f.index
    (¬ taken → t = s) ∧ (taken → wrong → t = orphan s) ∧
    (taken → ¬ wrong →
      (∀ r ∈ s.rx.records, r.source = f.source → repeats r → t = duplicate s) ∧
      ((∀ r ∈ s.rx.records, r.source = f.source → ¬ repeats r) →
        let u : State := { s with rx := { s.rx with
          records := s.rx.records.filter (fun r => r.source != f.source) } }
        ((∀ c, some c ∈ s.rx.places → c.source ≠ f.source) →
          (f.abort = true → t = u) ∧ (f.abort = false → f.first = true → opens u) ∧
          (f.abort = false → f.first = false → t = orphan u)) ∧
        ∀ p c, s.rx.places[p]? = some (some c) → c.source = f.source →
          (f.abort = true → t = if c.id = f.id then broken u p c .aborted c.data.length else u) ∧
          (f.abort = false → f.first = true → if c.id = f.id ∧ c.next = 1 then t = duplicate u
            else opens (broken u p c .superseded c.data.length)) ∧
          (f.abort = false → f.first = false →
            if c.id ≠ f.id then t = broken (orphan u) p c .superseded c.data.length
            else if f.index = c.next then appends u p c
            else if f.index + 1 = c.next then t = duplicate u
            else t = broken u p c .gap c.data.length)))

/-! ### The notice unit -/

/-- NOTICE_MASK (R149) and ACK_NOTICES (R152, R153). -/
def Obligations.NoticeRequestsResult : Prop :=
  (∀ (k : Byte) (codes : List Byte) (s : State), s.takes 0x50 (k :: codes) → codes.length = k.toNat →
    (21 < k.toNat → exec .noticeMask s = replied ⟨.badValue, [0]⟩ s) ∧
    (k.toNat ≤ 21 → ∀ before bad after, codes = before ++ bad :: after →
      (∀ c ∈ before, 4 ≤ c.toNat ∧ c.toNat ≤ 21) → ¬ (4 ≤ bad.toNat ∧ bad.toNat ≤ 21) →
      exec .noticeMask s = replied ⟨.badValue, [byteOf (before.length + 1)]⟩ s) ∧
    (k.toNat ≤ 21 → (∀ c ∈ codes, 4 ≤ c.toNat ∧ c.toNat ≤ 21) →
      let off := maskableKinds.filter (fun kind => codes.contains kind.code)
      exec .noticeMask s = replied ⟨.ok, byteOf off.length :: off.map NoticeKind.code⟩
        { s with notices := { s.notices with disabled := off } })) ∧
  ∀ (b0 b1 : Byte) (s : State), s.takes 0x51 [b0, b1] →
    let seq : Half := b0 ++ b1
    let presence (n : NoticeUnit) : List Byte := match n.queue with
      | [] => [0, 0, 0]
      | oldest :: _ => 1 :: halfBytes oldest.seq
    ((∀ n ∈ s.notices.queue, n.seq ≠ seq) →
      exec .ackNotices s = replied ⟨.badValue, presence s.notices⟩ s) ∧
    ∀ before n after, s.notices.queue = before ++ n :: after → n.seq = seq → (∀ m ∈ before, m.seq ≠ seq) →
      after.length < 32 →
      let report : List Notice := if s.notices.lost = 0 then [] else
        [{ seq := s.notices.nextSeq, cycle := s.cycleNumber, body := .overflow s.notices.lost }]
      let u : NoticeUnit := { s.notices with
        queue := after ++ report, delivered := s.notices.delivered - (before.length + 1), lost := 0,
        nextSeq := s.notices.nextSeq + BitVec.ofNat 16 report.length }
      exec .ackNotices s = replied ⟨.ok, [byteOf (before.length + 1), byteOf u.queue.length] ++ presence u ++
        halfBytes u.nextSeq ++ [0]⟩ { s with notices := u }

/-! ### The host link's events -/

/-- BREAK and BREAK_END (R159, R167), a RESYNC frame, FRAMING_FAULT and GAP (R159), SEL_NEGATED (R158): a link reset
(R168) empties the link and makes every notice undelivered; a frame cut short is given up as TRUNCATED. That bytes imply
an asserted SEL in SPI mode is the model's reading (log entry 6). -/
def Obligations.InboundEventsResult : Prop :=
  ∀ s : State,
    let cut : State := if s.link.rx = [] then s else
      { giveNotice (.linkError .truncated none) s with link := { s.link with rx := [] } }
    let cleared (u : State) : State := { u with
      notices := { u.notices with delivered := 0 },
      link := { u.link with buffer := [], outbound := none, held := none } }
    (s.link.straps.mode = false → s.link.breakLow = false → exec .lineBreak s =
      .next (State.setAttn { cleared cut with link := { (cleared cut).link with breakLow := true } })) ∧
    (s.link.breakLow = true → exec .breakEnd s =
      .next (State.setAttn { s with link := { s.link with breakLow := false } })) ∧
    (s.link.rx = [] → s.link.breakLow = false → exec (.hostFrameReceived (hostFrame [0x0F])) s =
      .next (cleared { s with link := { s.link with sel := s.link.sel || s.link.straps.mode } }).setAttn) ∧
    (s.link.straps.mode = false → exec .framingFault s = .next cut.setAttn ∧ exec .gap s = .next cut.setAttn) ∧
    (s.link.straps.mode = true → exec .selNegated s = .next (State.setAttn { cut with link := { cut.link with
      sel := false, outbound := none,
      held := match s.link.outbound with
        | some f => some f
        | none => s.link.held } }))

/-- OUTBOUND_SELECT (R158, R164, R151), REPLY_SENT (R163) and NOTICE_FRAME_SENT (R164): the held frame, else the oldest
waiting reply, else the notice at the delivery point is begun; an answered entry leaves with the end of its reply. That
OUTBOUND_SELECT implies an asserted SEL in SPI mode is the model's reading (log entry 6). -/
def Obligations.OutboundEventsResult : Prop :=
  ∀ s : State,
    (s.link.outbound = none →
      let u : State := { s with link := { s.link with sel := s.link.sel || s.link.straps.mode } }
      (∀ f, s.link.held = some f → exec .outboundSelect s =
        .next (State.setAttn { u with link := { u.link with outbound := some f, held := none } })) ∧
      (∀ before q after r, s.link.held = none → s.link.buffer = before ++ q :: after → q.reply = some r →
        (∀ p ∈ before, p.reply = none) →
        let frame : OutFrame := { what := .reply q.tag, bytes := hostFrame ([2, q.tag, r.status.code] ++ r.body) }
        exec .outboundSelect s = .next (State.setAttn { u with link := { u.link with outbound := some frame } })) ∧
      (∀ n, s.link.held = none → (∀ q ∈ s.link.buffer, q.reply = none) →
        s.notices.queue[s.notices.delivered]? = some n →
        let frame : OutFrame :=
          { what := .notice n, bytes := hostFrame (3 :: halfBytes n.seq ++ [n.body.kind.code] ++ n.bodyBytes) }
        exec .outboundSelect s = .next (State.setAttn { u with
          notices := { u.notices with delivered := u.notices.delivered + 1 },
          link := { u.link with outbound := some frame } })) ∧
      (s.link.held = none → (∀ q ∈ s.link.buffer, q.reply = none) → s.notices.queue.length ≤ s.notices.delivered →
        exec .outboundSelect s = .next u.setAttn)) ∧
    (∀ tag bytes, s.link.outbound = some { what := .reply tag, bytes := bytes } → exec .replySent s =
      .next (State.setAttn { s with link := { s.link with
        buffer := s.link.buffer.filter (fun q => q.tag != tag), outbound := none } })) ∧
    ∀ n bytes, s.link.outbound = some { what := .notice n, bytes := bytes } → exec .noticeFrameSent s =
      .next (State.setAttn { s with link := { s.link with outbound := none } })

/-! ### Cycle starts -/

/-- CYCLE_START in LEADING, LOCKED and HOLDOVER (R7, R11, R23, R24, R27, R54, R62, R63, R72, R75, R77, R84, R87, R92, R102,
R114, R117, R133, R135): the number and origin of the new cycle; the window that opens; a leading node's length and its cycle
start frame; the switch of the ARMED bank whose cycle begins and the late adoption of a CLOSED bank with its adoption mark,
each with SCHEDULE_ACTIVATED and every channel resolved afresh with its CHANNEL_STATE; ages, idle cycles and record counts.
The notices in the order of the units: those of the switch, then MESSAGE_FAILED and TX_ROOM of the message that leaves or
becomes ABORTING, then MESSAGE_DROPPED (TIMEOUT) for each lapsed context in the order of the places. What becomes of the
transmit unit is `CycleStartCountsMessage`. That the line clock stands at the origin is log entry 5; the CYCLIC slots that
still wait for their frame log entry 12; `hearsFrom` log entry 18; `takeUp` log entry 17. -/
def Obligations.CycleStartEffects : Prop :=
  ∀ (c : CycleNow) (s : State), s.current = some c → s.rx.sound →
    ∃ t, exec .cycleStart s = .next t ∧
      let number := c.number + 1
      let origin := c.origin + BitVec.ofNat 32 c.length
      let length := if s.cycle.timing = .leading then t.activeLength else c.length
      let begun : State :=
        { s with cycle := { s.cycle with now := some { number := number, origin := origin, length := c.length } } }
      let reached (m : Message) (r : InFlight) : Option FailReason :=
        if m.data.length < min (40 * (r.next + 1)) m.total ∧ 32 ≤ r.starve + 1 then some .starved
        else if 48 ≤ r.sinceWon + 1 then some .contention
        else none
      let failed : List NoticeBody := match s.tx.queue with
        | [] => []
        | m :: _ =>
          let gone : Option FailReason := match m.state with
            | .waiting => none
            | .inFlight r => if r.next = 0 then reached m r else none
            | .aborting _ reason k => if 16 ≤ k + 1 then some reason else none
          gone.toList.map (fun reason => .messageFailed m.id m.dest m.cls reason false m.sent)
      let back : Nat := match s.tx.queue with
        | [] => 0
        | m :: _ => match m.state with
          | .inFlight r => if (reached m r).isSome then m.blocks else 0
          | .waiting | .aborting _ _ _ => 0
      let room : List NoticeBody :=
        if 0 < back ∧ s.tx.roomWatch = true ∧ 4 ≤ s.tx.free + back then [.txRoom (s.tx.free + back)] else []
      let lapsed : List Context := (s.rx.places.filterMap id).filter (fun x => decide (64 ≤ x.idle + 1))
      let dropped : List NoticeBody :=
        lapsed.map (fun x => .messageDropped x.source x.id x.dest .timeout x.data.length)
      let given (first : List NoticeBody) : Prop :=
        t.notices = (giveNotices (first ++ failed ++ room ++ dropped) begun).notices
      let found (entries : List Entry) (k : Channel) := resolve entries s.cycle.address k.label k.length k.direction
      let fresh (entries : List Entry) (k : Channel) : Channel :=
        { k with resolution := found entries k, direction := match k.direction with
          | .produce age => .produce (age.map (fun a => min 255 (a + 1)))
          | .consume d =>
            if found entries k ≠ .resolved then .consume { d with state := .unscheduled, missCount := 0 }
            else if k.resolution = .resolved then .consume d
            else .consume { d with state := .waiting, missCount := 0 } }
      let changes (entries : List Entry) : List NoticeBody := s.channels.zipIdx.filterMap (fun p => p.1.bind (fun k =>
        if k.report && found entries k != k.resolution then
          some (.channelState p.2 k.label .resolution (found entries k) (match k.direction with
            | .produce _ => none
            | .consume d => some { newState := if found entries k = .resolved then .waiting else .unscheduled,
                                   before := d.state, missCount := 0, age := none }))
        else none))
      let switched (epoch : Half) (n : Nat) (entries : List Entry) (mode : SwitchMode) : Prop :=
        t.sched = { s.sched with active := { epoch := epoch, cycleLength := some n, entries := entries },
                                 staged := .empty, adoption := false,
                                 lastSwitch := some { epoch := epoch, cycle := number },
                                 takeUp := if mode = .late then .awaitsMatch else .done } ∧
        t.channels = s.channels.map (fun o => o.map (fresh entries)) ∧
        given (.scheduleActivated epoch n number mode :: changes entries)
      t.cycle = { s.cycle with
        now := some { number := number, origin := origin, length := length },
        conflict := if s.cycle.timing = .leading then
          s.cycle.conflict.bind (fun n => if 8 ≤ n + 1 then none else some (n + 1)) else s.cycle.conflict } ∧
      (let announced := match t.sched.staged with
          | .armed epoch _ _ cycle => some (epoch, cycle)
          | _ => none
        let frame : CycleStartFrame :=
          { source := s.cycle.address, number := number, epoch := t.sched.active.epoch, length := length,
            announces := announced.isSome, announcedEpoch := (announced.map Prod.fst).getD 0,
            activation := (announced.map Prod.snd).getD 0 }
        let i : TrunkInterface := s.trunk.reach origin
        t.trunk = { i with
          window := if s.cycle.timing = .leading then .settled else if i.busy then .own else .awaiting,
          slots := [], ownSlots := [], earlyWalk := [], hearsFrom := none,
          late := (s.sched.active.entries.filter (fun e => walks s c e && e.isCyclic &&
              s.trunk.slots.all (fun r => r.start != e.start) && s.trunk.ownSlots.all (fun o => o.start != e.start) &&
              decide (c.length < e.start + 4 + 74))).map
            (fun e => { entry := e, opened := c.origin + BitVec.ofNat 32 e.start - 4, record := none }),
          sending := if s.cycle.timing = .leading then some { since := origin, bytes := frame.bytes } else i.sending,
          txen := if s.cycle.timing = .leading then true else i.txen }) ∧
      (∀ epoch n entries, s.sched.staged = .armed epoch n entries number → switched epoch n entries .onTime) ∧
      (∀ epoch n entries, s.sched.staged = .closed epoch n entries → s.sched.adoption = true →
        switched epoch n entries .late) ∧
      ((∀ epoch n entries, s.sched.staged ≠ .armed epoch n entries number) →
        (s.sched.staged.state = .closed → s.sched.adoption = false) →
        t.sched = { s.sched with adoption := false,
                                 takeUp := if s.sched.takeUp = .awaitsCycle then .done else s.sched.takeUp } ∧
        t.channels = s.channels.map (fun o => o.map (fun k => match k.direction with
          | .produce (some age) => { k with direction := .produce (some (min 255 (age + 1))) }
          | _ => k)) ∧
        given []) ∧
      t.rx = { s.rx with
        places := s.rx.places.map (fun o => o.bind (fun x =>
          if 64 ≤ x.idle + 1 then none else some { x with idle := x.idle + 1 })),
        free := s.rx.free + (lapsed.map (fun x => (x.data.length + 63) / 64)).sum,
        records := (s.rx.records.map (fun r => { r with count := r.count + 1 })).filter (fun r => r.count < 64) }

/-- R102, R114, R117: the transmit message unit at a CYCLE_START: the counts of the message in flight advance, and a limit
ends it or makes it ABORTING, STARVED before CONTENTION, with its blocks given back and the room watch examined; an ABORTING
message leaves at its sixteenth attempt; nothing else changes. The notices stand in `CycleStartEffects`. -/
def Obligations.CycleStartCountsMessage : Prop :=
  ∀ (c : CycleNow) (s : State), s.current = some c →
    ∃ t, exec .cycleStart s = .next t ∧ (s.tx.queue = [] → t.tx = s.tx) ∧
      ∀ m rest, s.tx.queue = m :: rest →
      (m.state = .waiting → t.tx = s.tx) ∧
      (∀ r, m.state = .inFlight r →
        let starve := if min (40 * (r.next + 1)) m.total ≤ m.data.length then 0 else r.starve + 1
        let r' := { r with sinceWon := r.sinceWon + 1, starve := starve }
        if starve < 32 ∧ r.sinceWon + 1 < 48 then
          t.tx = { s.tx with queue := { m with state := .inFlight r' } :: rest }
        else
          let reason : FailReason := if 32 ≤ starve then .starved else .contention
          let state : MessageState := .aborting { r' with abortPending := false } reason 0
          t.tx = { s.tx with
            queue := if r.next = 0 then rest else { m with data := m.data.take m.sent, state := state } :: rest,
            free := s.tx.free + m.blocks,
            roomWatch := s.tx.roomWatch && !(decide (0 < m.blocks) && decide (4 ≤ s.tx.free + m.blocks)) }) ∧
      ∀ r reason k, m.state = .aborting r reason k →
        t.tx = { s.tx with
          queue := if 16 ≤ k + 1 then rest else { m with state := .aborting r reason (k + 1) } :: rest }

/-- CLAIM_WINDOW_EXPIRES (R23, R26, R27, R87), at which the node leads with MASTER_LEADING and its first cycle start frame:
the cycle start is that of a node `led` that leads already, in a cycle that ends with the claim window, so that
`CycleStartEffects` and `CycleStartCountsMessage` state its effects on every unit, its notices after MASTER_LEADING and the
announcement. And the rows named after what comes about inside a cycle start (R28, R114, R117, R133, R135): each of these is,
at a synchronised node, the cycle start at which its limit is reached, whose effects are those of CYCLE_START, and leaves any
other state as it is, which is the model's choice (log entries 3 and 4). That the line clock stands at the window's end is log
entry 5; the slots that wait for a late frame are log entry 12. -/
def Obligations.ClaimAndNamedCycleStarts : Prop :=
  (∀ (r : ClaimRecord) (s : State), s.cycle.timing = .claiming → s.cycle.claim = some r →
    let number : Word := match r.lastHigher with
      | some n => n + 1
      | none => 0
    let leading (now : CycleNow) : CycleUnit :=
      { s.cycle with timing := .leading, now := some now, missCount := 0, phaseError := 0, lastMaster := s.cycle.address,
                     listenOnly := false, claim := none, run := none, conflict := none }
    let led : State := { s with
      cycle := leading { number := number - 1, origin := r.opened, length := 60000 },
      notices := (giveNotice (.masterLeading .claim number)
        { s with cycle := leading { number := number, origin := r.opened + 60000, length := 60000 } }).notices }
    ∃ v t, exec .cycleStart led = .next v ∧ exec .claimWindowExpires s = .next t ∧
      t = { v with trunk := { v.trunk with late := s.trunk.late } } ∧
      let now := { number := number, origin := r.opened + 60000, length := t.activeLength }
      t.cycle = leading now ∧
      t.trunk.lineClock = r.opened + 60000 ∧ t.trunk.txen = true ∧
      ∃ f : CycleStartFrame, t.trunk.sending = some { since := r.opened + 60000, bytes := f.bytes } ∧
        f.source = s.cycle.address ∧ f.number = number ∧ f.epoch = t.sched.active.epoch ∧ f.length = now.length) ∧
  ∀ s : State,
    let named (c : Instr) (reached : Prop) : Prop :=
      (reached → s.current.isSome → ∃ t, exec c s = .next t ∧ exec .cycleStart s = .next t ∧
        t.current.map (·.number) = s.current.map (fun now => now.number + 1)) ∧
      (¬ reached → exec c s = .next s)
    let flying (test : Message → InFlight → Prop) : Prop := ∃ m r, s.tx.queue.head? = some m ∧ m.state = .inFlight r ∧
      test m r
    let short (m : Message) (r : InFlight) : Prop := m.data.length < min (40 * (r.next + 1)) m.total
    named .conflictEpisodeEnd (s.cycle.timing = .leading ∧ ∃ n, s.cycle.conflict = some n ∧ 8 ≤ n + 1) ∧
    named .messageStarved (flying (fun m r => short m r ∧ 32 ≤ r.starve + 1)) ∧
    named .messageContention (flying (fun m r => ¬ (short m r ∧ 32 ≤ r.starve + 1) ∧ 48 ≤ r.sinceWon + 1)) ∧
    named .abortAttemptsExhausted (∃ m r reason k, s.tx.queue.head? = some m ∧ m.state = .aborting r reason k ∧
      16 ≤ k + 1) ∧
    named .contextTimeout (∃ c, some c ∈ s.rx.places ∧ 64 ≤ c.idle + 1) ∧
    named .completionRecordLapse (∃ r ∈ s.rx.records, 64 ≤ r.count + 1)

/-! ### Following a master -/

/-- CYCLE_START_WINDOW_CLOSES, SYNC_LOST and TAKEOVER, and a window's frame that is given up, of another kind or not usable
(R7, R24, R32, R34): a missed cycle start; the eighth sends a member to HUNTING, and a deferring master leads. That SYNC_LOST
and TAKEOVER are the closing of the window, when it is the eighth miss of a node of their role, and else leave the state as
it is, are log entries 3 and 4; the line clock is log entry 5. That a window whose frame is the node's own is one of these is
judged as log entry 12 says; that a frame begun before GO_ONLINE is not heard, and `hearsFrom`, are log entry 18. -/
def Obligations.MissedCycleStartResult : Prop :=
  ∀ (c : CycleNow) (s : State), (s.cycle.timing = .locked ∨ s.cycle.timing = .holdover) → s.cycle.now = some c →
    let missed (v : State) : State :=
      let u : State :=
        { v with cycle := { s.cycle with timing := .holdover, missCount := s.cycle.missCount + 1 } }
      if s.cycle.missCount + 1 < 8 then u
      else match s.cycle.role with
        | .member => depart .hunting [.syncLost s.cycle.lastMaster] none u
        | .master => giveNotice (.masterLeading .takeover c.number)
          { u with cycle := { u.cycle with timing := .leading, missCount := 0, phaseError := 0,
                                           lastMaster := s.cycle.address, listenOnly := false, claim := none,
                                           run := none, conflict := none } }
    (s.trunk.window ≠ .settled →
      let absent := (missed { s with trunk := { s.trunk.reach (c.origin + 2) with window := .settled } }).setAttn
      let eighth := 8 ≤ s.cycle.missCount + 1
      exec .cycleStartWindowCloses s = .next absent ∧
      exec .syncLost s = .next (if eighth ∧ s.cycle.role = .member then absent else s) ∧
      exec .takeover s = .next (if eighth ∧ s.cycle.role = .master then absent else s)) ∧
    ∀ (stamp : Word) (bytes : List Byte) (late : Int), s.trunk.window = .awaiting → -2 ≤ late → late ≤ 2 →
      stamp = c.origin + BitVec.ofInt 32 late → begunUnheard s stamp bytes = false →
      let u : TrunkInterface := { s.trunk.reach (stamp + BitVec.ofNat 32 (readTime bytes)) with
        hearsFrom := none, window := .settled }
      let leaves (x : TrunkInterface) : Prop :=
        exec (.trunkFrameReceived stamp bytes) s = .next (missed { s with trunk := x }).setAttn
      (judge bytes = .malformed → leaves { u with malformed := bump u.malformed }) ∧
      (judge bytes = .crcError → leaves { u with crcErrors := bump u.crcErrors }) ∧
      (∀ f, judge bytes = .good (.cyclic f) → leaves { u with stray := bump u.stray }) ∧
      (∀ f, judge bytes = .good (.segment f) → leaves { u with stray := bump u.stray }) ∧
      (∀ f, judge bytes = .good (.cycleStart f) → f.length < 250 ∨ 25000 < f.length → leaves u)

/-- TRUNK_FRAME_RECEIVED and SYNC_LOCKED with a usable cycle start frame, by timing state (R8, R25, R28 to R31, R33, R35, R66
to R71, R74, R75): a claiming or leading master yields to a lower address, records a higher number, or opens or continues a
conflict episode; a hunting node builds its candidate run and locks on the third frame; in LOCKED and HOLDOVER the window's
frame of the expected number is accepted, one of another number and any frame outside the window is a jump. An accepted
frame sets or clears listen-only by the comparison with the ACTIVE bank, then the schedule unit arms, re-arms, disarms, stays
unready or marks an adoption, with its notices. `heeds x` is the schedule unit x after the frame and `announces x` what it
gives notice of. At the lock the first cycle start is that of a node `joined` that is LOCKED already, in a cycle that ends
there, so that `CycleStartEffects` and `CycleStartCountsMessage` state what it does to the channels and the message units and
its notices. That SYNC_LOCKED is the received frame is log entry 4, the line clock entry 5, a segment not begun entry 7, the
entries judged by the former length entry 12, `takeUp` entry 17, the frames that are heard entry 18, any source entry
21. -/
def Obligations.CycleStartFramesFollowed : Prop :=
  ∀ (f : CycleStartFrame) (stamp : Word) (s : State), 250 ≤ f.length → f.length ≤ 25000 →
    (f.announces = false → f.announcedEpoch = 0 ∧ f.activation = 0) → begunUnheard s stamp f.bytes = false →
    let received := exec (.trunkFrameReceived stamp f.bytes) s
    let u : State := { s with trunk := { s.trunk.reach (stamp + 22) with hearsFrom := none } }
    let first : CandidateRun :=
      { count := 1, source := f.source, number := f.number, length := f.length, stamp := stamp }
    let yields : Prop := received = .next (depart .hunting [.masterYielded f.source] (some first)
      { u with cycle := { u.cycle with lastMaster := f.source } }).setAttn
    let jumps (reason : JumpReason) : Prop :=
      received = .next (depart .hunting [.syncJump reason f.source] (some first) u).setAttn
    let valid : Bool := f.announces && decide (1 ≤ (f.activation - f.number).toNat) &&
      decide ((f.activation - f.number).toNat ≤ 65535)
    let pair : Option EpochCycle := some { epoch := f.announcedEpoch, cycle := f.activation }
    let heeds (x : ScheduleUnit) : ScheduleUnit :=
      let y : ScheduleUnit := match valid, x.staged with
        | true, .closed own n entries =>
          if own = f.announcedEpoch then
            { x with staged := .armed own n entries f.activation, unready := none, adoption := false }
          else { x with unready := pair }
        | true, .armed own n entries _ =>
          if own = f.announcedEpoch then { x with staged := .armed own n entries f.activation }
          else { x with staged := .closed own n entries, unready := pair }
        | true, .empty | true, .editing _ _ => { x with unready := pair }
        | false, .armed own n entries _ => { x with staged := .closed own n entries, unready := none }
        | false, .empty | false, .editing _ _ | false, .closed _ _ _ => { x with unready := none }
      match y.staged with
      | .closed own n _ =>
        { y with adoption := y.adoption || (own == f.epoch && n == f.length && y.active.epoch != f.epoch) }
      | .empty | .editing _ _ | .armed _ _ _ _ => y
    let announces (x : ScheduleUnit) : List NoticeBody := match valid, x.staged with
      | true, .closed own _ _ =>
        if own = f.announcedEpoch then [.activationArmed own f.activation .announcement]
        else if x.unready = pair then []
        else [.activationUnready f.announcedEpoch f.activation .closed (some own) false]
      | true, .armed own _ _ cycle =>
        if own ≠ f.announcedEpoch then [.activationUnready f.announcedEpoch f.activation .closed (some own) true]
        else if cycle = f.activation then [] else [.activationArmed own f.activation .rearm]
      | true, .empty | true, .editing _ _ =>
        if x.unready = pair then [] else [.activationUnready f.announcedEpoch f.activation x.staged.state none false]
      | false, .armed own _ _ cycle => [.activationWithdrawn own cycle .notAnnounced]
      | false, .empty | false, .editing _ _ | false, .closed _ _ _ => []
    let differs (t : State) : Bool := f.epoch != t.sched.active.epoch || f.length != t.activeLength
    let listens (t : State) : List NoticeBody :=
      if differs t then
        if s.cycle.listenOnly then []
        else [.scheduleMismatch f.epoch f.length t.sched.active.epoch t.activeLength]
      else if s.cycle.listenOnly then [.scheduleMatch f.epoch] else []
    let takesUp (t : State) (x : ScheduleUnit) : ScheduleUnit :=
      if s.cycle.listenOnly = true ∧ differs t = false ∧ x.takeUp ≠ .done then { x with takeUp := .awaitsCycle } else x
    (s.cycle.timing = .claiming →
      (f.source < s.cycle.address → yields) ∧
      ∀ r, s.cycle.address ≤ f.source → s.cycle.claim = some r → received = .next (State.setAttn
        { u with cycle := { u.cycle with claim := some { r with lastHigher := some f.number } } })) ∧
    (s.cycle.timing = .leading → s.cycle.now.isSome →
      (f.source < s.cycle.address → yields) ∧
      (s.cycle.address ≤ f.source → ∃ t, received = .next t ∧
        t = { u with
          cycle := { s.cycle with conflict := some 0 },
          notices := if s.cycle.conflict.isSome then s.notices else (giveNotice (.masterConflict f.source) s).notices,
          trunk := { u.trunk with slots := t.trunk.slots, late := t.trunk.late },
          link := { s.link with attn := t.link.attn } })) ∧
    (s.cycle.timing = .hunting →
      let runs (r : CandidateRun) : Prop :=
        received = .next (State.setAttn { u with cycle := { u.cycle with run := some r } })
      (s.cycle.run = none → runs first) ∧
      ∀ r, s.cycle.run = some r →
        let spacing := (stamp - r.stamp).toNat
        let follows := f.source = r.source ∧ f.number = r.number + 1 ∧ r.length ≤ spacing + 2 ∧ spacing ≤ r.length + 2
        (¬ follows → runs first) ∧ (follows → r.count < 2 → runs { first with count := r.count + 1 }) ∧
        (follows → 2 ≤ r.count →
          let locked (now : CycleNow) : CycleUnit :=
            { s.cycle with timing := .locked, now := some now, lastMaster := f.source,
                           phaseError := (spacing : Int) - r.length, missCount := 0, run := none }
          let now : CycleNow := { number := f.number, origin := stamp, length := f.length }
          let joined : State := { s with
            cycle := locked { now with number := f.number - 1, origin := stamp - BitVec.ofNat 32 f.length },
            notices := (giveNotice (.syncLocked f.source f.length) { s with cycle := locked now }).notices }
          ∃ v t, exec .cycleStart joined = .next v ∧ received = .next t ∧
            exec (.syncLocked stamp f.bytes) s = .next t ∧
            t = { v with
              cycle := { locked now with listenOnly := differs t },
              sched := takesUp t (heeds v.sched),
              notices := (giveNotices (listens t ++ announces v.sched) v).notices,
              trunk := { u.trunk with
                window := .settled, slots := [], ownSlots := [], late := [], earlyWalk := [],
                segment := u.trunk.segment.filter (fun g => match g.way with
                  | .sends _ => true
                  | .waits _ | .silent _ => false) },
              link := { s.link with attn := t.link.attn } })) ∧
    (∀ c : CycleNow, (s.cycle.timing = .locked ∨ s.cycle.timing = .holdover) → s.cycle.now = some c →
      ((s.trunk.window = .awaiting → (stamp - c.origin).toInt < -2 ∨ 2 < (stamp - c.origin).toInt) → jumps .phase) ∧
      ∀ late : Int, s.trunk.window = .awaiting → -2 ≤ late → late ≤ 2 → stamp = c.origin + BitVec.ofInt 32 late →
        (f.number ≠ c.number → jumps .number) ∧
        (f.number = c.number → ∃ t, received = .next t ∧
          t = { u with
            trunk := { u.trunk with
              window := .settled,
              earlyWalk := (s.sched.active.entries.filter (fun e => decide ((e.start : Int) - 4 < late + 22))).map
                (fun e => { start := e.start, walked := decide (e.finish + 8 ≤ c.length) }) },
            cycle := { s.cycle with
              timing := .locked, now := some { number := f.number, origin := stamp, length := f.length },
              lastMaster := f.source, phaseError := late, missCount := 0, listenOnly := differs t },
            sched := takesUp t (heeds s.sched), notices := t.notices,
            link := { s.link with attn := t.link.attn } } ∧
          t.notices = (giveNotices (listens t ++ announces s.sched) s).notices))

/-- TRUNK_FRAME_RECEIVED (R3, R5, R7, R8, R9, R11, R15, R16, R17, R24): a frame is not received in OFFLINE, nor when it began
before the node went ONLINE (log entry 18); one that fails a check counts once, in MALFORMED or CRC_ERRORS, and one frame adds
at most one to these and STRAY together. Good frames of the other two kinds are discarded in CLAIMING and HUNTING. At a
synchronised node the first frame of a walked slot's window is the slot's, given up or not: a cyclic frame is held in a CYCLIC
slot and a segment handed in an OPEN slot; a frame of another kind, a later one and one outside every window count in STRAY.
A good cycle start frame that is not the window's and not usable does nothing beyond this; what a usable one does is
`CycleStartFramesFollowed`. An own frame is its slot's frame (log entry 15), and a frame that began in a CYCLIC slot of the
cycle before is that slot's (log entry 12). The line clock is log entry 5. -/
def Obligations.ReceivedFramesCounted : Prop :=
  ∀ (stamp : Word) (bytes : List Byte) (s : State), (s.cycle.timing.synchronised = true → s.cycle.now.isSome) →
    let received := exec (.trunkFrameReceived stamp bytes) s
    let isGood : Prop := (∃ f, judge bytes = .good (.cyclic f)) ∨ ∃ f, judge bytes = .good (.segment f)
    let read : Word := stamp + BitVec.ofNat 32 (readTime bytes)
    let u : State := { s with trunk := { s.trunk.reach read with hearsFrom := none } }
    let stray (v : State) : State := { v with trunk := { v.trunk with stray := bump v.trunk.stray } }
    let malformed (v : State) : State := { v with trunk := { v.trunk with malformed := bump v.trunk.malformed } }
    let crcError (v : State) : State := { v with trunk := { v.trunk with crcErrors := bump v.trunk.crcErrors } }
    let leaves (v : State) : Prop :=
      (judge bytes = .malformed → received = .next (malformed v).setAttn) ∧
      (judge bytes = .crcError → received = .next (crcError v).setAttn) ∧
      ∀ f, judge bytes = .good (.cycleStart f) →
        (f.length < 250 ∨ 25000 < f.length → received = .next v.setAttn) ∧
        (250 ≤ f.length → f.length ≤ 25000 → s.cycle.timing = .leading → s.cycle.address ≤ f.source →
          ∃ t, received = .next t ∧ t.trunk = v.trunk)
    (s.cycle.timing = .offline → received = .next s) ∧
    (∀ online, s.trunk.hearsFrom = some online → 0 < (online - stamp).toNat → (online - stamp).toNat ≤ bytes.length →
      received = .next s) ∧
    (s.cycle.timing ≠ .offline → begunUnheard s stamp bytes = false →
      (∃ t, received = .next t ∧ t.trunk.lineClock = read ∧ t.trunk.hearsFrom = none ∧
        (judge bytes = .malformed → t.trunk.malformed = bump s.trunk.malformed ∧
          t.trunk.crcErrors = s.trunk.crcErrors ∧ t.trunk.stray = s.trunk.stray) ∧
        (judge bytes = .crcError → t.trunk.crcErrors = bump s.trunk.crcErrors ∧
          t.trunk.malformed = s.trunk.malformed ∧ t.trunk.stray = s.trunk.stray) ∧
        (∀ f, judge bytes = .good f → t.trunk.malformed = s.trunk.malformed ∧
          t.trunk.crcErrors = s.trunk.crcErrors ∧
          (t.trunk.stray = s.trunk.stray ∨ t.trunk.stray = bump s.trunk.stray))) ∧
      (s.cycle.timing = .claiming ∨ s.cycle.timing = .hunting → leaves u ∧ (isGood → received = .next u.setAttn)) ∧
      ∀ c, s.current = some c → s.sched.active.sound →
        let pos := (stamp - c.origin).toInt
        (s.cycle.timing = .leading ∨ s.trunk.window ≠ .awaiting ∨ pos < -2 ∨ 2 < pos) →
        (∀ before l after, s.trunk.late = before ++ l :: after → l.record = none → (stamp - l.opened).toNat ≤ 8 →
          (∀ x ∈ before, x.record = none → 8 < (stamp - x.opened).toNat) →
          let record (held : Option CyclicFrame) : SlotRecord := { start := l.entry.start, held := held, ended := read }
          let has (held : Option CyclicFrame) : State := { u with trunk := { u.trunk with
            late := s.trunk.late.map (fun x => if x = l then { l with record := some (record held) } else x) } }
          leaves (has none) ∧
          (∀ f, judge bytes = .good (.cyclic f) → received = .next (has (some f)).setAttn) ∧
          (∀ f, judge bytes = .good (.segment f) → received = .next (stray (has none)).setAttn)) ∧
        ((∀ l ∈ s.trunk.late, l.record = none → 8 < (stamp - l.opened).toNat) →
          ((∀ e ∈ s.sched.active.entries, walks s c e = true → pos < (e.start : Int) - 4 ∨ (e.start : Int) + 4 < pos) →
            leaves u ∧ (isGood → received = .next (stray u).setAttn)) ∧
          ∀ e ∈ s.sched.active.entries, walks s c e = true → (e.start : Int) - 4 ≤ pos → pos ≤ (e.start : Int) + 4 →
            let taken : Prop := (∃ r ∈ s.trunk.slots, r.start = e.start) ∨
              ∃ o ∈ s.trunk.ownSlots, o.start = e.start ∧ 0 ≤ (stamp - o.since).toInt
            let has (held : Option CyclicFrame) : State := { u with trunk := { u.trunk with
              slots := { start := e.start, held := held, ended := read } :: s.trunk.slots } }
            (taken → leaves u ∧ (isGood → received = .next (stray u).setAttn)) ∧
            (¬ taken → leaves (has none) ∧
              (∀ f, judge bytes = .good (.cyclic f) →
                received = .next (if e.isCyclic then has (some f) else stray (has none)).setAttn) ∧
              ∀ f, judge bytes = .good (.segment f) → received =
                .next (if e.isCyclic then stray (has none) else receiveSegment c.number f (has none)).setAttn)))

/-! ### Slots -/

/-- CYCLIC_SLOT_START (R10, R36, R75, R88), OWN_FRAME_SENT and OWN_FRAME_MISMATCH (R4, R16): in a walked slot of its own the
node sends the value and age of the channel that is bound to the label, and nothing else; how the frame ends, with TXEN
negated unless a segment is on the line by then, also when a GO_OFFLINE or a node reset waited for that. The line clock is log entry 5; that DISTURBED counts in the synchronised states
and while a change waits is log entry 7; `ownSlots` log entry 15; `takeUp` log entry 17. -/
def Obligations.OwnCyclicFrames : Prop :=
  (∀ (c : CycleNow) (e : Entry) (n payload : Nat) (label : Byte) (s : State), s.current = some c →
    e ∈ s.sched.active.entries → (s.sched.active.entries.map (·.start)).Nodup → walks s c e = true →
    e.slot = .cyclic n s.cycle.address label payload →
    let since := c.origin + BitVec.ofNat 32 e.start
    let permitted := s.cycle.timing = .leading ∨
      (s.cycle.timing.following = true ∧ s.cycle.listenOnly = false ∧ s.sched.takeUp ≠ .awaitsCycle)
    (∀ (k : Nat) (ch : Channel) (v : List Byte) (age : Nat), s.channels[k]? = some (some ch) →
      (s.channels.filterMap (fun o => o.map (·.label))).Nodup → ch.label = label →
      ch.resolution = .resolved → ch.value = some v → ch.direction = .produce (some age) → permitted →
      let frame : CyclicFrame := { source := s.cycle.address, label := label, age := byteOf age, payload := v }
      exec (.cyclicSlotStart e.start) s = .next (State.setAttn { s with trunk := { s.trunk.reach since with
        txen := true, ownSlots := { start := e.start, since := since } :: s.trunk.ownSlots,
        sending := some { since := since, bytes := frame.bytes } } })) ∧
    (¬ permitted ∨ (∀ ch : Channel, some ch ∈ s.channels → ch.label = label →
        ch.resolution ≠ .resolved ∨ ch.value = none ∨ ∀ age, ch.direction ≠ .produce (some age)) →
      exec (.cyclicSlotStart e.start) s =
        .next (State.setAttn { s with trunk := s.trunk.reach since }))) ∧
  ∀ (f : OwnFrame) (s : State), s.trunk.sending = some f →
    let ended (x : TrunkInterface) : State := State.setAttn { s with
      trunk := if x.segment.any (fun g => match g.way with
            | .sends _ => true
            | .waits _ | .silent _ => false) then { x with sending := none }
        else if s.trunk.deferred = some .nodeReset then State.reset.trunk
        else { x with sending := none, txen := false, deferred := none } }
    let counts := s.cycle.timing.synchronised = true ∨ s.trunk.deferred ≠ none
    exec .ownFrameSent s = .next (ended (s.trunk.reach (f.since + BitVec.ofNat 32 f.bytes.length))) ∧
    exec .ownFrameMismatch s =
      .next (ended { s.trunk with disturbed := if counts then bump s.trunk.disturbed else s.trunk.disturbed })

/-- CYCLIC_SLOT_END and CHANNEL_LOST (R11, R89 to R92): the frame of the slot, if it is in place, is accepted by the RESOLVED
consume channel bound to the label; without one the channel misses, and at its miss limit it is LOST; CHANNEL_STATE for the
changes that R92 names; WRONG_SLOT for a frame out of place whose label is the entry's or a bound one. The slot end is
handed when the slot's last byte time has passed, or when its frame ends or is given up if that is later, for a frame that
runs past the cycle in the cycle that follows (log entry 12). An in-place frame has the channel's length (R79, R83), but for
one of the cycle before whose bank has been replaced, which is not accepted then (log entry 12). That CHANNEL_LOST is the slot end at which the channel is lost, and else
leaves the state as it is, are log entries 3 and 4; the line clock is log entry 5. -/
def Obligations.ConsumeChannelsEvaluated : Prop :=
  ∀ (c : CycleNow) (e : Entry) (n payload : Nat) (owner label : Byte) (s : State), s.current = some c →
    e.slot = .cyclic n owner label payload → (s.channels.filterMap (fun o => o.map (·.label))).Nodup →
    let ended := exec (.cyclicSlotEnd e.start) s
    let later (slotEnd : Word) (r : Option SlotRecord) : Word := match r with
      | some r => if 0 < (r.ended - slotEnd).toInt then r.ended else slotEnd
      | none => slotEnd
    let consumed (ch : Channel) : Prop := ch.label = label ∧ ch.resolution = .resolved ∧ ∃ d, ch.direction = .consume d
    let evaluated (frame : Option CyclicFrame) (t : State) : Prop :=
      let placed (f : CyclicFrame) : Prop := f.label = label ∧ f.source = owner ∧ f.payload.length = payload
      let accepted (ch : Channel) (f : CyclicFrame) : Prop := placed f ∧ f.payload.length = ch.length
      let bound (l : Byte) : Prop := ∃ ch, some ch ∈ s.channels ∧ ch.label = l
      ((∃ f, frame = some f ∧ ¬ placed f ∧ (f.label = label ∨ bound f.label)) →
        t.trunk.wrongSlot = bump s.trunk.wrongSlot) ∧
      ((∀ f, frame = some f → placed f ∨ (f.label ≠ label ∧ ¬ bound f.label)) →
        t.trunk.wrongSlot = s.trunk.wrongSlot) ∧
      ((∀ ch, some ch ∈ s.channels → ¬ consumed ch) → t.channels = s.channels ∧ t.notices = s.notices ∧
        exec (.channelLost e.start) s = .next s) ∧
      ∀ (k : Nat) (ch : Channel) (d : Consume), s.channels[k]? = some (some ch) → ch.label = label →
        ch.resolution = .resolved → ch.direction = .consume d →
        let told (state : ConsumeState) (count : Nat) (age : Option Byte) : Prop :=
          t.notices = if ch.report = true ∧ ((state = .lost ∧ d.state ≠ .lost) ∨
              (state = .staleSource ∧ d.state ≠ .staleSource) ∨
              (state = .fresh ∧ (d.state = .lost ∨ d.state = .staleSource))) then
            (giveNotice (.channelState k label .freshness .resolved (some
              { newState := state, before := d.state, missCount := count, age := age })) s).notices
          else s.notices
        (∀ f, frame = some f → accepted ch f →
          let state : ConsumeState := if d.staleLimit ≠ 0 ∧ d.staleLimit < f.age then .staleSource else .fresh
          exec (.channelLost e.start) s = .next s ∧ told state 0 (some f.age) ∧
          t.channels = s.channels.set k (some { ch with value := some f.payload, direction := .consume { d with
            state := state, missCount := 0, received := some { cycle := c.number, age := f.age } } })) ∧
        ((∀ f, frame = some f → ¬ accepted ch f) →
          let count := if d.state = .missed then d.missCount + 1 else 1
          let state : ConsumeState := if d.missLimit ≤ count then .lost else .missed
          let misses := d.state = .missed ∨ d.state = .fresh ∨ d.state = .staleSource
          (misses → told state count none ∧ t.channels = s.channels.set k (some { ch with
            direction := .consume { d with state := state, missCount := count } })) ∧
          (¬ misses → t.channels = s.channels ∧ t.notices = s.notices) ∧
          exec (.channelLost e.start) s = .next (if misses ∧ d.missLimit ≤ count then t else s))
    (e ∈ s.sched.active.entries → (s.sched.active.entries.map (·.start)).Nodup → walks s c e = true →
      (∀ l ∈ s.trunk.late, l.entry.start = e.start → l.record = none) →
      let slotRecord := s.trunk.slots.find? (fun r => r.start == e.start)
      ∃ t, ended = .next t ∧
        t.trunk.lineClock = later (c.origin + BitVec.ofNat 32 (e.start + n)) slotRecord ∧
        evaluated (if s.trunk.ownSlots.any (fun o => o.start == e.start) then none
          else slotRecord.bind (·.held)) t) ∧
    ∀ before l after r, s.trunk.late = before ++ l :: after → l.entry = e → l.record = some r →
      (∀ x ∈ before, x.entry.start = e.start → x.record = none) →
      ∃ t, ended = .next t ∧ l ∉ t.trunk.late ∧
        t.trunk.lineClock = later (l.opened + BitVec.ofNat 32 (4 + n)) (some r) ∧ evaluated r.held t

/-- OPEN_SLOT_WINDOW_OPENS (R12, R36, R75, R103, R109 to R111): with permission, a class that clears the floor and a segment
that is supplied, the first message of the queue contends and is IN_FLIGHT; else the node listens. The four ways to contend:
the interface joins a lead seen in the window, begins its own lead at the slot's start or, within the window, once the line
is quiet, or does not send and takes LOST at the slot's start (line busy) or at the window's close. The step stands at the
opening of the window, 4 byte times before the slot's start: a segment begins there only with a lead seen at that instant,
else when the line clock comes to its first bit (`StepRunsFrontCommand`), and TXEN is asserted from then on. That what the
line shows is an operand is log entry 7; the line clock is log entry 5, `ownSlots` log entry 15, `takeUp` log entry 17. -/
def Obligations.OpenSlotAsked : Prop :=
  ∀ (c : CycleNow) (e : Entry) (floor : Nat) (line : OpenLine) (s : State), s.current = some c →
    e ∈ s.sched.active.entries → (s.sched.active.entries.map (·.start)).Nodup → walks s c e = true →
    e.slot = .openSlot floor → s.trunk.segment = none →
    let own := c.origin + BitVec.ofNat 32 e.start
    let asked := exec (.openSlotWindowOpens { start := e.start, line := line }) s
    let listens : Prop := asked = .next (State.setAttn { s with trunk := { s.trunk with lineClock := own - 4 } })
    let contends (f : SegmentFrame) (m' : Message) (o : OnLine) (way : Contention) (txen : Bool) (slots : List OwnSlot) :
        Prop :=
      asked = .next (State.setAttn { s with
        trunk := { s.trunk with
          lineClock := own - 4, segment := some { bytes := f.bytes, start := e.start, way := way }, txen := txen,
          ownSlots := slots ++ s.trunk.ownSlots },
        tx := { s.tx with queue := m' :: s.tx.queue.drop 1, onLine := some o } })
    let sends (f : SegmentFrame) (m' : Message) (o : OnLine) (since : Word) : Prop :=
      contends f m' o (if since = own - 4 then .sends since else .waits since)
        (s.trunk.txen || since == own - 4) [{ start := e.start, since := since }]
    let silent (f : SegmentFrame) (m' : Message) (o : OnLine) (lostAt : Word) : Prop :=
      contends f m' o (.silent lostAt) s.trunk.txen []
    let offers (f : SegmentFrame) (m' : Message) (o : OnLine) : Prop :=
      (∀ after, line = .leadSeen after → after < 4 → sends f m' o (own - 4 + BitVec.ofNat 32 after)) ∧
      (line = .quiet → sends f m' o own) ∧ (line = .busy → silent f m' o own) ∧
      ∀ after, line = .quietAfter after → (after ≤ 4 → sends f m' o (own + BitVec.ofNat 32 after)) ∧
        (4 < after → silent f m' o (own + 4))
    let permitted := s.cycle.timing = .leading ∨
      (s.cycle.timing = .locked ∧ s.cycle.listenOnly = false ∧ s.sched.takeUp ≠ .awaitsCycle)
    (s.tx.queue = [] → listens) ∧
    ∀ m rest, s.tx.queue = m :: rest →
      let lifted := if m.state = .waiting then m.cls else max m.cls (highestWaiting (m :: rest))
      let key : Byte := BitVec.ofNat 8 ((3 - lifted) * 64) + s.cycle.address
      let part (i : Nat) : SegmentFrame :=
        { key := key, source := s.cycle.address, dest := m.dest, id := m.id, index := i, first := i == 0,
          last := i + 1 == (m.total + 39) / 40, abort := false, cls := m.cls,
          total := if i = 0 then some m.total else none,
          payload := (m.data.take (min (40 * (i + 1)) m.total)).drop (40 * i) }
      let supplied (i : Nat) : Prop := min (40 * (i + 1)) m.total ≤ m.data.length
      let fresh : InFlight := { next := 0, sinceWon := 0, starve := 0, disturbed := 0, abortPending := false }
      (¬ permitted ∨ lifted < floor → listens) ∧
      (permitted → floor ≤ lifted →
        (m.state = .waiting → if supplied 0 then
          offers (part 0) { m with state := .inFlight fresh } { index := 0, abort := false } else listens) ∧
        (∀ r, m.state = .inFlight r → if supplied r.next then
          offers (part r.next) m { index := r.next, abort := false } else listens) ∧
        ∀ r reason k, m.state = .aborting r reason k →
          let stop : SegmentFrame :=
            { key := key, source := s.cycle.address, dest := m.dest, id := m.id, index := r.next, first := false,
              last := false, abort := true, cls := m.cls, total := none, payload := [] }
          offers stop m { index := r.next, abort := true })

/-- SEGMENT_WON, SEGMENT_LOST, SEGMENT_DISTURBED and MESSAGE_TRUNK_FAULT (R12 to R16, R112, R113, R116 to R119): what each
outcome does to a message in flight, with and without an abort pending, to one whose abort segment was on the line, and where
the message has left before the outcome; and to the trunk interface, which then negates TXEN and follows a GO_OFFLINE or node
reset that waited for the segment's end, unless it sends another frame of its own. A segment that the interface does not send
is LOST at the instant of R12 and has no other outcome; that the slot of a LOST segment has had no frame of the node's own is
the model's reading (log entry 15). That MESSAGE_TRUNK_FAULT is the sixteenth DISTURBED, and that other commands leave the state as it is, are log
entries 3 and 4; the line clock is log entry 5; DISTURBED in the synchronised states and while a change waits log entry 7;
the two examinations of the room watch log entry 9. -/
def Obligations.SegmentOutcomesApplied : Prop :=
  ∀ (g : OwnSegment) (s : State), s.trunk.segment = some g →
    let since : Option Word := match g.way with
      | .waits since | .sends since => some since
      | .silent _ => none
    let ended (x : TrunkInterface) : State :=
      { s with
        trunk := if s.trunk.sending.isSome then { x with segment := none }
          else if s.trunk.deferred = some .nodeReset then State.reset.trunk
          else { x with segment := none, txen := false, deferred := none },
        tx := { s.tx with onLine := none } }
    let begun : TrunkInterface := match g.way with
      | .waits first => s.trunk.reach first
      | .sends _ | .silent _ => s.trunk
    let counts := s.cycle.timing.synchronised = true ∨ s.trunk.deferred ≠ none
    let won (act : State → State) : Prop := ∀ first, since = some first → exec .segmentWon s =
      .next (act (ended (s.trunk.reach (first + BitVec.ofNat 32 g.bytes.length)))).setAttn
    let lost (act : State → State) : Prop := exec .segmentLost s = .next (act (ended (match g.way with
      | .waits first | .sends first => { begun with
          ownSlots := s.trunk.ownSlots.filter (fun o => o != { start := g.start, since := first }) }
      | .silent lostAt => { s.trunk with lineClock := lostAt }))).setAttn
    let disturbed (act : State → State) : Prop := since.isSome → exec .segmentDisturbed s = .next (act (ended
      { begun with disturbed := if counts then bump s.trunk.disturbed else s.trunk.disturbed })).setAttn
    (since = none → exec .segmentWon s = .next s ∧ exec .segmentDisturbed s = .next s ∧
      exec .messageTrunkFault s = .next s) ∧
    (s.tx.onLine = none ∨ s.tx.queue = [] → won id ∧ lost id ∧ disturbed id) ∧
    ∀ o m rest, s.tx.onLine = some o → s.tx.queue = m :: rest →
      let aborts (v : State) (m' : Message) (r : InFlight) : State :=
        if r.next = 0 then failFirst m' rest .host false v
        else examineRoom m'.blocks { v with tx := { v.tx with
          queue := { m' with data := m'.data.take m'.sent,
                             state := .aborting { r with abortPending := false } .host 0 } :: rest,
          free := v.tx.free + m'.blocks } }
      (∀ r, m.state = .inFlight r → o.abort = false →
        let next : InFlight := { r with next := r.next + 1, sinceWon := 0, starve := 0, disturbed := 0 }
        let more : Message := { m with sent := min (40 * (r.next + 1)) m.total, state := .inFlight next }
        let hit : InFlight := { r with disturbed := r.disturbed + 1 }
        let again : Message := { m with state := .inFlight hit }
        (r.next + 1 = (m.total + 39) / 40 → won (fun v => examineRoom m.blocks
          (giveNotice (.messageSent m.id m.dest m.cls m.total)
            { v with tx := { v.tx with queue := rest, free := v.tx.free + m.blocks } }))) ∧
        (r.next + 1 ≠ (m.total + 39) / 40 → won (fun v =>
          let w := examineRoom (m.blocks - more.blocks) { v with tx := { v.tx with
            queue := more :: rest, free := v.tx.free + (m.blocks - more.blocks) } }
          if r.abortPending then aborts w more next else w)) ∧
        lost (fun v => if r.abortPending then aborts v m r else v) ∧
        (r.disturbed + 1 < 16 → exec .messageTrunkFault s = .next s ∧
          disturbed (fun v => if r.abortPending then aborts v again hit
            else { v with tx := { v.tx with queue := again :: rest } })) ∧
        (16 ≤ r.disturbed + 1 → disturbed (failFirst m rest .trunkFault false) ∧
          exec .messageTrunkFault s = exec .segmentDisturbed s)) ∧
      ∀ r reason k, m.state = .aborting r reason k → o.abort = true →
        won (failFirst m rest reason true) ∧ lost id ∧ disturbed id ∧ exec .messageTrunkFault s = .next s
end

