-- ==== Sys2Proof/Laws/State.lean ====
section
/-! SUPPORT. For each update of the state, what each field is after it. All hold by rfl, so that no later proof unfolds a
record update. -/

namespace Sys2Proof.Machine

/-! setAttn -/

@[simp] theorem setAttn_link_straps (s : State) : s.setAttn.link.straps = s.link.straps := rfl
@[simp] theorem setAttn_link_rx (s : State) : s.setAttn.link.rx = s.link.rx := rfl
@[simp] theorem setAttn_link_breakLow (s : State) : s.setAttn.link.breakLow = s.link.breakLow := rfl
@[simp] theorem setAttn_link_sel (s : State) : s.setAttn.link.sel = s.link.sel := rfl
@[simp] theorem setAttn_link_buffer (s : State) : s.setAttn.link.buffer = s.link.buffer := rfl
@[simp] theorem setAttn_link_outbound (s : State) : s.setAttn.link.outbound = s.link.outbound := rfl
@[simp] theorem setAttn_link_held (s : State) : s.setAttn.link.held = s.link.held := rfl
@[simp] theorem setAttn_link_attn (s : State) : s.setAttn.link.attn = s.attnLevel := rfl
@[simp] theorem setAttn_trunk (s : State) : s.setAttn.trunk = s.trunk := rfl
@[simp] theorem setAttn_cycle (s : State) : s.setAttn.cycle = s.cycle := rfl
@[simp] theorem setAttn_sched (s : State) : s.setAttn.sched = s.sched := rfl
@[simp] theorem setAttn_channels (s : State) : s.setAttn.channels = s.channels := rfl
@[simp] theorem setAttn_tx (s : State) : s.setAttn.tx = s.tx := rfl
@[simp] theorem setAttn_rx (s : State) : s.setAttn.rx = s.rx := rfl
@[simp] theorem setAttn_notices (s : State) : s.setAttn.notices = s.notices := rfl
@[simp] theorem setAttn_pending (s : State) : s.setAttn.pending = s.pending := rfl

/-! answer -/

@[simp] theorem answer_link_straps (r : Reply) (s : State) : (s.answer r).link.straps = s.link.straps := rfl
@[simp] theorem answer_link_rx (r : Reply) (s : State) : (s.answer r).link.rx = s.link.rx := rfl
@[simp] theorem answer_link_breakLow (r : Reply) (s : State) : (s.answer r).link.breakLow = s.link.breakLow := rfl
@[simp] theorem answer_link_sel (r : Reply) (s : State) : (s.answer r).link.sel = s.link.sel := rfl
@[simp] theorem answer_link_buffer (r : Reply) (s : State) : (s.answer r).link.buffer = answerOldest r s.link.buffer := rfl
@[simp] theorem answer_link_outbound (r : Reply) (s : State) : (s.answer r).link.outbound = s.link.outbound := rfl
@[simp] theorem answer_link_held (r : Reply) (s : State) : (s.answer r).link.held = s.link.held := rfl
@[simp] theorem answer_link_attn (r : Reply) (s : State) : (s.answer r).link.attn = s.link.attn := rfl
@[simp] theorem answer_trunk (r : Reply) (s : State) : (s.answer r).trunk = s.trunk := rfl
@[simp] theorem answer_cycle (r : Reply) (s : State) : (s.answer r).cycle = s.cycle := rfl
@[simp] theorem answer_sched (r : Reply) (s : State) : (s.answer r).sched = s.sched := rfl
@[simp] theorem answer_channels (r : Reply) (s : State) : (s.answer r).channels = s.channels := rfl
@[simp] theorem answer_tx (r : Reply) (s : State) : (s.answer r).tx = s.tx := rfl
@[simp] theorem answer_rx (r : Reply) (s : State) : (s.answer r).rx = s.rx := rfl
@[simp] theorem answer_notices (r : Reply) (s : State) : (s.answer r).notices = s.notices := rfl
@[simp] theorem answer_pending (r : Reply) (s : State) : (s.answer r).pending = s.pending := rfl

/-! atInstant -/

@[simp] theorem atInstant_trunk_lineClock (t : Word) (s : State) : (s.atInstant t).trunk.lineClock = t := rfl
@[simp] theorem atInstant_trunk_crcErrors (t : Word) (s : State) : (s.atInstant t).trunk.crcErrors = s.trunk.crcErrors := rfl
@[simp] theorem atInstant_trunk_malformed (t : Word) (s : State) : (s.atInstant t).trunk.malformed = s.trunk.malformed := rfl
@[simp] theorem atInstant_trunk_wrongSlot (t : Word) (s : State) : (s.atInstant t).trunk.wrongSlot = s.trunk.wrongSlot := rfl
@[simp] theorem atInstant_trunk_stray (t : Word) (s : State) : (s.atInstant t).trunk.stray = s.trunk.stray := rfl
@[simp] theorem atInstant_trunk_disturbed (t : Word) (s : State) : (s.atInstant t).trunk.disturbed = s.trunk.disturbed := rfl
@[simp] theorem atInstant_trunk_txen (t : Word) (s : State) : (s.atInstant t).trunk.txen = (s.trunk.txen || s.trunk.segment.any (fun g => g.beginsBy (t))) := rfl
@[simp] theorem atInstant_trunk_sending (t : Word) (s : State) : (s.atInstant t).trunk.sending = s.trunk.sending := rfl
@[simp] theorem atInstant_trunk_segment (t : Word) (s : State) : (s.atInstant t).trunk.segment = s.trunk.segment.map (fun g => g.asOf t) := rfl
@[simp] theorem atInstant_trunk_deferred (t : Word) (s : State) : (s.atInstant t).trunk.deferred = s.trunk.deferred := rfl
@[simp] theorem atInstant_trunk_hearsFrom (t : Word) (s : State) : (s.atInstant t).trunk.hearsFrom = s.trunk.hearsFrom := rfl
@[simp] theorem atInstant_trunk_window (t : Word) (s : State) : (s.atInstant t).trunk.window = s.trunk.window := rfl
@[simp] theorem atInstant_trunk_slots (t : Word) (s : State) : (s.atInstant t).trunk.slots = s.trunk.slots := rfl
@[simp] theorem atInstant_trunk_ownSlots (t : Word) (s : State) : (s.atInstant t).trunk.ownSlots = s.trunk.ownSlots := rfl
@[simp] theorem atInstant_trunk_late (t : Word) (s : State) : (s.atInstant t).trunk.late = s.trunk.late := rfl
@[simp] theorem atInstant_trunk_earlyWalk (t : Word) (s : State) : (s.atInstant t).trunk.earlyWalk = s.trunk.earlyWalk := rfl
@[simp] theorem atInstant_cycle (t : Word) (s : State) : (s.atInstant t).cycle = s.cycle := rfl
@[simp] theorem atInstant_sched (t : Word) (s : State) : (s.atInstant t).sched = s.sched := rfl
@[simp] theorem atInstant_channels (t : Word) (s : State) : (s.atInstant t).channels = s.channels := rfl
@[simp] theorem atInstant_tx (t : Word) (s : State) : (s.atInstant t).tx = s.tx := rfl
@[simp] theorem atInstant_rx (t : Word) (s : State) : (s.atInstant t).rx = s.rx := rfl
@[simp] theorem atInstant_notices (t : Word) (s : State) : (s.atInstant t).notices = s.notices := rfl
@[simp] theorem atInstant_link (t : Word) (s : State) : (s.atInstant t).link = s.link := rfl
@[simp] theorem atInstant_pending (t : Word) (s : State) : (s.atInstant t).pending = s.pending := rfl

/-! tick -/

@[simp] theorem tick_trunk_lineClock (s : State) : s.tick.trunk.lineClock = s.trunk.lineClock + 1 := rfl
@[simp] theorem tick_trunk_crcErrors (s : State) : s.tick.trunk.crcErrors = s.trunk.crcErrors := rfl
@[simp] theorem tick_trunk_malformed (s : State) : s.tick.trunk.malformed = s.trunk.malformed := rfl
@[simp] theorem tick_trunk_wrongSlot (s : State) : s.tick.trunk.wrongSlot = s.trunk.wrongSlot := rfl
@[simp] theorem tick_trunk_stray (s : State) : s.tick.trunk.stray = s.trunk.stray := rfl
@[simp] theorem tick_trunk_disturbed (s : State) : s.tick.trunk.disturbed = s.trunk.disturbed := rfl
@[simp] theorem tick_trunk_txen (s : State) : s.tick.trunk.txen = (s.trunk.txen || s.trunk.segment.any (fun g => g.beginsBy (s.trunk.lineClock + 1))) := rfl
@[simp] theorem tick_trunk_sending (s : State) : s.tick.trunk.sending = s.trunk.sending := rfl
@[simp] theorem tick_trunk_segment (s : State) : s.tick.trunk.segment = s.trunk.segment.map (fun g => g.asOf (s.trunk.lineClock + 1)) := rfl
@[simp] theorem tick_trunk_deferred (s : State) : s.tick.trunk.deferred = s.trunk.deferred := rfl
@[simp] theorem tick_trunk_hearsFrom (s : State) : s.tick.trunk.hearsFrom = s.trunk.hearsFrom := rfl
@[simp] theorem tick_trunk_window (s : State) : s.tick.trunk.window = s.trunk.window := rfl
@[simp] theorem tick_trunk_slots (s : State) : s.tick.trunk.slots = s.trunk.slots := rfl
@[simp] theorem tick_trunk_ownSlots (s : State) : s.tick.trunk.ownSlots = s.trunk.ownSlots := rfl
@[simp] theorem tick_trunk_late (s : State) : s.tick.trunk.late = s.trunk.late := rfl
@[simp] theorem tick_trunk_earlyWalk (s : State) : s.tick.trunk.earlyWalk = s.trunk.earlyWalk := rfl
@[simp] theorem tick_cycle (s : State) : s.tick.cycle = s.cycle := rfl
@[simp] theorem tick_sched (s : State) : s.tick.sched = s.sched := rfl
@[simp] theorem tick_channels (s : State) : s.tick.channels = s.channels := rfl
@[simp] theorem tick_tx (s : State) : s.tick.tx = s.tx := rfl
@[simp] theorem tick_rx (s : State) : s.tick.rx = s.rx := rfl
@[simp] theorem tick_notices (s : State) : s.tick.notices = s.notices := rfl
@[simp] theorem tick_link (s : State) : s.tick.link = s.link := rfl
@[simp] theorem tick_pending (s : State) : s.tick.pending = s.pending := rfl

/-! withStaged -/

@[simp] theorem withStaged_sched_active (g : Staged) (s : State) : (s.withStaged g).sched.active = s.sched.active := rfl
@[simp] theorem withStaged_sched_staged (g : Staged) (s : State) : (s.withStaged g).sched.staged = g := rfl
@[simp] theorem withStaged_sched_unready (g : Staged) (s : State) : (s.withStaged g).sched.unready = s.sched.unready := rfl
@[simp] theorem withStaged_sched_adoption (g : Staged) (s : State) : (s.withStaged g).sched.adoption = s.sched.adoption := rfl
@[simp] theorem withStaged_sched_lastSwitch (g : Staged) (s : State) : (s.withStaged g).sched.lastSwitch = s.sched.lastSwitch := rfl
@[simp] theorem withStaged_sched_takeUp (g : Staged) (s : State) : (s.withStaged g).sched.takeUp = s.sched.takeUp := rfl
@[simp] theorem withStaged_trunk (g : Staged) (s : State) : (s.withStaged g).trunk = s.trunk := rfl
@[simp] theorem withStaged_cycle (g : Staged) (s : State) : (s.withStaged g).cycle = s.cycle := rfl
@[simp] theorem withStaged_channels (g : Staged) (s : State) : (s.withStaged g).channels = s.channels := rfl
@[simp] theorem withStaged_tx (g : Staged) (s : State) : (s.withStaged g).tx = s.tx := rfl
@[simp] theorem withStaged_rx (g : Staged) (s : State) : (s.withStaged g).rx = s.rx := rfl
@[simp] theorem withStaged_notices (g : Staged) (s : State) : (s.withStaged g).notices = s.notices := rfl
@[simp] theorem withStaged_link (g : Staged) (s : State) : (s.withStaged g).link = s.link := rfl
@[simp] theorem withStaged_pending (g : Staged) (s : State) : (s.withStaged g).pending = s.pending := rfl

/-! clearUnready -/

@[simp] theorem clearUnready_sched_active (s : State) : (clearUnready s).sched.active = s.sched.active := rfl
@[simp] theorem clearUnready_sched_staged (s : State) : (clearUnready s).sched.staged = s.sched.staged := rfl
@[simp] theorem clearUnready_sched_unready (s : State) : (clearUnready s).sched.unready = none := rfl
@[simp] theorem clearUnready_sched_adoption (s : State) : (clearUnready s).sched.adoption = s.sched.adoption := rfl
@[simp] theorem clearUnready_sched_lastSwitch (s : State) : (clearUnready s).sched.lastSwitch = s.sched.lastSwitch := rfl
@[simp] theorem clearUnready_sched_takeUp (s : State) : (clearUnready s).sched.takeUp = s.sched.takeUp := rfl
@[simp] theorem clearUnready_trunk (s : State) : (clearUnready s).trunk = s.trunk := rfl
@[simp] theorem clearUnready_cycle (s : State) : (clearUnready s).cycle = s.cycle := rfl
@[simp] theorem clearUnready_channels (s : State) : (clearUnready s).channels = s.channels := rfl
@[simp] theorem clearUnready_tx (s : State) : (clearUnready s).tx = s.tx := rfl
@[simp] theorem clearUnready_rx (s : State) : (clearUnready s).rx = s.rx := rfl
@[simp] theorem clearUnready_notices (s : State) : (clearUnready s).notices = s.notices := rfl
@[simp] theorem clearUnready_link (s : State) : (clearUnready s).link = s.link := rfl
@[simp] theorem clearUnready_pending (s : State) : (clearUnready s).pending = s.pending := rfl

/-! clearMarks -/

@[simp] theorem clearMarks_sched_active (s : State) : (clearMarks s).sched.active = s.sched.active := rfl
@[simp] theorem clearMarks_sched_staged (s : State) : (clearMarks s).sched.staged = s.sched.staged := rfl
@[simp] theorem clearMarks_sched_unready (s : State) : (clearMarks s).sched.unready = none := rfl
@[simp] theorem clearMarks_sched_adoption (s : State) : (clearMarks s).sched.adoption = false := rfl
@[simp] theorem clearMarks_sched_lastSwitch (s : State) : (clearMarks s).sched.lastSwitch = s.sched.lastSwitch := rfl
@[simp] theorem clearMarks_sched_takeUp (s : State) : (clearMarks s).sched.takeUp = .done := rfl
@[simp] theorem clearMarks_trunk (s : State) : (clearMarks s).trunk = s.trunk := rfl
@[simp] theorem clearMarks_cycle (s : State) : (clearMarks s).cycle = s.cycle := rfl
@[simp] theorem clearMarks_channels (s : State) : (clearMarks s).channels = s.channels := rfl
@[simp] theorem clearMarks_tx (s : State) : (clearMarks s).tx = s.tx := rfl
@[simp] theorem clearMarks_rx (s : State) : (clearMarks s).rx = s.rx := rfl
@[simp] theorem clearMarks_notices (s : State) : (clearMarks s).notices = s.notices := rfl
@[simp] theorem clearMarks_link (s : State) : (clearMarks s).link = s.link := rfl
@[simp] theorem clearMarks_pending (s : State) : (clearMarks s).pending = s.pending := rfl

/-! dropAdoption -/

@[simp] theorem dropAdoption_sched_active (s : State) : (dropAdoption s).sched.active = s.sched.active := rfl
@[simp] theorem dropAdoption_sched_staged (s : State) : (dropAdoption s).sched.staged = s.sched.staged := rfl
@[simp] theorem dropAdoption_sched_unready (s : State) : (dropAdoption s).sched.unready = s.sched.unready := rfl
@[simp] theorem dropAdoption_sched_adoption (s : State) : (dropAdoption s).sched.adoption = false := rfl
@[simp] theorem dropAdoption_sched_lastSwitch (s : State) : (dropAdoption s).sched.lastSwitch = s.sched.lastSwitch := rfl
@[simp] theorem dropAdoption_sched_takeUp (s : State) : (dropAdoption s).sched.takeUp = s.sched.takeUp := rfl
@[simp] theorem dropAdoption_trunk (s : State) : (dropAdoption s).trunk = s.trunk := rfl
@[simp] theorem dropAdoption_cycle (s : State) : (dropAdoption s).cycle = s.cycle := rfl
@[simp] theorem dropAdoption_channels (s : State) : (dropAdoption s).channels = s.channels := rfl
@[simp] theorem dropAdoption_tx (s : State) : (dropAdoption s).tx = s.tx := rfl
@[simp] theorem dropAdoption_rx (s : State) : (dropAdoption s).rx = s.rx := rfl
@[simp] theorem dropAdoption_notices (s : State) : (dropAdoption s).notices = s.notices := rfl
@[simp] theorem dropAdoption_link (s : State) : (dropAdoption s).link = s.link := rfl
@[simp] theorem dropAdoption_pending (s : State) : (dropAdoption s).pending = s.pending := rfl

/-! withQueue -/

@[simp] theorem withQueue_tx_queue (q : List Message) (s : State) : (s.withQueue q).tx.queue = q := rfl
@[simp] theorem withQueue_tx_free (q : List Message) (s : State) : (s.withQueue q).tx.free = s.tx.free := rfl
@[simp] theorem withQueue_tx_idCounter (q : List Message) (s : State) : (s.withQueue q).tx.idCounter = s.tx.idCounter := rfl
@[simp] theorem withQueue_tx_roomWatch (q : List Message) (s : State) : (s.withQueue q).tx.roomWatch = s.tx.roomWatch := rfl
@[simp] theorem withQueue_tx_onLine (q : List Message) (s : State) : (s.withQueue q).tx.onLine = s.tx.onLine := rfl
@[simp] theorem withQueue_trunk (q : List Message) (s : State) : (s.withQueue q).trunk = s.trunk := rfl
@[simp] theorem withQueue_cycle (q : List Message) (s : State) : (s.withQueue q).cycle = s.cycle := rfl
@[simp] theorem withQueue_sched (q : List Message) (s : State) : (s.withQueue q).sched = s.sched := rfl
@[simp] theorem withQueue_channels (q : List Message) (s : State) : (s.withQueue q).channels = s.channels := rfl
@[simp] theorem withQueue_rx (q : List Message) (s : State) : (s.withQueue q).rx = s.rx := rfl
@[simp] theorem withQueue_notices (q : List Message) (s : State) : (s.withQueue q).notices = s.notices := rfl
@[simp] theorem withQueue_link (q : List Message) (s : State) : (s.withQueue q).link = s.link := rfl
@[simp] theorem withQueue_pending (q : List Message) (s : State) : (s.withQueue q).pending = s.pending := rfl

/-! returnBlocks -/

@[simp] theorem returnBlocks_tx_queue (n : Nat) (s : State) : (returnBlocks n s).tx.queue = s.tx.queue := rfl
@[simp] theorem returnBlocks_tx_free (n : Nat) (s : State) : (returnBlocks n s).tx.free = s.tx.free + n := rfl
@[simp] theorem returnBlocks_tx_idCounter (n : Nat) (s : State) : (returnBlocks n s).tx.idCounter = s.tx.idCounter := rfl
@[simp] theorem returnBlocks_tx_roomWatch (n : Nat) (s : State) : (returnBlocks n s).tx.roomWatch = s.tx.roomWatch := rfl
@[simp] theorem returnBlocks_tx_onLine (n : Nat) (s : State) : (returnBlocks n s).tx.onLine = s.tx.onLine := rfl
@[simp] theorem returnBlocks_trunk (n : Nat) (s : State) : (returnBlocks n s).trunk = s.trunk := rfl
@[simp] theorem returnBlocks_cycle (n : Nat) (s : State) : (returnBlocks n s).cycle = s.cycle := rfl
@[simp] theorem returnBlocks_sched (n : Nat) (s : State) : (returnBlocks n s).sched = s.sched := rfl
@[simp] theorem returnBlocks_channels (n : Nat) (s : State) : (returnBlocks n s).channels = s.channels := rfl
@[simp] theorem returnBlocks_rx (n : Nat) (s : State) : (returnBlocks n s).rx = s.rx := rfl
@[simp] theorem returnBlocks_notices (n : Nat) (s : State) : (returnBlocks n s).notices = s.notices := rfl
@[simp] theorem returnBlocks_link (n : Nat) (s : State) : (returnBlocks n s).link = s.link := rfl
@[simp] theorem returnBlocks_pending (n : Nat) (s : State) : (returnBlocks n s).pending = s.pending := rfl

/-! clearOnLine -/

@[simp] theorem clearOnLine_tx_queue (s : State) : (clearOnLine s).tx.queue = s.tx.queue := rfl
@[simp] theorem clearOnLine_tx_free (s : State) : (clearOnLine s).tx.free = s.tx.free := rfl
@[simp] theorem clearOnLine_tx_idCounter (s : State) : (clearOnLine s).tx.idCounter = s.tx.idCounter := rfl
@[simp] theorem clearOnLine_tx_roomWatch (s : State) : (clearOnLine s).tx.roomWatch = s.tx.roomWatch := rfl
@[simp] theorem clearOnLine_tx_onLine (s : State) : (clearOnLine s).tx.onLine = none := rfl
@[simp] theorem clearOnLine_trunk (s : State) : (clearOnLine s).trunk = s.trunk := rfl
@[simp] theorem clearOnLine_cycle (s : State) : (clearOnLine s).cycle = s.cycle := rfl
@[simp] theorem clearOnLine_sched (s : State) : (clearOnLine s).sched = s.sched := rfl
@[simp] theorem clearOnLine_channels (s : State) : (clearOnLine s).channels = s.channels := rfl
@[simp] theorem clearOnLine_rx (s : State) : (clearOnLine s).rx = s.rx := rfl
@[simp] theorem clearOnLine_notices (s : State) : (clearOnLine s).notices = s.notices := rfl
@[simp] theorem clearOnLine_link (s : State) : (clearOnLine s).link = s.link := rfl
@[simp] theorem clearOnLine_pending (s : State) : (clearOnLine s).pending = s.pending := rfl

/-! countOrphan -/

@[simp] theorem countOrphan_rx_groups (s : State) : (countOrphan s).rx.groups = s.rx.groups := rfl
@[simp] theorem countOrphan_rx_places (s : State) : (countOrphan s).rx.places = s.rx.places := rfl
@[simp] theorem countOrphan_rx_free (s : State) : (countOrphan s).rx.free = s.rx.free := rfl
@[simp] theorem countOrphan_rx_queue (s : State) : (countOrphan s).rx.queue = s.rx.queue := rfl
@[simp] theorem countOrphan_rx_handleCounter (s : State) : (countOrphan s).rx.handleCounter = s.rx.handleCounter := rfl
@[simp] theorem countOrphan_rx_records (s : State) : (countOrphan s).rx.records = s.rx.records := rfl
@[simp] theorem countOrphan_rx_orphan (s : State) : (countOrphan s).rx.orphan = bump s.rx.orphan := rfl
@[simp] theorem countOrphan_rx_duplicate (s : State) : (countOrphan s).rx.duplicate = s.rx.duplicate := rfl
@[simp] theorem countOrphan_trunk (s : State) : (countOrphan s).trunk = s.trunk := rfl
@[simp] theorem countOrphan_cycle (s : State) : (countOrphan s).cycle = s.cycle := rfl
@[simp] theorem countOrphan_sched (s : State) : (countOrphan s).sched = s.sched := rfl
@[simp] theorem countOrphan_channels (s : State) : (countOrphan s).channels = s.channels := rfl
@[simp] theorem countOrphan_tx (s : State) : (countOrphan s).tx = s.tx := rfl
@[simp] theorem countOrphan_notices (s : State) : (countOrphan s).notices = s.notices := rfl
@[simp] theorem countOrphan_link (s : State) : (countOrphan s).link = s.link := rfl
@[simp] theorem countOrphan_pending (s : State) : (countOrphan s).pending = s.pending := rfl

/-! countDuplicate -/

@[simp] theorem countDuplicate_rx_groups (s : State) : (countDuplicate s).rx.groups = s.rx.groups := rfl
@[simp] theorem countDuplicate_rx_places (s : State) : (countDuplicate s).rx.places = s.rx.places := rfl
@[simp] theorem countDuplicate_rx_free (s : State) : (countDuplicate s).rx.free = s.rx.free := rfl
@[simp] theorem countDuplicate_rx_queue (s : State) : (countDuplicate s).rx.queue = s.rx.queue := rfl
@[simp] theorem countDuplicate_rx_handleCounter (s : State) : (countDuplicate s).rx.handleCounter = s.rx.handleCounter := rfl
@[simp] theorem countDuplicate_rx_records (s : State) : (countDuplicate s).rx.records = s.rx.records := rfl
@[simp] theorem countDuplicate_rx_orphan (s : State) : (countDuplicate s).rx.orphan = s.rx.orphan := rfl
@[simp] theorem countDuplicate_rx_duplicate (s : State) : (countDuplicate s).rx.duplicate = bump s.rx.duplicate := rfl
@[simp] theorem countDuplicate_trunk (s : State) : (countDuplicate s).trunk = s.trunk := rfl
@[simp] theorem countDuplicate_cycle (s : State) : (countDuplicate s).cycle = s.cycle := rfl
@[simp] theorem countDuplicate_sched (s : State) : (countDuplicate s).sched = s.sched := rfl
@[simp] theorem countDuplicate_channels (s : State) : (countDuplicate s).channels = s.channels := rfl
@[simp] theorem countDuplicate_tx (s : State) : (countDuplicate s).tx = s.tx := rfl
@[simp] theorem countDuplicate_notices (s : State) : (countDuplicate s).notices = s.notices := rfl
@[simp] theorem countDuplicate_link (s : State) : (countDuplicate s).link = s.link := rfl
@[simp] theorem countDuplicate_pending (s : State) : (countDuplicate s).pending = s.pending := rfl

/-! setPlace -/

@[simp] theorem setPlace_rx_groups (p : Nat) (c : Option Context) (s : State) : (setPlace p c s).rx.groups = s.rx.groups := rfl
@[simp] theorem setPlace_rx_places (p : Nat) (c : Option Context) (s : State) : (setPlace p c s).rx.places = s.rx.places.set p c := rfl
@[simp] theorem setPlace_rx_free (p : Nat) (c : Option Context) (s : State) : (setPlace p c s).rx.free = s.rx.free := rfl
@[simp] theorem setPlace_rx_queue (p : Nat) (c : Option Context) (s : State) : (setPlace p c s).rx.queue = s.rx.queue := rfl
@[simp] theorem setPlace_rx_handleCounter (p : Nat) (c : Option Context) (s : State) : (setPlace p c s).rx.handleCounter = s.rx.handleCounter := rfl
@[simp] theorem setPlace_rx_records (p : Nat) (c : Option Context) (s : State) : (setPlace p c s).rx.records = s.rx.records := rfl
@[simp] theorem setPlace_rx_orphan (p : Nat) (c : Option Context) (s : State) : (setPlace p c s).rx.orphan = s.rx.orphan := rfl
@[simp] theorem setPlace_rx_duplicate (p : Nat) (c : Option Context) (s : State) : (setPlace p c s).rx.duplicate = s.rx.duplicate := rfl
@[simp] theorem setPlace_trunk (p : Nat) (c : Option Context) (s : State) : (setPlace p c s).trunk = s.trunk := rfl
@[simp] theorem setPlace_cycle (p : Nat) (c : Option Context) (s : State) : (setPlace p c s).cycle = s.cycle := rfl
@[simp] theorem setPlace_sched (p : Nat) (c : Option Context) (s : State) : (setPlace p c s).sched = s.sched := rfl
@[simp] theorem setPlace_channels (p : Nat) (c : Option Context) (s : State) : (setPlace p c s).channels = s.channels := rfl
@[simp] theorem setPlace_tx (p : Nat) (c : Option Context) (s : State) : (setPlace p c s).tx = s.tx := rfl
@[simp] theorem setPlace_notices (p : Nat) (c : Option Context) (s : State) : (setPlace p c s).notices = s.notices := rfl
@[simp] theorem setPlace_link (p : Nat) (c : Option Context) (s : State) : (setPlace p c s).link = s.link := rfl
@[simp] theorem setPlace_pending (p : Nat) (c : Option Context) (s : State) : (setPlace p c s).pending = s.pending := rfl

/-! setRxFree -/

@[simp] theorem setRxFree_rx_groups (n : Nat) (s : State) : (setRxFree n s).rx.groups = s.rx.groups := rfl
@[simp] theorem setRxFree_rx_places (n : Nat) (s : State) : (setRxFree n s).rx.places = s.rx.places := rfl
@[simp] theorem setRxFree_rx_free (n : Nat) (s : State) : (setRxFree n s).rx.free = n := rfl
@[simp] theorem setRxFree_rx_queue (n : Nat) (s : State) : (setRxFree n s).rx.queue = s.rx.queue := rfl
@[simp] theorem setRxFree_rx_handleCounter (n : Nat) (s : State) : (setRxFree n s).rx.handleCounter = s.rx.handleCounter := rfl
@[simp] theorem setRxFree_rx_records (n : Nat) (s : State) : (setRxFree n s).rx.records = s.rx.records := rfl
@[simp] theorem setRxFree_rx_orphan (n : Nat) (s : State) : (setRxFree n s).rx.orphan = s.rx.orphan := rfl
@[simp] theorem setRxFree_rx_duplicate (n : Nat) (s : State) : (setRxFree n s).rx.duplicate = s.rx.duplicate := rfl
@[simp] theorem setRxFree_trunk (n : Nat) (s : State) : (setRxFree n s).trunk = s.trunk := rfl
@[simp] theorem setRxFree_cycle (n : Nat) (s : State) : (setRxFree n s).cycle = s.cycle := rfl
@[simp] theorem setRxFree_sched (n : Nat) (s : State) : (setRxFree n s).sched = s.sched := rfl
@[simp] theorem setRxFree_channels (n : Nat) (s : State) : (setRxFree n s).channels = s.channels := rfl
@[simp] theorem setRxFree_tx (n : Nat) (s : State) : (setRxFree n s).tx = s.tx := rfl
@[simp] theorem setRxFree_notices (n : Nat) (s : State) : (setRxFree n s).notices = s.notices := rfl
@[simp] theorem setRxFree_link (n : Nat) (s : State) : (setRxFree n s).link = s.link := rfl
@[simp] theorem setRxFree_pending (n : Nat) (s : State) : (setRxFree n s).pending = s.pending := rfl

/-! countCrc -/

@[simp] theorem countCrc_trunk_lineClock (s : State) : (countCrc s).trunk.lineClock = s.trunk.lineClock := rfl
@[simp] theorem countCrc_trunk_crcErrors (s : State) : (countCrc s).trunk.crcErrors = bump s.trunk.crcErrors := rfl
@[simp] theorem countCrc_trunk_malformed (s : State) : (countCrc s).trunk.malformed = s.trunk.malformed := rfl
@[simp] theorem countCrc_trunk_wrongSlot (s : State) : (countCrc s).trunk.wrongSlot = s.trunk.wrongSlot := rfl
@[simp] theorem countCrc_trunk_stray (s : State) : (countCrc s).trunk.stray = s.trunk.stray := rfl
@[simp] theorem countCrc_trunk_disturbed (s : State) : (countCrc s).trunk.disturbed = s.trunk.disturbed := rfl
@[simp] theorem countCrc_trunk_txen (s : State) : (countCrc s).trunk.txen = s.trunk.txen := rfl
@[simp] theorem countCrc_trunk_sending (s : State) : (countCrc s).trunk.sending = s.trunk.sending := rfl
@[simp] theorem countCrc_trunk_segment (s : State) : (countCrc s).trunk.segment = s.trunk.segment := rfl
@[simp] theorem countCrc_trunk_deferred (s : State) : (countCrc s).trunk.deferred = s.trunk.deferred := rfl
@[simp] theorem countCrc_trunk_hearsFrom (s : State) : (countCrc s).trunk.hearsFrom = s.trunk.hearsFrom := rfl
@[simp] theorem countCrc_trunk_window (s : State) : (countCrc s).trunk.window = s.trunk.window := rfl
@[simp] theorem countCrc_trunk_slots (s : State) : (countCrc s).trunk.slots = s.trunk.slots := rfl
@[simp] theorem countCrc_trunk_ownSlots (s : State) : (countCrc s).trunk.ownSlots = s.trunk.ownSlots := rfl
@[simp] theorem countCrc_trunk_late (s : State) : (countCrc s).trunk.late = s.trunk.late := rfl
@[simp] theorem countCrc_trunk_earlyWalk (s : State) : (countCrc s).trunk.earlyWalk = s.trunk.earlyWalk := rfl
@[simp] theorem countCrc_cycle (s : State) : (countCrc s).cycle = s.cycle := rfl
@[simp] theorem countCrc_sched (s : State) : (countCrc s).sched = s.sched := rfl
@[simp] theorem countCrc_channels (s : State) : (countCrc s).channels = s.channels := rfl
@[simp] theorem countCrc_tx (s : State) : (countCrc s).tx = s.tx := rfl
@[simp] theorem countCrc_rx (s : State) : (countCrc s).rx = s.rx := rfl
@[simp] theorem countCrc_notices (s : State) : (countCrc s).notices = s.notices := rfl
@[simp] theorem countCrc_link (s : State) : (countCrc s).link = s.link := rfl
@[simp] theorem countCrc_pending (s : State) : (countCrc s).pending = s.pending := rfl

/-! countMalformed -/

@[simp] theorem countMalformed_trunk_lineClock (s : State) : (countMalformed s).trunk.lineClock = s.trunk.lineClock := rfl
@[simp] theorem countMalformed_trunk_crcErrors (s : State) : (countMalformed s).trunk.crcErrors = s.trunk.crcErrors := rfl
@[simp] theorem countMalformed_trunk_malformed (s : State) : (countMalformed s).trunk.malformed = bump s.trunk.malformed := rfl
@[simp] theorem countMalformed_trunk_wrongSlot (s : State) : (countMalformed s).trunk.wrongSlot = s.trunk.wrongSlot := rfl
@[simp] theorem countMalformed_trunk_stray (s : State) : (countMalformed s).trunk.stray = s.trunk.stray := rfl
@[simp] theorem countMalformed_trunk_disturbed (s : State) : (countMalformed s).trunk.disturbed = s.trunk.disturbed := rfl
@[simp] theorem countMalformed_trunk_txen (s : State) : (countMalformed s).trunk.txen = s.trunk.txen := rfl
@[simp] theorem countMalformed_trunk_sending (s : State) : (countMalformed s).trunk.sending = s.trunk.sending := rfl
@[simp] theorem countMalformed_trunk_segment (s : State) : (countMalformed s).trunk.segment = s.trunk.segment := rfl
@[simp] theorem countMalformed_trunk_deferred (s : State) : (countMalformed s).trunk.deferred = s.trunk.deferred := rfl
@[simp] theorem countMalformed_trunk_hearsFrom (s : State) : (countMalformed s).trunk.hearsFrom = s.trunk.hearsFrom := rfl
@[simp] theorem countMalformed_trunk_window (s : State) : (countMalformed s).trunk.window = s.trunk.window := rfl
@[simp] theorem countMalformed_trunk_slots (s : State) : (countMalformed s).trunk.slots = s.trunk.slots := rfl
@[simp] theorem countMalformed_trunk_ownSlots (s : State) : (countMalformed s).trunk.ownSlots = s.trunk.ownSlots := rfl
@[simp] theorem countMalformed_trunk_late (s : State) : (countMalformed s).trunk.late = s.trunk.late := rfl
@[simp] theorem countMalformed_trunk_earlyWalk (s : State) : (countMalformed s).trunk.earlyWalk = s.trunk.earlyWalk := rfl
@[simp] theorem countMalformed_cycle (s : State) : (countMalformed s).cycle = s.cycle := rfl
@[simp] theorem countMalformed_sched (s : State) : (countMalformed s).sched = s.sched := rfl
@[simp] theorem countMalformed_channels (s : State) : (countMalformed s).channels = s.channels := rfl
@[simp] theorem countMalformed_tx (s : State) : (countMalformed s).tx = s.tx := rfl
@[simp] theorem countMalformed_rx (s : State) : (countMalformed s).rx = s.rx := rfl
@[simp] theorem countMalformed_notices (s : State) : (countMalformed s).notices = s.notices := rfl
@[simp] theorem countMalformed_link (s : State) : (countMalformed s).link = s.link := rfl
@[simp] theorem countMalformed_pending (s : State) : (countMalformed s).pending = s.pending := rfl

/-! countStray -/

@[simp] theorem countStray_trunk_lineClock (s : State) : (countStray s).trunk.lineClock = s.trunk.lineClock := rfl
@[simp] theorem countStray_trunk_crcErrors (s : State) : (countStray s).trunk.crcErrors = s.trunk.crcErrors := rfl
@[simp] theorem countStray_trunk_malformed (s : State) : (countStray s).trunk.malformed = s.trunk.malformed := rfl
@[simp] theorem countStray_trunk_wrongSlot (s : State) : (countStray s).trunk.wrongSlot = s.trunk.wrongSlot := rfl
@[simp] theorem countStray_trunk_stray (s : State) : (countStray s).trunk.stray = bump s.trunk.stray := rfl
@[simp] theorem countStray_trunk_disturbed (s : State) : (countStray s).trunk.disturbed = s.trunk.disturbed := rfl
@[simp] theorem countStray_trunk_txen (s : State) : (countStray s).trunk.txen = s.trunk.txen := rfl
@[simp] theorem countStray_trunk_sending (s : State) : (countStray s).trunk.sending = s.trunk.sending := rfl
@[simp] theorem countStray_trunk_segment (s : State) : (countStray s).trunk.segment = s.trunk.segment := rfl
@[simp] theorem countStray_trunk_deferred (s : State) : (countStray s).trunk.deferred = s.trunk.deferred := rfl
@[simp] theorem countStray_trunk_hearsFrom (s : State) : (countStray s).trunk.hearsFrom = s.trunk.hearsFrom := rfl
@[simp] theorem countStray_trunk_window (s : State) : (countStray s).trunk.window = s.trunk.window := rfl
@[simp] theorem countStray_trunk_slots (s : State) : (countStray s).trunk.slots = s.trunk.slots := rfl
@[simp] theorem countStray_trunk_ownSlots (s : State) : (countStray s).trunk.ownSlots = s.trunk.ownSlots := rfl
@[simp] theorem countStray_trunk_late (s : State) : (countStray s).trunk.late = s.trunk.late := rfl
@[simp] theorem countStray_trunk_earlyWalk (s : State) : (countStray s).trunk.earlyWalk = s.trunk.earlyWalk := rfl
@[simp] theorem countStray_cycle (s : State) : (countStray s).cycle = s.cycle := rfl
@[simp] theorem countStray_sched (s : State) : (countStray s).sched = s.sched := rfl
@[simp] theorem countStray_channels (s : State) : (countStray s).channels = s.channels := rfl
@[simp] theorem countStray_tx (s : State) : (countStray s).tx = s.tx := rfl
@[simp] theorem countStray_rx (s : State) : (countStray s).rx = s.rx := rfl
@[simp] theorem countStray_notices (s : State) : (countStray s).notices = s.notices := rfl
@[simp] theorem countStray_link (s : State) : (countStray s).link = s.link := rfl
@[simp] theorem countStray_pending (s : State) : (countStray s).pending = s.pending := rfl

/-! settleWindow -/

@[simp] theorem settleWindow_trunk_lineClock (s : State) : (settleWindow s).trunk.lineClock = s.trunk.lineClock := rfl
@[simp] theorem settleWindow_trunk_crcErrors (s : State) : (settleWindow s).trunk.crcErrors = s.trunk.crcErrors := rfl
@[simp] theorem settleWindow_trunk_malformed (s : State) : (settleWindow s).trunk.malformed = s.trunk.malformed := rfl
@[simp] theorem settleWindow_trunk_wrongSlot (s : State) : (settleWindow s).trunk.wrongSlot = s.trunk.wrongSlot := rfl
@[simp] theorem settleWindow_trunk_stray (s : State) : (settleWindow s).trunk.stray = s.trunk.stray := rfl
@[simp] theorem settleWindow_trunk_disturbed (s : State) : (settleWindow s).trunk.disturbed = s.trunk.disturbed := rfl
@[simp] theorem settleWindow_trunk_txen (s : State) : (settleWindow s).trunk.txen = s.trunk.txen := rfl
@[simp] theorem settleWindow_trunk_sending (s : State) : (settleWindow s).trunk.sending = s.trunk.sending := rfl
@[simp] theorem settleWindow_trunk_segment (s : State) : (settleWindow s).trunk.segment = s.trunk.segment := rfl
@[simp] theorem settleWindow_trunk_deferred (s : State) : (settleWindow s).trunk.deferred = s.trunk.deferred := rfl
@[simp] theorem settleWindow_trunk_hearsFrom (s : State) : (settleWindow s).trunk.hearsFrom = s.trunk.hearsFrom := rfl
@[simp] theorem settleWindow_trunk_window (s : State) : (settleWindow s).trunk.window = .settled := rfl
@[simp] theorem settleWindow_trunk_slots (s : State) : (settleWindow s).trunk.slots = s.trunk.slots := rfl
@[simp] theorem settleWindow_trunk_ownSlots (s : State) : (settleWindow s).trunk.ownSlots = s.trunk.ownSlots := rfl
@[simp] theorem settleWindow_trunk_late (s : State) : (settleWindow s).trunk.late = s.trunk.late := rfl
@[simp] theorem settleWindow_trunk_earlyWalk (s : State) : (settleWindow s).trunk.earlyWalk = s.trunk.earlyWalk := rfl
@[simp] theorem settleWindow_cycle (s : State) : (settleWindow s).cycle = s.cycle := rfl
@[simp] theorem settleWindow_sched (s : State) : (settleWindow s).sched = s.sched := rfl
@[simp] theorem settleWindow_channels (s : State) : (settleWindow s).channels = s.channels := rfl
@[simp] theorem settleWindow_tx (s : State) : (settleWindow s).tx = s.tx := rfl
@[simp] theorem settleWindow_rx (s : State) : (settleWindow s).rx = s.rx := rfl
@[simp] theorem settleWindow_notices (s : State) : (settleWindow s).notices = s.notices := rfl
@[simp] theorem settleWindow_link (s : State) : (settleWindow s).link = s.link := rfl
@[simp] theorem settleWindow_pending (s : State) : (settleWindow s).pending = s.pending := rfl

/-! endWalk -/

@[simp] theorem endWalk_trunk_lineClock (s : State) : (endWalk s).trunk.lineClock = s.trunk.lineClock := rfl
@[simp] theorem endWalk_trunk_crcErrors (s : State) : (endWalk s).trunk.crcErrors = s.trunk.crcErrors := rfl
@[simp] theorem endWalk_trunk_malformed (s : State) : (endWalk s).trunk.malformed = s.trunk.malformed := rfl
@[simp] theorem endWalk_trunk_wrongSlot (s : State) : (endWalk s).trunk.wrongSlot = s.trunk.wrongSlot := rfl
@[simp] theorem endWalk_trunk_stray (s : State) : (endWalk s).trunk.stray = s.trunk.stray := rfl
@[simp] theorem endWalk_trunk_disturbed (s : State) : (endWalk s).trunk.disturbed = s.trunk.disturbed := rfl
@[simp] theorem endWalk_trunk_txen (s : State) : (endWalk s).trunk.txen = s.trunk.txen := rfl
@[simp] theorem endWalk_trunk_sending (s : State) : (endWalk s).trunk.sending = s.trunk.sending := rfl
@[simp] theorem endWalk_trunk_segment (s : State) : (endWalk s).trunk.segment = s.trunk.segment.filter OwnSegment.sent := rfl
@[simp] theorem endWalk_trunk_deferred (s : State) : (endWalk s).trunk.deferred = s.trunk.deferred := rfl
@[simp] theorem endWalk_trunk_hearsFrom (s : State) : (endWalk s).trunk.hearsFrom = s.trunk.hearsFrom := rfl
@[simp] theorem endWalk_trunk_window (s : State) : (endWalk s).trunk.window = .settled := rfl
@[simp] theorem endWalk_trunk_slots (s : State) : (endWalk s).trunk.slots = [] := rfl
@[simp] theorem endWalk_trunk_ownSlots (s : State) : (endWalk s).trunk.ownSlots = [] := rfl
@[simp] theorem endWalk_trunk_late (s : State) : (endWalk s).trunk.late = [] := rfl
@[simp] theorem endWalk_trunk_earlyWalk (s : State) : (endWalk s).trunk.earlyWalk = [] := rfl
@[simp] theorem endWalk_cycle (s : State) : (endWalk s).cycle = s.cycle := rfl
@[simp] theorem endWalk_sched (s : State) : (endWalk s).sched = s.sched := rfl
@[simp] theorem endWalk_channels (s : State) : (endWalk s).channels = s.channels := rfl
@[simp] theorem endWalk_tx (s : State) : (endWalk s).tx = s.tx := rfl
@[simp] theorem endWalk_rx (s : State) : (endWalk s).rx = s.rx := rfl
@[simp] theorem endWalk_notices (s : State) : (endWalk s).notices = s.notices := rfl
@[simp] theorem endWalk_link (s : State) : (endWalk s).link = s.link := rfl
@[simp] theorem endWalk_pending (s : State) : (endWalk s).pending = s.pending := rfl

/-! beginFrame -/

@[simp] theorem beginFrame_trunk_lineClock (f : OwnFrame) (s : State) : (beginFrame f s).trunk.lineClock = s.trunk.lineClock := rfl
@[simp] theorem beginFrame_trunk_crcErrors (f : OwnFrame) (s : State) : (beginFrame f s).trunk.crcErrors = s.trunk.crcErrors := rfl
@[simp] theorem beginFrame_trunk_malformed (f : OwnFrame) (s : State) : (beginFrame f s).trunk.malformed = s.trunk.malformed := rfl
@[simp] theorem beginFrame_trunk_wrongSlot (f : OwnFrame) (s : State) : (beginFrame f s).trunk.wrongSlot = s.trunk.wrongSlot := rfl
@[simp] theorem beginFrame_trunk_stray (f : OwnFrame) (s : State) : (beginFrame f s).trunk.stray = s.trunk.stray := rfl
@[simp] theorem beginFrame_trunk_disturbed (f : OwnFrame) (s : State) : (beginFrame f s).trunk.disturbed = s.trunk.disturbed := rfl
@[simp] theorem beginFrame_trunk_txen (f : OwnFrame) (s : State) : (beginFrame f s).trunk.txen = true := rfl
@[simp] theorem beginFrame_trunk_sending (f : OwnFrame) (s : State) : (beginFrame f s).trunk.sending = some f := rfl
@[simp] theorem beginFrame_trunk_segment (f : OwnFrame) (s : State) : (beginFrame f s).trunk.segment = s.trunk.segment := rfl
@[simp] theorem beginFrame_trunk_deferred (f : OwnFrame) (s : State) : (beginFrame f s).trunk.deferred = s.trunk.deferred := rfl
@[simp] theorem beginFrame_trunk_hearsFrom (f : OwnFrame) (s : State) : (beginFrame f s).trunk.hearsFrom = s.trunk.hearsFrom := rfl
@[simp] theorem beginFrame_trunk_window (f : OwnFrame) (s : State) : (beginFrame f s).trunk.window = s.trunk.window := rfl
@[simp] theorem beginFrame_trunk_slots (f : OwnFrame) (s : State) : (beginFrame f s).trunk.slots = s.trunk.slots := rfl
@[simp] theorem beginFrame_trunk_ownSlots (f : OwnFrame) (s : State) : (beginFrame f s).trunk.ownSlots = s.trunk.ownSlots := rfl
@[simp] theorem beginFrame_trunk_late (f : OwnFrame) (s : State) : (beginFrame f s).trunk.late = s.trunk.late := rfl
@[simp] theorem beginFrame_trunk_earlyWalk (f : OwnFrame) (s : State) : (beginFrame f s).trunk.earlyWalk = s.trunk.earlyWalk := rfl
@[simp] theorem beginFrame_cycle (f : OwnFrame) (s : State) : (beginFrame f s).cycle = s.cycle := rfl
@[simp] theorem beginFrame_sched (f : OwnFrame) (s : State) : (beginFrame f s).sched = s.sched := rfl
@[simp] theorem beginFrame_channels (f : OwnFrame) (s : State) : (beginFrame f s).channels = s.channels := rfl
@[simp] theorem beginFrame_tx (f : OwnFrame) (s : State) : (beginFrame f s).tx = s.tx := rfl
@[simp] theorem beginFrame_rx (f : OwnFrame) (s : State) : (beginFrame f s).rx = s.rx := rfl
@[simp] theorem beginFrame_notices (f : OwnFrame) (s : State) : (beginFrame f s).notices = s.notices := rfl
@[simp] theorem beginFrame_link (f : OwnFrame) (s : State) : (beginFrame f s).link = s.link := rfl
@[simp] theorem beginFrame_pending (f : OwnFrame) (s : State) : (beginFrame f s).pending = s.pending := rfl

/-! holdSegment -/

@[simp] theorem holdSegment_trunk_lineClock (g : OwnSegment) (s : State) : (holdSegment g s).trunk.lineClock = s.trunk.lineClock := rfl
@[simp] theorem holdSegment_trunk_crcErrors (g : OwnSegment) (s : State) : (holdSegment g s).trunk.crcErrors = s.trunk.crcErrors := rfl
@[simp] theorem holdSegment_trunk_malformed (g : OwnSegment) (s : State) : (holdSegment g s).trunk.malformed = s.trunk.malformed := rfl
@[simp] theorem holdSegment_trunk_wrongSlot (g : OwnSegment) (s : State) : (holdSegment g s).trunk.wrongSlot = s.trunk.wrongSlot := rfl
@[simp] theorem holdSegment_trunk_stray (g : OwnSegment) (s : State) : (holdSegment g s).trunk.stray = s.trunk.stray := rfl
@[simp] theorem holdSegment_trunk_disturbed (g : OwnSegment) (s : State) : (holdSegment g s).trunk.disturbed = s.trunk.disturbed := rfl
@[simp] theorem holdSegment_trunk_txen (g : OwnSegment) (s : State) : (holdSegment g s).trunk.txen = s.trunk.txen := rfl
@[simp] theorem holdSegment_trunk_sending (g : OwnSegment) (s : State) : (holdSegment g s).trunk.sending = s.trunk.sending := rfl
@[simp] theorem holdSegment_trunk_segment (g : OwnSegment) (s : State) : (holdSegment g s).trunk.segment = some g := rfl
@[simp] theorem holdSegment_trunk_deferred (g : OwnSegment) (s : State) : (holdSegment g s).trunk.deferred = s.trunk.deferred := rfl
@[simp] theorem holdSegment_trunk_hearsFrom (g : OwnSegment) (s : State) : (holdSegment g s).trunk.hearsFrom = s.trunk.hearsFrom := rfl
@[simp] theorem holdSegment_trunk_window (g : OwnSegment) (s : State) : (holdSegment g s).trunk.window = s.trunk.window := rfl
@[simp] theorem holdSegment_trunk_slots (g : OwnSegment) (s : State) : (holdSegment g s).trunk.slots = s.trunk.slots := rfl
@[simp] theorem holdSegment_trunk_ownSlots (g : OwnSegment) (s : State) : (holdSegment g s).trunk.ownSlots = s.trunk.ownSlots := rfl
@[simp] theorem holdSegment_trunk_late (g : OwnSegment) (s : State) : (holdSegment g s).trunk.late = s.trunk.late := rfl
@[simp] theorem holdSegment_trunk_earlyWalk (g : OwnSegment) (s : State) : (holdSegment g s).trunk.earlyWalk = s.trunk.earlyWalk := rfl
@[simp] theorem holdSegment_cycle (g : OwnSegment) (s : State) : (holdSegment g s).cycle = s.cycle := rfl
@[simp] theorem holdSegment_sched (g : OwnSegment) (s : State) : (holdSegment g s).sched = s.sched := rfl
@[simp] theorem holdSegment_channels (g : OwnSegment) (s : State) : (holdSegment g s).channels = s.channels := rfl
@[simp] theorem holdSegment_tx (g : OwnSegment) (s : State) : (holdSegment g s).tx = s.tx := rfl
@[simp] theorem holdSegment_rx (g : OwnSegment) (s : State) : (holdSegment g s).rx = s.rx := rfl
@[simp] theorem holdSegment_notices (g : OwnSegment) (s : State) : (holdSegment g s).notices = s.notices := rfl
@[simp] theorem holdSegment_link (g : OwnSegment) (s : State) : (holdSegment g s).link = s.link := rfl
@[simp] theorem holdSegment_pending (g : OwnSegment) (s : State) : (holdSegment g s).pending = s.pending := rfl

/-! noteOwnSlot -/

@[simp] theorem noteOwnSlot_trunk_lineClock (start : Nat) (since : Word) (s : State) : (noteOwnSlot start since s).trunk.lineClock = s.trunk.lineClock := rfl
@[simp] theorem noteOwnSlot_trunk_crcErrors (start : Nat) (since : Word) (s : State) : (noteOwnSlot start since s).trunk.crcErrors = s.trunk.crcErrors := rfl
@[simp] theorem noteOwnSlot_trunk_malformed (start : Nat) (since : Word) (s : State) : (noteOwnSlot start since s).trunk.malformed = s.trunk.malformed := rfl
@[simp] theorem noteOwnSlot_trunk_wrongSlot (start : Nat) (since : Word) (s : State) : (noteOwnSlot start since s).trunk.wrongSlot = s.trunk.wrongSlot := rfl
@[simp] theorem noteOwnSlot_trunk_stray (start : Nat) (since : Word) (s : State) : (noteOwnSlot start since s).trunk.stray = s.trunk.stray := rfl
@[simp] theorem noteOwnSlot_trunk_disturbed (start : Nat) (since : Word) (s : State) : (noteOwnSlot start since s).trunk.disturbed = s.trunk.disturbed := rfl
@[simp] theorem noteOwnSlot_trunk_txen (start : Nat) (since : Word) (s : State) : (noteOwnSlot start since s).trunk.txen = s.trunk.txen := rfl
@[simp] theorem noteOwnSlot_trunk_sending (start : Nat) (since : Word) (s : State) : (noteOwnSlot start since s).trunk.sending = s.trunk.sending := rfl
@[simp] theorem noteOwnSlot_trunk_segment (start : Nat) (since : Word) (s : State) : (noteOwnSlot start since s).trunk.segment = s.trunk.segment := rfl
@[simp] theorem noteOwnSlot_trunk_deferred (start : Nat) (since : Word) (s : State) : (noteOwnSlot start since s).trunk.deferred = s.trunk.deferred := rfl
@[simp] theorem noteOwnSlot_trunk_hearsFrom (start : Nat) (since : Word) (s : State) : (noteOwnSlot start since s).trunk.hearsFrom = s.trunk.hearsFrom := rfl
@[simp] theorem noteOwnSlot_trunk_window (start : Nat) (since : Word) (s : State) : (noteOwnSlot start since s).trunk.window = s.trunk.window := rfl
@[simp] theorem noteOwnSlot_trunk_slots (start : Nat) (since : Word) (s : State) : (noteOwnSlot start since s).trunk.slots = s.trunk.slots := rfl
@[simp] theorem noteOwnSlot_trunk_ownSlots (start : Nat) (since : Word) (s : State) : (noteOwnSlot start since s).trunk.ownSlots = { start := start, since := since } :: s.trunk.ownSlots := rfl
@[simp] theorem noteOwnSlot_trunk_late (start : Nat) (since : Word) (s : State) : (noteOwnSlot start since s).trunk.late = s.trunk.late := rfl
@[simp] theorem noteOwnSlot_trunk_earlyWalk (start : Nat) (since : Word) (s : State) : (noteOwnSlot start since s).trunk.earlyWalk = s.trunk.earlyWalk := rfl
@[simp] theorem noteOwnSlot_cycle (start : Nat) (since : Word) (s : State) : (noteOwnSlot start since s).cycle = s.cycle := rfl
@[simp] theorem noteOwnSlot_sched (start : Nat) (since : Word) (s : State) : (noteOwnSlot start since s).sched = s.sched := rfl
@[simp] theorem noteOwnSlot_channels (start : Nat) (since : Word) (s : State) : (noteOwnSlot start since s).channels = s.channels := rfl
@[simp] theorem noteOwnSlot_tx (start : Nat) (since : Word) (s : State) : (noteOwnSlot start since s).tx = s.tx := rfl
@[simp] theorem noteOwnSlot_rx (start : Nat) (since : Word) (s : State) : (noteOwnSlot start since s).rx = s.rx := rfl
@[simp] theorem noteOwnSlot_notices (start : Nat) (since : Word) (s : State) : (noteOwnSlot start since s).notices = s.notices := rfl
@[simp] theorem noteOwnSlot_link (start : Nat) (since : Word) (s : State) : (noteOwnSlot start since s).link = s.link := rfl
@[simp] theorem noteOwnSlot_pending (start : Nat) (since : Word) (s : State) : (noteOwnSlot start since s).pending = s.pending := rfl

/-! keepLate -/

@[simp] theorem keepLate_trunk_lineClock (c : CycleNow) (s : State) : (keepLate c s).trunk.lineClock = s.trunk.lineClock := rfl
@[simp] theorem keepLate_trunk_crcErrors (c : CycleNow) (s : State) : (keepLate c s).trunk.crcErrors = s.trunk.crcErrors := rfl
@[simp] theorem keepLate_trunk_malformed (c : CycleNow) (s : State) : (keepLate c s).trunk.malformed = s.trunk.malformed := rfl
@[simp] theorem keepLate_trunk_wrongSlot (c : CycleNow) (s : State) : (keepLate c s).trunk.wrongSlot = s.trunk.wrongSlot := rfl
@[simp] theorem keepLate_trunk_stray (c : CycleNow) (s : State) : (keepLate c s).trunk.stray = s.trunk.stray := rfl
@[simp] theorem keepLate_trunk_disturbed (c : CycleNow) (s : State) : (keepLate c s).trunk.disturbed = s.trunk.disturbed := rfl
@[simp] theorem keepLate_trunk_txen (c : CycleNow) (s : State) : (keepLate c s).trunk.txen = s.trunk.txen := rfl
@[simp] theorem keepLate_trunk_sending (c : CycleNow) (s : State) : (keepLate c s).trunk.sending = s.trunk.sending := rfl
@[simp] theorem keepLate_trunk_segment (c : CycleNow) (s : State) : (keepLate c s).trunk.segment = s.trunk.segment := rfl
@[simp] theorem keepLate_trunk_deferred (c : CycleNow) (s : State) : (keepLate c s).trunk.deferred = s.trunk.deferred := rfl
@[simp] theorem keepLate_trunk_hearsFrom (c : CycleNow) (s : State) : (keepLate c s).trunk.hearsFrom = s.trunk.hearsFrom := rfl
@[simp] theorem keepLate_trunk_window (c : CycleNow) (s : State) : (keepLate c s).trunk.window = s.trunk.window := rfl
@[simp] theorem keepLate_trunk_slots (c : CycleNow) (s : State) : (keepLate c s).trunk.slots = s.trunk.slots := rfl
@[simp] theorem keepLate_trunk_ownSlots (c : CycleNow) (s : State) : (keepLate c s).trunk.ownSlots = s.trunk.ownSlots := rfl
@[simp] theorem keepLate_trunk_late (c : CycleNow) (s : State) : (keepLate c s).trunk.late = lateSlots s c := rfl
@[simp] theorem keepLate_trunk_earlyWalk (c : CycleNow) (s : State) : (keepLate c s).trunk.earlyWalk = s.trunk.earlyWalk := rfl
@[simp] theorem keepLate_cycle (c : CycleNow) (s : State) : (keepLate c s).cycle = s.cycle := rfl
@[simp] theorem keepLate_sched (c : CycleNow) (s : State) : (keepLate c s).sched = s.sched := rfl
@[simp] theorem keepLate_channels (c : CycleNow) (s : State) : (keepLate c s).channels = s.channels := rfl
@[simp] theorem keepLate_tx (c : CycleNow) (s : State) : (keepLate c s).tx = s.tx := rfl
@[simp] theorem keepLate_rx (c : CycleNow) (s : State) : (keepLate c s).rx = s.rx := rfl
@[simp] theorem keepLate_notices (c : CycleNow) (s : State) : (keepLate c s).notices = s.notices := rfl
@[simp] theorem keepLate_link (c : CycleNow) (s : State) : (keepLate c s).link = s.link := rfl
@[simp] theorem keepLate_pending (c : CycleNow) (s : State) : (keepLate c s).pending = s.pending := rfl

/-! takeLate -/

@[simp] theorem takeLate_trunk_lineClock (l : LateSlot) (f : Option CyclicFrame) (s : State) : (takeLate l f s).trunk.lineClock = s.trunk.lineClock := rfl
@[simp] theorem takeLate_trunk_crcErrors (l : LateSlot) (f : Option CyclicFrame) (s : State) : (takeLate l f s).trunk.crcErrors = s.trunk.crcErrors := rfl
@[simp] theorem takeLate_trunk_malformed (l : LateSlot) (f : Option CyclicFrame) (s : State) : (takeLate l f s).trunk.malformed = s.trunk.malformed := rfl
@[simp] theorem takeLate_trunk_wrongSlot (l : LateSlot) (f : Option CyclicFrame) (s : State) : (takeLate l f s).trunk.wrongSlot = s.trunk.wrongSlot := rfl
@[simp] theorem takeLate_trunk_stray (l : LateSlot) (f : Option CyclicFrame) (s : State) : (takeLate l f s).trunk.stray = s.trunk.stray := rfl
@[simp] theorem takeLate_trunk_disturbed (l : LateSlot) (f : Option CyclicFrame) (s : State) : (takeLate l f s).trunk.disturbed = s.trunk.disturbed := rfl
@[simp] theorem takeLate_trunk_txen (l : LateSlot) (f : Option CyclicFrame) (s : State) : (takeLate l f s).trunk.txen = s.trunk.txen := rfl
@[simp] theorem takeLate_trunk_sending (l : LateSlot) (f : Option CyclicFrame) (s : State) : (takeLate l f s).trunk.sending = s.trunk.sending := rfl
@[simp] theorem takeLate_trunk_segment (l : LateSlot) (f : Option CyclicFrame) (s : State) : (takeLate l f s).trunk.segment = s.trunk.segment := rfl
@[simp] theorem takeLate_trunk_deferred (l : LateSlot) (f : Option CyclicFrame) (s : State) : (takeLate l f s).trunk.deferred = s.trunk.deferred := rfl
@[simp] theorem takeLate_trunk_hearsFrom (l : LateSlot) (f : Option CyclicFrame) (s : State) : (takeLate l f s).trunk.hearsFrom = s.trunk.hearsFrom := rfl
@[simp] theorem takeLate_trunk_window (l : LateSlot) (f : Option CyclicFrame) (s : State) : (takeLate l f s).trunk.window = s.trunk.window := rfl
@[simp] theorem takeLate_trunk_slots (l : LateSlot) (f : Option CyclicFrame) (s : State) : (takeLate l f s).trunk.slots = s.trunk.slots := rfl
@[simp] theorem takeLate_trunk_ownSlots (l : LateSlot) (f : Option CyclicFrame) (s : State) : (takeLate l f s).trunk.ownSlots = s.trunk.ownSlots := rfl
@[simp] theorem takeLate_trunk_earlyWalk (l : LateSlot) (f : Option CyclicFrame) (s : State) : (takeLate l f s).trunk.earlyWalk = s.trunk.earlyWalk := rfl
@[simp] theorem takeLate_cycle (l : LateSlot) (f : Option CyclicFrame) (s : State) : (takeLate l f s).cycle = s.cycle := rfl
@[simp] theorem takeLate_sched (l : LateSlot) (f : Option CyclicFrame) (s : State) : (takeLate l f s).sched = s.sched := rfl
@[simp] theorem takeLate_channels (l : LateSlot) (f : Option CyclicFrame) (s : State) : (takeLate l f s).channels = s.channels := rfl
@[simp] theorem takeLate_tx (l : LateSlot) (f : Option CyclicFrame) (s : State) : (takeLate l f s).tx = s.tx := rfl
@[simp] theorem takeLate_rx (l : LateSlot) (f : Option CyclicFrame) (s : State) : (takeLate l f s).rx = s.rx := rfl
@[simp] theorem takeLate_notices (l : LateSlot) (f : Option CyclicFrame) (s : State) : (takeLate l f s).notices = s.notices := rfl
@[simp] theorem takeLate_link (l : LateSlot) (f : Option CyclicFrame) (s : State) : (takeLate l f s).link = s.link := rfl
@[simp] theorem takeLate_pending (l : LateSlot) (f : Option CyclicFrame) (s : State) : (takeLate l f s).pending = s.pending := rfl

/-! takeSlot -/

@[simp] theorem takeSlot_trunk_lineClock (n : Nat) (f : Option CyclicFrame) (s : State) : (takeSlot n f s).trunk.lineClock = s.trunk.lineClock := rfl
@[simp] theorem takeSlot_trunk_crcErrors (n : Nat) (f : Option CyclicFrame) (s : State) : (takeSlot n f s).trunk.crcErrors = s.trunk.crcErrors := rfl
@[simp] theorem takeSlot_trunk_malformed (n : Nat) (f : Option CyclicFrame) (s : State) : (takeSlot n f s).trunk.malformed = s.trunk.malformed := rfl
@[simp] theorem takeSlot_trunk_wrongSlot (n : Nat) (f : Option CyclicFrame) (s : State) : (takeSlot n f s).trunk.wrongSlot = s.trunk.wrongSlot := rfl
@[simp] theorem takeSlot_trunk_stray (n : Nat) (f : Option CyclicFrame) (s : State) : (takeSlot n f s).trunk.stray = s.trunk.stray := rfl
@[simp] theorem takeSlot_trunk_disturbed (n : Nat) (f : Option CyclicFrame) (s : State) : (takeSlot n f s).trunk.disturbed = s.trunk.disturbed := rfl
@[simp] theorem takeSlot_trunk_txen (n : Nat) (f : Option CyclicFrame) (s : State) : (takeSlot n f s).trunk.txen = s.trunk.txen := rfl
@[simp] theorem takeSlot_trunk_sending (n : Nat) (f : Option CyclicFrame) (s : State) : (takeSlot n f s).trunk.sending = s.trunk.sending := rfl
@[simp] theorem takeSlot_trunk_segment (n : Nat) (f : Option CyclicFrame) (s : State) : (takeSlot n f s).trunk.segment = s.trunk.segment := rfl
@[simp] theorem takeSlot_trunk_deferred (n : Nat) (f : Option CyclicFrame) (s : State) : (takeSlot n f s).trunk.deferred = s.trunk.deferred := rfl
@[simp] theorem takeSlot_trunk_hearsFrom (n : Nat) (f : Option CyclicFrame) (s : State) : (takeSlot n f s).trunk.hearsFrom = s.trunk.hearsFrom := rfl
@[simp] theorem takeSlot_trunk_window (n : Nat) (f : Option CyclicFrame) (s : State) : (takeSlot n f s).trunk.window = s.trunk.window := rfl
@[simp] theorem takeSlot_trunk_slots (n : Nat) (f : Option CyclicFrame) (s : State) : (takeSlot n f s).trunk.slots = { start := n, held := f, ended := s.trunk.lineClock } :: s.trunk.slots := rfl
@[simp] theorem takeSlot_trunk_ownSlots (n : Nat) (f : Option CyclicFrame) (s : State) : (takeSlot n f s).trunk.ownSlots = s.trunk.ownSlots := rfl
@[simp] theorem takeSlot_trunk_late (n : Nat) (f : Option CyclicFrame) (s : State) : (takeSlot n f s).trunk.late = s.trunk.late := rfl
@[simp] theorem takeSlot_trunk_earlyWalk (n : Nat) (f : Option CyclicFrame) (s : State) : (takeSlot n f s).trunk.earlyWalk = s.trunk.earlyWalk := rfl
@[simp] theorem takeSlot_cycle (n : Nat) (f : Option CyclicFrame) (s : State) : (takeSlot n f s).cycle = s.cycle := rfl
@[simp] theorem takeSlot_sched (n : Nat) (f : Option CyclicFrame) (s : State) : (takeSlot n f s).sched = s.sched := rfl
@[simp] theorem takeSlot_channels (n : Nat) (f : Option CyclicFrame) (s : State) : (takeSlot n f s).channels = s.channels := rfl
@[simp] theorem takeSlot_tx (n : Nat) (f : Option CyclicFrame) (s : State) : (takeSlot n f s).tx = s.tx := rfl
@[simp] theorem takeSlot_rx (n : Nat) (f : Option CyclicFrame) (s : State) : (takeSlot n f s).rx = s.rx := rfl
@[simp] theorem takeSlot_notices (n : Nat) (f : Option CyclicFrame) (s : State) : (takeSlot n f s).notices = s.notices := rfl
@[simp] theorem takeSlot_link (n : Nat) (f : Option CyclicFrame) (s : State) : (takeSlot n f s).link = s.link := rfl
@[simp] theorem takeSlot_pending (n : Nat) (f : Option CyclicFrame) (s : State) : (takeSlot n f s).pending = s.pending := rfl

/-! heard -/

@[simp] theorem heard_trunk_lineClock (s : State) : (heard s).trunk.lineClock = s.trunk.lineClock := rfl
@[simp] theorem heard_trunk_crcErrors (s : State) : (heard s).trunk.crcErrors = s.trunk.crcErrors := rfl
@[simp] theorem heard_trunk_malformed (s : State) : (heard s).trunk.malformed = s.trunk.malformed := rfl
@[simp] theorem heard_trunk_wrongSlot (s : State) : (heard s).trunk.wrongSlot = s.trunk.wrongSlot := rfl
@[simp] theorem heard_trunk_stray (s : State) : (heard s).trunk.stray = s.trunk.stray := rfl
@[simp] theorem heard_trunk_disturbed (s : State) : (heard s).trunk.disturbed = s.trunk.disturbed := rfl
@[simp] theorem heard_trunk_txen (s : State) : (heard s).trunk.txen = s.trunk.txen := rfl
@[simp] theorem heard_trunk_sending (s : State) : (heard s).trunk.sending = s.trunk.sending := rfl
@[simp] theorem heard_trunk_segment (s : State) : (heard s).trunk.segment = s.trunk.segment := rfl
@[simp] theorem heard_trunk_deferred (s : State) : (heard s).trunk.deferred = s.trunk.deferred := rfl
@[simp] theorem heard_trunk_hearsFrom (s : State) : (heard s).trunk.hearsFrom = none := rfl
@[simp] theorem heard_trunk_window (s : State) : (heard s).trunk.window = s.trunk.window := rfl
@[simp] theorem heard_trunk_slots (s : State) : (heard s).trunk.slots = s.trunk.slots := rfl
@[simp] theorem heard_trunk_ownSlots (s : State) : (heard s).trunk.ownSlots = s.trunk.ownSlots := rfl
@[simp] theorem heard_trunk_late (s : State) : (heard s).trunk.late = s.trunk.late := rfl
@[simp] theorem heard_trunk_earlyWalk (s : State) : (heard s).trunk.earlyWalk = s.trunk.earlyWalk := rfl
@[simp] theorem heard_cycle (s : State) : (heard s).cycle = s.cycle := rfl
@[simp] theorem heard_sched (s : State) : (heard s).sched = s.sched := rfl
@[simp] theorem heard_channels (s : State) : (heard s).channels = s.channels := rfl
@[simp] theorem heard_tx (s : State) : (heard s).tx = s.tx := rfl
@[simp] theorem heard_rx (s : State) : (heard s).rx = s.rx := rfl
@[simp] theorem heard_notices (s : State) : (heard s).notices = s.notices := rfl
@[simp] theorem heard_link (s : State) : (heard s).link = s.link := rfl
@[simp] theorem heard_pending (s : State) : (heard s).pending = s.pending := rfl

/-! hearFromNow -/

@[simp] theorem hearFromNow_trunk_lineClock (s : State) : (hearFromNow s).trunk.lineClock = s.trunk.lineClock := rfl
@[simp] theorem hearFromNow_trunk_crcErrors (s : State) : (hearFromNow s).trunk.crcErrors = s.trunk.crcErrors := rfl
@[simp] theorem hearFromNow_trunk_malformed (s : State) : (hearFromNow s).trunk.malformed = s.trunk.malformed := rfl
@[simp] theorem hearFromNow_trunk_wrongSlot (s : State) : (hearFromNow s).trunk.wrongSlot = s.trunk.wrongSlot := rfl
@[simp] theorem hearFromNow_trunk_stray (s : State) : (hearFromNow s).trunk.stray = s.trunk.stray := rfl
@[simp] theorem hearFromNow_trunk_disturbed (s : State) : (hearFromNow s).trunk.disturbed = s.trunk.disturbed := rfl
@[simp] theorem hearFromNow_trunk_txen (s : State) : (hearFromNow s).trunk.txen = s.trunk.txen := rfl
@[simp] theorem hearFromNow_trunk_sending (s : State) : (hearFromNow s).trunk.sending = s.trunk.sending := rfl
@[simp] theorem hearFromNow_trunk_segment (s : State) : (hearFromNow s).trunk.segment = s.trunk.segment := rfl
@[simp] theorem hearFromNow_trunk_deferred (s : State) : (hearFromNow s).trunk.deferred = s.trunk.deferred := rfl
@[simp] theorem hearFromNow_trunk_hearsFrom (s : State) : (hearFromNow s).trunk.hearsFrom = some s.trunk.lineClock := rfl
@[simp] theorem hearFromNow_trunk_window (s : State) : (hearFromNow s).trunk.window = s.trunk.window := rfl
@[simp] theorem hearFromNow_trunk_slots (s : State) : (hearFromNow s).trunk.slots = s.trunk.slots := rfl
@[simp] theorem hearFromNow_trunk_ownSlots (s : State) : (hearFromNow s).trunk.ownSlots = s.trunk.ownSlots := rfl
@[simp] theorem hearFromNow_trunk_late (s : State) : (hearFromNow s).trunk.late = s.trunk.late := rfl
@[simp] theorem hearFromNow_trunk_earlyWalk (s : State) : (hearFromNow s).trunk.earlyWalk = s.trunk.earlyWalk := rfl
@[simp] theorem hearFromNow_cycle (s : State) : (hearFromNow s).cycle = s.cycle := rfl
@[simp] theorem hearFromNow_sched (s : State) : (hearFromNow s).sched = s.sched := rfl
@[simp] theorem hearFromNow_channels (s : State) : (hearFromNow s).channels = s.channels := rfl
@[simp] theorem hearFromNow_tx (s : State) : (hearFromNow s).tx = s.tx := rfl
@[simp] theorem hearFromNow_rx (s : State) : (hearFromNow s).rx = s.rx := rfl
@[simp] theorem hearFromNow_notices (s : State) : (hearFromNow s).notices = s.notices := rfl
@[simp] theorem hearFromNow_link (s : State) : (hearFromNow s).link = s.link := rfl
@[simp] theorem hearFromNow_pending (s : State) : (hearFromNow s).pending = s.pending := rfl

/-! withTakeUp -/

@[simp] theorem withTakeUp_sched_active (t : TakeUp) (s : State) : (s.withTakeUp t).sched.active = s.sched.active := rfl
@[simp] theorem withTakeUp_sched_staged (t : TakeUp) (s : State) : (s.withTakeUp t).sched.staged = s.sched.staged := rfl
@[simp] theorem withTakeUp_sched_unready (t : TakeUp) (s : State) : (s.withTakeUp t).sched.unready = s.sched.unready := rfl
@[simp] theorem withTakeUp_sched_adoption (t : TakeUp) (s : State) : (s.withTakeUp t).sched.adoption = s.sched.adoption := rfl
@[simp] theorem withTakeUp_sched_lastSwitch (t : TakeUp) (s : State) : (s.withTakeUp t).sched.lastSwitch = s.sched.lastSwitch := rfl
@[simp] theorem withTakeUp_sched_takeUp (t : TakeUp) (s : State) : (s.withTakeUp t).sched.takeUp = t := rfl
@[simp] theorem withTakeUp_trunk (t : TakeUp) (s : State) : (s.withTakeUp t).trunk = s.trunk := rfl
@[simp] theorem withTakeUp_cycle (t : TakeUp) (s : State) : (s.withTakeUp t).cycle = s.cycle := rfl
@[simp] theorem withTakeUp_channels (t : TakeUp) (s : State) : (s.withTakeUp t).channels = s.channels := rfl
@[simp] theorem withTakeUp_tx (t : TakeUp) (s : State) : (s.withTakeUp t).tx = s.tx := rfl
@[simp] theorem withTakeUp_rx (t : TakeUp) (s : State) : (s.withTakeUp t).rx = s.rx := rfl
@[simp] theorem withTakeUp_notices (t : TakeUp) (s : State) : (s.withTakeUp t).notices = s.notices := rfl
@[simp] theorem withTakeUp_link (t : TakeUp) (s : State) : (s.withTakeUp t).link = s.link := rfl
@[simp] theorem withTakeUp_pending (t : TakeUp) (s : State) : (s.withTakeUp t).pending = s.pending := rfl

/-! removeNotices -/

@[simp] theorem removeNotices_notices_queue (k : Nat) (s : State) : (removeNotices k s).notices.queue = s.notices.queue.drop k := rfl
@[simp] theorem removeNotices_notices_delivered (k : Nat) (s : State) : (removeNotices k s).notices.delivered = s.notices.delivered - k := rfl
@[simp] theorem removeNotices_notices_nextSeq (k : Nat) (s : State) : (removeNotices k s).notices.nextSeq = s.notices.nextSeq := rfl
@[simp] theorem removeNotices_notices_lost (k : Nat) (s : State) : (removeNotices k s).notices.lost = s.notices.lost := rfl
@[simp] theorem removeNotices_notices_disabled (k : Nat) (s : State) : (removeNotices k s).notices.disabled = s.notices.disabled := rfl
@[simp] theorem removeNotices_trunk (k : Nat) (s : State) : (removeNotices k s).trunk = s.trunk := rfl
@[simp] theorem removeNotices_cycle (k : Nat) (s : State) : (removeNotices k s).cycle = s.cycle := rfl
@[simp] theorem removeNotices_sched (k : Nat) (s : State) : (removeNotices k s).sched = s.sched := rfl
@[simp] theorem removeNotices_channels (k : Nat) (s : State) : (removeNotices k s).channels = s.channels := rfl
@[simp] theorem removeNotices_tx (k : Nat) (s : State) : (removeNotices k s).tx = s.tx := rfl
@[simp] theorem removeNotices_rx (k : Nat) (s : State) : (removeNotices k s).rx = s.rx := rfl
@[simp] theorem removeNotices_link (k : Nat) (s : State) : (removeNotices k s).link = s.link := rfl
@[simp] theorem removeNotices_pending (k : Nat) (s : State) : (removeNotices k s).pending = s.pending := rfl

/-! takeNotice -/

@[simp] theorem takeNotice_notices_queue (s : State) : (takeNotice s).notices.queue = s.notices.queue := rfl
@[simp] theorem takeNotice_notices_delivered (s : State) : (takeNotice s).notices.delivered = s.notices.delivered + 1 := rfl
@[simp] theorem takeNotice_notices_nextSeq (s : State) : (takeNotice s).notices.nextSeq = s.notices.nextSeq := rfl
@[simp] theorem takeNotice_notices_lost (s : State) : (takeNotice s).notices.lost = s.notices.lost := rfl
@[simp] theorem takeNotice_notices_disabled (s : State) : (takeNotice s).notices.disabled = s.notices.disabled := rfl
@[simp] theorem takeNotice_trunk (s : State) : (takeNotice s).trunk = s.trunk := rfl
@[simp] theorem takeNotice_cycle (s : State) : (takeNotice s).cycle = s.cycle := rfl
@[simp] theorem takeNotice_sched (s : State) : (takeNotice s).sched = s.sched := rfl
@[simp] theorem takeNotice_channels (s : State) : (takeNotice s).channels = s.channels := rfl
@[simp] theorem takeNotice_tx (s : State) : (takeNotice s).tx = s.tx := rfl
@[simp] theorem takeNotice_rx (s : State) : (takeNotice s).rx = s.rx := rfl
@[simp] theorem takeNotice_link (s : State) : (takeNotice s).link = s.link := rfl
@[simp] theorem takeNotice_pending (s : State) : (takeNotice s).pending = s.pending := rfl

/-! rewindNotices -/

@[simp] theorem rewindNotices_notices_queue (s : State) : (rewindNotices s).notices.queue = s.notices.queue := rfl
@[simp] theorem rewindNotices_notices_delivered (s : State) : (rewindNotices s).notices.delivered = 0 := rfl
@[simp] theorem rewindNotices_notices_nextSeq (s : State) : (rewindNotices s).notices.nextSeq = s.notices.nextSeq := rfl
@[simp] theorem rewindNotices_notices_lost (s : State) : (rewindNotices s).notices.lost = s.notices.lost := rfl
@[simp] theorem rewindNotices_notices_disabled (s : State) : (rewindNotices s).notices.disabled = s.notices.disabled := rfl
@[simp] theorem rewindNotices_trunk (s : State) : (rewindNotices s).trunk = s.trunk := rfl
@[simp] theorem rewindNotices_cycle (s : State) : (rewindNotices s).cycle = s.cycle := rfl
@[simp] theorem rewindNotices_sched (s : State) : (rewindNotices s).sched = s.sched := rfl
@[simp] theorem rewindNotices_channels (s : State) : (rewindNotices s).channels = s.channels := rfl
@[simp] theorem rewindNotices_tx (s : State) : (rewindNotices s).tx = s.tx := rfl
@[simp] theorem rewindNotices_rx (s : State) : (rewindNotices s).rx = s.rx := rfl
@[simp] theorem rewindNotices_link (s : State) : (rewindNotices s).link = s.link := rfl
@[simp] theorem rewindNotices_pending (s : State) : (rewindNotices s).pending = s.pending := rfl

/-! hunt -/

@[simp] theorem hunt_link_straps (s : State) : (hunt s).link.straps = s.link.straps := rfl
@[simp] theorem hunt_link_rx (s : State) : (hunt s).link.rx = [] := rfl
@[simp] theorem hunt_link_breakLow (s : State) : (hunt s).link.breakLow = s.link.breakLow := rfl
@[simp] theorem hunt_link_sel (s : State) : (hunt s).link.sel = s.link.sel := rfl
@[simp] theorem hunt_link_buffer (s : State) : (hunt s).link.buffer = s.link.buffer := rfl
@[simp] theorem hunt_link_outbound (s : State) : (hunt s).link.outbound = s.link.outbound := rfl
@[simp] theorem hunt_link_held (s : State) : (hunt s).link.held = s.link.held := rfl
@[simp] theorem hunt_link_attn (s : State) : (hunt s).link.attn = s.link.attn := rfl
@[simp] theorem hunt_trunk (s : State) : (hunt s).trunk = s.trunk := rfl
@[simp] theorem hunt_cycle (s : State) : (hunt s).cycle = s.cycle := rfl
@[simp] theorem hunt_sched (s : State) : (hunt s).sched = s.sched := rfl
@[simp] theorem hunt_channels (s : State) : (hunt s).channels = s.channels := rfl
@[simp] theorem hunt_tx (s : State) : (hunt s).tx = s.tx := rfl
@[simp] theorem hunt_rx (s : State) : (hunt s).rx = s.rx := rfl
@[simp] theorem hunt_notices (s : State) : (hunt s).notices = s.notices := rfl
@[simp] theorem hunt_pending (s : State) : (hunt s).pending = s.pending := rfl

/-! clearLink -/

@[simp] theorem clearLink_link_straps (s : State) : (clearLink s).link.straps = s.link.straps := rfl
@[simp] theorem clearLink_link_rx (s : State) : (clearLink s).link.rx = s.link.rx := rfl
@[simp] theorem clearLink_link_breakLow (s : State) : (clearLink s).link.breakLow = s.link.breakLow := rfl
@[simp] theorem clearLink_link_sel (s : State) : (clearLink s).link.sel = s.link.sel := rfl
@[simp] theorem clearLink_link_buffer (s : State) : (clearLink s).link.buffer = [] := rfl
@[simp] theorem clearLink_link_outbound (s : State) : (clearLink s).link.outbound = none := rfl
@[simp] theorem clearLink_link_held (s : State) : (clearLink s).link.held = none := rfl
@[simp] theorem clearLink_link_attn (s : State) : (clearLink s).link.attn = s.link.attn := rfl
@[simp] theorem clearLink_trunk (s : State) : (clearLink s).trunk = s.trunk := rfl
@[simp] theorem clearLink_cycle (s : State) : (clearLink s).cycle = s.cycle := rfl
@[simp] theorem clearLink_sched (s : State) : (clearLink s).sched = s.sched := rfl
@[simp] theorem clearLink_channels (s : State) : (clearLink s).channels = s.channels := rfl
@[simp] theorem clearLink_tx (s : State) : (clearLink s).tx = s.tx := rfl
@[simp] theorem clearLink_rx (s : State) : (clearLink s).rx = s.rx := rfl
@[simp] theorem clearLink_notices (s : State) : (clearLink s).notices = s.notices := rfl
@[simp] theorem clearLink_pending (s : State) : (clearLink s).pending = s.pending := rfl

/-! dropSel -/

@[simp] theorem dropSel_link_straps (s : State) : (dropSel s).link.straps = s.link.straps := rfl
@[simp] theorem dropSel_link_rx (s : State) : (dropSel s).link.rx = s.link.rx := rfl
@[simp] theorem dropSel_link_breakLow (s : State) : (dropSel s).link.breakLow = s.link.breakLow := rfl
@[simp] theorem dropSel_link_sel (s : State) : (dropSel s).link.sel = false := rfl
@[simp] theorem dropSel_link_buffer (s : State) : (dropSel s).link.buffer = s.link.buffer := rfl
@[simp] theorem dropSel_link_outbound (s : State) : (dropSel s).link.outbound = s.link.outbound := rfl
@[simp] theorem dropSel_link_held (s : State) : (dropSel s).link.held = s.link.held := rfl
@[simp] theorem dropSel_link_attn (s : State) : (dropSel s).link.attn = s.link.attn := rfl
@[simp] theorem dropSel_trunk (s : State) : (dropSel s).trunk = s.trunk := rfl
@[simp] theorem dropSel_cycle (s : State) : (dropSel s).cycle = s.cycle := rfl
@[simp] theorem dropSel_sched (s : State) : (dropSel s).sched = s.sched := rfl
@[simp] theorem dropSel_channels (s : State) : (dropSel s).channels = s.channels := rfl
@[simp] theorem dropSel_tx (s : State) : (dropSel s).tx = s.tx := rfl
@[simp] theorem dropSel_rx (s : State) : (dropSel s).rx = s.rx := rfl
@[simp] theorem dropSel_notices (s : State) : (dropSel s).notices = s.notices := rfl
@[simp] theorem dropSel_pending (s : State) : (dropSel s).pending = s.pending := rfl

/-! withCycle -/

@[simp] theorem withCycle_cycle (c : CycleUnit) (s : State) : (s.withCycle c).cycle = c := rfl
@[simp] theorem withCycle_trunk (c : CycleUnit) (s : State) : (s.withCycle c).trunk = s.trunk := rfl
@[simp] theorem withCycle_sched (c : CycleUnit) (s : State) : (s.withCycle c).sched = s.sched := rfl
@[simp] theorem withCycle_channels (c : CycleUnit) (s : State) : (s.withCycle c).channels = s.channels := rfl
@[simp] theorem withCycle_tx (c : CycleUnit) (s : State) : (s.withCycle c).tx = s.tx := rfl
@[simp] theorem withCycle_rx (c : CycleUnit) (s : State) : (s.withCycle c).rx = s.rx := rfl
@[simp] theorem withCycle_notices (c : CycleUnit) (s : State) : (s.withCycle c).notices = s.notices := rfl
@[simp] theorem withCycle_link (c : CycleUnit) (s : State) : (s.withCycle c).link = s.link := rfl
@[simp] theorem withCycle_pending (c : CycleUnit) (s : State) : (s.withCycle c).pending = s.pending := rfl

/-! withLink -/

@[simp] theorem withLink_link (l : HostLink) (s : State) : (s.withLink l).link = l := rfl
@[simp] theorem withLink_trunk (l : HostLink) (s : State) : (s.withLink l).trunk = s.trunk := rfl
@[simp] theorem withLink_cycle (l : HostLink) (s : State) : (s.withLink l).cycle = s.cycle := rfl
@[simp] theorem withLink_sched (l : HostLink) (s : State) : (s.withLink l).sched = s.sched := rfl
@[simp] theorem withLink_channels (l : HostLink) (s : State) : (s.withLink l).channels = s.channels := rfl
@[simp] theorem withLink_tx (l : HostLink) (s : State) : (s.withLink l).tx = s.tx := rfl
@[simp] theorem withLink_rx (l : HostLink) (s : State) : (s.withLink l).rx = s.rx := rfl
@[simp] theorem withLink_notices (l : HostLink) (s : State) : (s.withLink l).notices = s.notices := rfl
@[simp] theorem withLink_pending (l : HostLink) (s : State) : (s.withLink l).pending = s.pending := rfl

end Sys2Proof.Machine
end

