-- ==== Sys2Proof/Laws/Ops.lean ====
section
/-! SUPPORT. What the shared operations can do, said once each: ending a step, taking a request, giving notices, and the
frames of the operations that several commands share. -/

namespace Sys2Proof.Machine

/-! ### Ending a step -/

theorem finish_eq (s : State) : finish s = .next s.setAttn := rfl

theorem noEvent_eq (s : State) : noEvent s = .next s := rfl

/-- ATTN is its own test: setting it again changes nothing. -/
theorem setAttn_setAttn (s : State) : s.setAttn.setAttn = s.setAttn := rfl

/-- What a taking can do: nothing to take, a wrong length, or the handler's reply over the handler's state. -/
theorem takeRequest_cases (code : Byte) (run : Handler) (s : State) :
    takeRequest code run s = .next s ∨
    (∃ q, oldestAccepted s.link.buffer = some q ∧ q.code = code ∧
      takeRequest code run s = .next (s.answer (badLength q.body)).setAttn) ∨
    ∃ q, oldestAccepted s.link.buffer = some q ∧ q.code = code ∧
      (bodyShape code).any (fun shape => shape.allows q.body) = true ∧
      takeRequest code run s = .next ((run q.body s).2.answer (run q.body s).1).setAttn := by
  unfold takeRequest
  split
  · exact .inl rfl
  · next q hq =>
    split
    · exact .inl rfl
    · next hc =>
      have hc : q.code = code := Decidable.byContradiction hc
      split
      · next hs => exact .inr (.inr ⟨q, hq, hc, hs, rfl⟩)
      · exact .inr (.inl ⟨q, hq, hc, rfl⟩)

/-- A request whose body has an allowed length is answered by its handler. -/
theorem takeRequest_run {code : Byte} {run : Handler} {s : State} {q : Request}
    (hq : oldestAccepted s.link.buffer = some q) (hc : q.code = code)
    (hs : (bodyShape code).any (fun shape => shape.allows q.body) = true) :
    takeRequest code run s = .next ((run q.body s).2.answer (run q.body s).1).setAttn := by
  simp [takeRequest, hq, hc, hs, finish]

/-- What `State.takes` says of the buffer. -/
theorem State.takes_iff (s : State) (code : Byte) (body : List Byte) :
    s.takes code body ↔ ∃ q, oldestAccepted s.link.buffer = some q ∧ q.code = code ∧ q.body = body := by
  unfold State.takes
  cases oldestAccepted s.link.buffer <;> simp

/-- A taken request whose body has an allowed length is answered by its handler. -/
theorem takeRequest_takes {code : Byte} {body : List Byte} {run : Handler} {s : State} (h : s.takes code body)
    (hs : (bodyShape code).any (fun shape => shape.allows body) = true) :
    takeRequest code run s = replied (run body s).1 (run body s).2 := by
  obtain ⟨q, hq, hc, rfl⟩ := (s.takes_iff code body).1 h
  exact takeRequest_run hq hc hs

/-! ### Notices -/

/-- What giving a notice can do: nothing, one more lost, or a record at the end of the queue. -/
theorem giveNotice_cases (b : NoticeBody) (s : State) :
    giveNotice b s = s ∨
    giveNotice b s = { s with notices := { s.notices with lost := min Config.lostMax (s.notices.lost + 1) } } ∨
    giveNotice b s = { s with notices := { s.notices with
      queue := s.notices.queue ++ [{ seq := s.notices.nextSeq, cycle := s.cycleNumber, body := b }],
      nextSeq := s.notices.nextSeq + 1 } } := by
  unfold giveNotice queueNotice
  split
  · exact .inl rfl
  · split
    · exact .inr (.inl rfl)
    · exact .inr (.inr rfl)

/-- R150: giving a notice changes the notice unit alone. -/
theorem giveNotice_frame (b : NoticeBody) (s : State) :
    giveNotice b s = { s with notices := (giveNotice b s).notices } := by
  obtain h | h | h := giveNotice_cases b s <;> rw [h]

@[simp] theorem giveNotice_trunk (b : NoticeBody) (s : State) : (giveNotice b s).trunk = s.trunk := by
  rw [giveNotice_frame]

@[simp] theorem giveNotice_cycle (b : NoticeBody) (s : State) : (giveNotice b s).cycle = s.cycle := by
  rw [giveNotice_frame]

@[simp] theorem giveNotice_sched (b : NoticeBody) (s : State) : (giveNotice b s).sched = s.sched := by
  rw [giveNotice_frame]

@[simp] theorem giveNotice_channels (b : NoticeBody) (s : State) : (giveNotice b s).channels = s.channels := by
  rw [giveNotice_frame]

@[simp] theorem giveNotice_tx (b : NoticeBody) (s : State) : (giveNotice b s).tx = s.tx := by
  rw [giveNotice_frame]

@[simp] theorem giveNotice_rx (b : NoticeBody) (s : State) : (giveNotice b s).rx = s.rx := by
  rw [giveNotice_frame]

@[simp] theorem giveNotice_link (b : NoticeBody) (s : State) : (giveNotice b s).link = s.link := by
  rw [giveNotice_frame]

@[simp] theorem giveNotice_pending (b : NoticeBody) (s : State) : (giveNotice b s).pending = s.pending := by
  rw [giveNotice_frame]

/-- Giving a notice moves neither the delivered run nor the enables. -/
@[simp] theorem giveNotice_delivered (b : NoticeBody) (s : State) :
    (giveNotice b s).notices.delivered = s.notices.delivered := by
  obtain h | h | h := giveNotice_cases b s <;> rw [h]

@[simp] theorem giveNotice_disabled (b : NoticeBody) (s : State) :
    (giveNotice b s).notices.disabled = s.notices.disabled := by
  obtain h | h | h := giveNotice_cases b s <;> rw [h]

@[simp] theorem giveNotices_trunk (l : List NoticeBody) (s : State) : (giveNotices l s).trunk = s.trunk := by
  induction l generalizing s with
  | nil => rfl
  | cons b l ih => exact (ih (giveNotice b s)).trans (giveNotice_trunk b s)

@[simp] theorem giveNotices_cycle (l : List NoticeBody) (s : State) : (giveNotices l s).cycle = s.cycle := by
  induction l generalizing s with
  | nil => rfl
  | cons b l ih => exact (ih (giveNotice b s)).trans (giveNotice_cycle b s)

@[simp] theorem giveNotices_sched (l : List NoticeBody) (s : State) : (giveNotices l s).sched = s.sched := by
  induction l generalizing s with
  | nil => rfl
  | cons b l ih => exact (ih (giveNotice b s)).trans (giveNotice_sched b s)

@[simp] theorem giveNotices_channels (l : List NoticeBody) (s : State) : (giveNotices l s).channels = s.channels := by
  induction l generalizing s with
  | nil => rfl
  | cons b l ih => exact (ih (giveNotice b s)).trans (giveNotice_channels b s)

@[simp] theorem giveNotices_tx (l : List NoticeBody) (s : State) : (giveNotices l s).tx = s.tx := by
  induction l generalizing s with
  | nil => rfl
  | cons b l ih => exact (ih (giveNotice b s)).trans (giveNotice_tx b s)

@[simp] theorem giveNotices_rx (l : List NoticeBody) (s : State) : (giveNotices l s).rx = s.rx := by
  induction l generalizing s with
  | nil => rfl
  | cons b l ih => exact (ih (giveNotice b s)).trans (giveNotice_rx b s)

@[simp] theorem giveNotices_link (l : List NoticeBody) (s : State) : (giveNotices l s).link = s.link := by
  induction l generalizing s with
  | nil => rfl
  | cons b l ih => exact (ih (giveNotice b s)).trans (giveNotice_link b s)

@[simp] theorem giveNotices_pending (l : List NoticeBody) (s : State) : (giveNotices l s).pending = s.pending := by
  induction l generalizing s with
  | nil => rfl
  | cons b l ih => exact (ih (giveNotice b s)).trans (giveNotice_pending b s)

/-- R150: giving notices changes the notice unit alone. -/
theorem giveNotices_frame (l : List NoticeBody) (s : State) :
    giveNotices l s = { s with notices := (giveNotices l s).notices } := by
  rw [State.mk.injEq]
  simp

/-! ### Blocks and contexts -/

/-- R102: examining the room watch touches the watch and the notices. -/
theorem examineRoom_cases (n : Nat) (s : State) :
    examineRoom n s = s ∨
    (0 < n ∧ s.tx.roomWatch = true ∧ Config.roomLevel ≤ s.tx.free ∧ examineRoom n s =
      giveNotice (.txRoom s.tx.free) { s with tx := { s.tx with roomWatch := false } }) := by
  unfold examineRoom
  split
  · next h => simp only [Bool.and_eq_true, decide_eq_true_eq] at h; exact .inr ⟨h.1.1, h.1.2, h.2, rfl⟩
  · exact .inl rfl

@[simp] theorem examineRoom_queue (n : Nat) (s : State) : (examineRoom n s).tx.queue = s.tx.queue := by
  obtain h | ⟨_, _, _, h⟩ := examineRoom_cases n s <;> simp [h]

@[simp] theorem examineRoom_free (n : Nat) (s : State) : (examineRoom n s).tx.free = s.tx.free := by
  obtain h | ⟨_, _, _, h⟩ := examineRoom_cases n s <;> simp [h]

@[simp] theorem examineRoom_onLine (n : Nat) (s : State) : (examineRoom n s).tx.onLine = s.tx.onLine := by
  obtain h | ⟨_, _, _, h⟩ := examineRoom_cases n s <;> simp [h]

@[simp] theorem examineRoom_idCounter (n : Nat) (s : State) : (examineRoom n s).tx.idCounter = s.tx.idCounter := by
  obtain h | ⟨_, _, _, h⟩ := examineRoom_cases n s <;> simp [h]

@[simp] theorem examineRoom_trunk (n : Nat) (s : State) : (examineRoom n s).trunk = s.trunk := by
  obtain h | ⟨_, _, _, h⟩ := examineRoom_cases n s <;> simp [h]

@[simp] theorem examineRoom_cycle (n : Nat) (s : State) : (examineRoom n s).cycle = s.cycle := by
  obtain h | ⟨_, _, _, h⟩ := examineRoom_cases n s <;> simp [h]

@[simp] theorem examineRoom_sched (n : Nat) (s : State) : (examineRoom n s).sched = s.sched := by
  obtain h | ⟨_, _, _, h⟩ := examineRoom_cases n s <;> simp [h]

@[simp] theorem examineRoom_channels (n : Nat) (s : State) : (examineRoom n s).channels = s.channels := by
  obtain h | ⟨_, _, _, h⟩ := examineRoom_cases n s <;> simp [h]

@[simp] theorem examineRoom_rx (n : Nat) (s : State) : (examineRoom n s).rx = s.rx := by
  obtain h | ⟨_, _, _, h⟩ := examineRoom_cases n s <;> simp [h]

@[simp] theorem examineRoom_link (n : Nat) (s : State) : (examineRoom n s).link = s.link := by
  obtain h | ⟨_, _, _, h⟩ := examineRoom_cases n s <;> simp [h]

@[simp] theorem examineRoom_pending (n : Nat) (s : State) : (examineRoom n s).pending = s.pending := by
  obtain h | ⟨_, _, _, h⟩ := examineRoom_cases n s <;> simp [h]

/-- R113, R116, R117, R119: a message that fails leaves the queue, its blocks go back, and nothing of the other units
but the notices changes. -/
theorem failFirst_tx (m : Message) (rest : List Message) (reason : FailReason) (a : Bool) (s : State) :
    (failFirst m rest reason a s).tx.queue = rest ∧ (failFirst m rest reason a s).tx.free = s.tx.free + m.blocks ∧
    (failFirst m rest reason a s).tx.onLine = s.tx.onLine ∧
    (failFirst m rest reason a s).tx.idCounter = s.tx.idCounter := by
  simp [failFirst]

@[simp] theorem failFirst_trunk (m : Message) (rest : List Message) (reason : FailReason) (a : Bool) (s : State) :
    (failFirst m rest reason a s).trunk = s.trunk := by
  simp [failFirst]

@[simp] theorem failFirst_cycle (m : Message) (rest : List Message) (reason : FailReason) (a : Bool) (s : State) :
    (failFirst m rest reason a s).cycle = s.cycle := by
  simp [failFirst]

@[simp] theorem failFirst_sched (m : Message) (rest : List Message) (reason : FailReason) (a : Bool) (s : State) :
    (failFirst m rest reason a s).sched = s.sched := by
  simp [failFirst]

@[simp] theorem failFirst_channels (m : Message) (rest : List Message) (reason : FailReason) (a : Bool) (s : State) :
    (failFirst m rest reason a s).channels = s.channels := by
  simp [failFirst]

@[simp] theorem failFirst_rx (m : Message) (rest : List Message) (reason : FailReason) (a : Bool) (s : State) :
    (failFirst m rest reason a s).rx = s.rx := by
  simp [failFirst]

@[simp] theorem failFirst_link (m : Message) (rest : List Message) (reason : FailReason) (a : Bool) (s : State) :
    (failFirst m rest reason a s).link = s.link := by
  simp [failFirst]

@[simp] theorem failFirst_pending (m : Message) (rest : List Message) (reason : FailReason) (a : Bool) (s : State) :
    (failFirst m rest reason a s).pending = s.pending := by
  simp [failFirst]

/-- R134: a broken context leaves its place, and its blocks go back. -/
theorem breakContext_rx (p : Nat) (c : Context) (reason : DropReason) (s : State) :
    (breakContext p c reason s).rx =
      { s.rx with places := s.rx.places.set p none, free := s.rx.free + c.blocks } := by
  simp [breakContext]; rfl

@[simp] theorem breakContext_trunk (p : Nat) (c : Context) (reason : DropReason) (s : State) :
    (breakContext p c reason s).trunk = s.trunk := by
  simp [breakContext]

@[simp] theorem breakWhere_trunk (test : Context → Bool) (reason : DropReason) (l : List Nat) (s : State) :
    (breakWhere test reason l s).trunk = s.trunk := by
  induction l generalizing s with
  | nil => rfl
  | cons p l ih =>
    unfold breakWhere
    split
    · rw [ih]; split <;> simp
    · exact ih s
    · exact ih s

@[simp] theorem breakContext_cycle (p : Nat) (c : Context) (reason : DropReason) (s : State) :
    (breakContext p c reason s).cycle = s.cycle := by
  simp [breakContext]

@[simp] theorem breakWhere_cycle (test : Context → Bool) (reason : DropReason) (l : List Nat) (s : State) :
    (breakWhere test reason l s).cycle = s.cycle := by
  induction l generalizing s with
  | nil => rfl
  | cons p l ih =>
    unfold breakWhere
    split
    · rw [ih]; split <;> simp
    · exact ih s
    · exact ih s

@[simp] theorem breakContext_sched (p : Nat) (c : Context) (reason : DropReason) (s : State) :
    (breakContext p c reason s).sched = s.sched := by
  simp [breakContext]

@[simp] theorem breakWhere_sched (test : Context → Bool) (reason : DropReason) (l : List Nat) (s : State) :
    (breakWhere test reason l s).sched = s.sched := by
  induction l generalizing s with
  | nil => rfl
  | cons p l ih =>
    unfold breakWhere
    split
    · rw [ih]; split <;> simp
    · exact ih s
    · exact ih s

@[simp] theorem breakContext_channels (p : Nat) (c : Context) (reason : DropReason) (s : State) :
    (breakContext p c reason s).channels = s.channels := by
  simp [breakContext]

@[simp] theorem breakWhere_channels (test : Context → Bool) (reason : DropReason) (l : List Nat) (s : State) :
    (breakWhere test reason l s).channels = s.channels := by
  induction l generalizing s with
  | nil => rfl
  | cons p l ih =>
    unfold breakWhere
    split
    · rw [ih]; split <;> simp
    · exact ih s
    · exact ih s

@[simp] theorem breakContext_tx (p : Nat) (c : Context) (reason : DropReason) (s : State) :
    (breakContext p c reason s).tx = s.tx := by
  simp [breakContext]

@[simp] theorem breakWhere_tx (test : Context → Bool) (reason : DropReason) (l : List Nat) (s : State) :
    (breakWhere test reason l s).tx = s.tx := by
  induction l generalizing s with
  | nil => rfl
  | cons p l ih =>
    unfold breakWhere
    split
    · rw [ih]; split <;> simp
    · exact ih s
    · exact ih s

@[simp] theorem breakContext_link (p : Nat) (c : Context) (reason : DropReason) (s : State) :
    (breakContext p c reason s).link = s.link := by
  simp [breakContext]

@[simp] theorem breakWhere_link (test : Context → Bool) (reason : DropReason) (l : List Nat) (s : State) :
    (breakWhere test reason l s).link = s.link := by
  induction l generalizing s with
  | nil => rfl
  | cons p l ih =>
    unfold breakWhere
    split
    · rw [ih]; split <;> simp
    · exact ih s
    · exact ih s

@[simp] theorem breakContext_pending (p : Nat) (c : Context) (reason : DropReason) (s : State) :
    (breakContext p c reason s).pending = s.pending := by
  simp [breakContext]

@[simp] theorem breakWhere_pending (test : Context → Bool) (reason : DropReason) (l : List Nat) (s : State) :
    (breakWhere test reason l s).pending = s.pending := by
  induction l generalizing s with
  | nil => rfl
  | cons p l ih =>
    unfold breakWhere
    split
    · rw [ih]; split <;> simp
    · exact ih s
    · exact ih s

end Sys2Proof.Machine
end

