-- ==== Sys2Proof/WellFormed.lean ====
section
/-! DEFINITION. Which commands are well formed: the operands that some part on some trunk can meet.
`exec` does not ask for it: an ill-formed command names a slot or a frame that no bank or line can hold, and it
finds nothing to act on. -/

namespace Sys2Proof

/-- R49: the start of a CYCLIC entry lies from 24 to the greatest cycle length less 8 less the shortest slot of 13. -/
def cyclicStartOk (start : Nat) : Bool :=
  Config.firstStart ≤ start && start + 13 + Config.endClear ≤ Config.maxCycle

/-- R49: the start of an OPEN entry lies from 24 to the greatest cycle length less 8 less its 64 byte times. -/
def openStartOk (start : Nat) : Bool :=
  Config.firstStart ≤ start && start + Config.openLength + Config.endClear ≤ Config.maxCycle

/-- R1: a frame begins at a dominant bit, so that at least one byte of it is on the line. -/
def lineBytesOk (bytes : List Byte) : Bool :=
  !bytes.isEmpty

/-- R12: a lead that the interface can join begins in the 4 byte times from the window's opening to the slot's start. -/
def openLineOk : OpenLine → Bool
  | .leadSeen after => after < 4
  | .quiet | .busy | .quietAfter _ => true

/-- The operand checks of a command. -/
def Instr.wf : Instr → Bool
  | .hostFrameReceived bytes => lineBytesOk bytes
  | .trunkFrameReceived _ bytes => lineBytesOk bytes
  | .syncLocked _ bytes => lineBytesOk bytes
  | .cyclicSlotStart start => cyclicStartOk start
  | .cyclicSlotEnd start => cyclicStartOk start
  | .channelLost start => cyclicStartOk start
  | .openSlotWindowOpens slot => openStartOk slot.start && openLineOk slot.line
  | .identify | .setNode | .setCycle | .goOnline | .goOffline | .resetNode | .readSync => true
  | .stageBegin | .stageAdd | .stageRemove | .stageClose | .stageDiscard | .readSchedule | .commit | .cancel => true
  | .bindChannel | .unbindChannel | .writeChannel | .readChannel | .readChannels => true
  | .sendMessage | .messagePiece | .abortMessage | .readOutbound => true
  | .setGroups | .readMessage | .releaseMessage | .readInbound | .noticeMask | .ackNotices | .readCounts => true
  | .badRequest | .lineBreak | .framingFault | .gap | .selNegated | .outboundSelect | .replySent => true
  | .powerOnReset _ _ _ | .claimWindowExpires | .cycleStart | .conflictEpisodeEnd | .messageStarved => true
  | .messageContention | .abortAttemptsExhausted | .contextTimeout | .completionRecordLapse => true
  | .cycleStartWindowCloses | .syncLost | .takeover | .segmentWon | .segmentLost | .segmentDisturbed => true
  | .messageTrunkFault | .ownFrameMismatch | .ownFrameSent | .noticeFrameSent | .breakEnd => true

end Sys2Proof
end

