-- ==== Sys2Proof/Laws/PerInstr.lean ====
section
/-! SUPPORT. What holds of each command as syntax, one lemma per constructor. -/

namespace Sys2Proof.Laws

/-- 10.3: a command that has a request code has allowed body lengths for it, and no operand that could be ill formed. -/
def RequestCode.Statement (i : Instr) : Prop :=
  ∀ code, Machine.requestCode i = some code → (Machine.bodyShape code).isSome ∧ i.wf = true

theorem RequestCode.identify : RequestCode.Statement .identify := by
  intro code h; cases h; exact ⟨rfl, rfl⟩

theorem RequestCode.setNode : RequestCode.Statement .setNode := by
  intro code h; cases h; exact ⟨rfl, rfl⟩

theorem RequestCode.setCycle : RequestCode.Statement .setCycle := by
  intro code h; cases h; exact ⟨rfl, rfl⟩

theorem RequestCode.goOnline : RequestCode.Statement .goOnline := by
  intro code h; cases h; exact ⟨rfl, rfl⟩

theorem RequestCode.goOffline : RequestCode.Statement .goOffline := by
  intro code h; cases h; exact ⟨rfl, rfl⟩

theorem RequestCode.resetNode : RequestCode.Statement .resetNode := by
  intro code h; cases h; exact ⟨rfl, rfl⟩

theorem RequestCode.readSync : RequestCode.Statement .readSync := by
  intro code h; cases h; exact ⟨rfl, rfl⟩

theorem RequestCode.stageBegin : RequestCode.Statement .stageBegin := by
  intro code h; cases h; exact ⟨rfl, rfl⟩

theorem RequestCode.stageAdd : RequestCode.Statement .stageAdd := by
  intro code h; cases h; exact ⟨rfl, rfl⟩

theorem RequestCode.stageRemove : RequestCode.Statement .stageRemove := by
  intro code h; cases h; exact ⟨rfl, rfl⟩

theorem RequestCode.stageClose : RequestCode.Statement .stageClose := by
  intro code h; cases h; exact ⟨rfl, rfl⟩

theorem RequestCode.stageDiscard : RequestCode.Statement .stageDiscard := by
  intro code h; cases h; exact ⟨rfl, rfl⟩

theorem RequestCode.readSchedule : RequestCode.Statement .readSchedule := by
  intro code h; cases h; exact ⟨rfl, rfl⟩

theorem RequestCode.commit : RequestCode.Statement .commit := by
  intro code h; cases h; exact ⟨rfl, rfl⟩

theorem RequestCode.cancel : RequestCode.Statement .cancel := by
  intro code h; cases h; exact ⟨rfl, rfl⟩

theorem RequestCode.bindChannel : RequestCode.Statement .bindChannel := by
  intro code h; cases h; exact ⟨rfl, rfl⟩

theorem RequestCode.unbindChannel : RequestCode.Statement .unbindChannel := by
  intro code h; cases h; exact ⟨rfl, rfl⟩

theorem RequestCode.writeChannel : RequestCode.Statement .writeChannel := by
  intro code h; cases h; exact ⟨rfl, rfl⟩

theorem RequestCode.readChannel : RequestCode.Statement .readChannel := by
  intro code h; cases h; exact ⟨rfl, rfl⟩

theorem RequestCode.readChannels : RequestCode.Statement .readChannels := by
  intro code h; cases h; exact ⟨rfl, rfl⟩

theorem RequestCode.sendMessage : RequestCode.Statement .sendMessage := by
  intro code h; cases h; exact ⟨rfl, rfl⟩

theorem RequestCode.messagePiece : RequestCode.Statement .messagePiece := by
  intro code h; cases h; exact ⟨rfl, rfl⟩

theorem RequestCode.abortMessage : RequestCode.Statement .abortMessage := by
  intro code h; cases h; exact ⟨rfl, rfl⟩

theorem RequestCode.readOutbound : RequestCode.Statement .readOutbound := by
  intro code h; cases h; exact ⟨rfl, rfl⟩

theorem RequestCode.setGroups : RequestCode.Statement .setGroups := by
  intro code h; cases h; exact ⟨rfl, rfl⟩

theorem RequestCode.readMessage : RequestCode.Statement .readMessage := by
  intro code h; cases h; exact ⟨rfl, rfl⟩

theorem RequestCode.releaseMessage : RequestCode.Statement .releaseMessage := by
  intro code h; cases h; exact ⟨rfl, rfl⟩

theorem RequestCode.readInbound : RequestCode.Statement .readInbound := by
  intro code h; cases h; exact ⟨rfl, rfl⟩

theorem RequestCode.noticeMask : RequestCode.Statement .noticeMask := by
  intro code h; cases h; exact ⟨rfl, rfl⟩

theorem RequestCode.ackNotices : RequestCode.Statement .ackNotices := by
  intro code h; cases h; exact ⟨rfl, rfl⟩

theorem RequestCode.readCounts : RequestCode.Statement .readCounts := by
  intro code h; cases h; exact ⟨rfl, rfl⟩

theorem RequestCode.badRequest : RequestCode.Statement .badRequest := by
  intro code h; cases h

theorem RequestCode.hostFrameReceived (bytes : List Byte) : RequestCode.Statement (.hostFrameReceived bytes) := by
  intro code h; cases h

theorem RequestCode.lineBreak : RequestCode.Statement .lineBreak := by
  intro code h; cases h

theorem RequestCode.framingFault : RequestCode.Statement .framingFault := by
  intro code h; cases h

theorem RequestCode.gap : RequestCode.Statement .gap := by
  intro code h; cases h

theorem RequestCode.selNegated : RequestCode.Statement .selNegated := by
  intro code h; cases h

theorem RequestCode.outboundSelect : RequestCode.Statement .outboundSelect := by
  intro code h; cases h

theorem RequestCode.replySent : RequestCode.Statement .replySent := by
  intro code h; cases h

theorem RequestCode.powerOnReset (mode rate1 rate0 : Bool) : RequestCode.Statement (.powerOnReset mode rate1 rate0) := by
  intro code h; cases h

theorem RequestCode.claimWindowExpires : RequestCode.Statement .claimWindowExpires := by
  intro code h; cases h

theorem RequestCode.cycleStart : RequestCode.Statement .cycleStart := by
  intro code h; cases h

theorem RequestCode.conflictEpisodeEnd : RequestCode.Statement .conflictEpisodeEnd := by
  intro code h; cases h

theorem RequestCode.messageStarved : RequestCode.Statement .messageStarved := by
  intro code h; cases h

theorem RequestCode.messageContention : RequestCode.Statement .messageContention := by
  intro code h; cases h

theorem RequestCode.abortAttemptsExhausted : RequestCode.Statement .abortAttemptsExhausted := by
  intro code h; cases h

theorem RequestCode.contextTimeout : RequestCode.Statement .contextTimeout := by
  intro code h; cases h

theorem RequestCode.completionRecordLapse : RequestCode.Statement .completionRecordLapse := by
  intro code h; cases h

theorem RequestCode.trunkFrameReceived (stamp : Word) (bytes : List Byte) : RequestCode.Statement (.trunkFrameReceived stamp bytes) := by
  intro code h; cases h

theorem RequestCode.cycleStartWindowCloses : RequestCode.Statement .cycleStartWindowCloses := by
  intro code h; cases h

theorem RequestCode.syncLost : RequestCode.Statement .syncLost := by
  intro code h; cases h

theorem RequestCode.takeover : RequestCode.Statement .takeover := by
  intro code h; cases h

theorem RequestCode.syncLocked (stamp : Word) (bytes : List Byte) : RequestCode.Statement (.syncLocked stamp bytes) := by
  intro code h; cases h

theorem RequestCode.cyclicSlotStart (start : Nat) : RequestCode.Statement (.cyclicSlotStart start) := by
  intro code h; cases h

theorem RequestCode.cyclicSlotEnd (start : Nat) : RequestCode.Statement (.cyclicSlotEnd start) := by
  intro code h; cases h

theorem RequestCode.channelLost (start : Nat) : RequestCode.Statement (.channelLost start) := by
  intro code h; cases h

theorem RequestCode.openSlotWindowOpens (slot : OpenSlotWindow) :
    RequestCode.Statement (.openSlotWindowOpens slot) := by
  intro code h; cases h

theorem RequestCode.segmentWon : RequestCode.Statement .segmentWon := by
  intro code h; cases h

theorem RequestCode.segmentLost : RequestCode.Statement .segmentLost := by
  intro code h; cases h

theorem RequestCode.segmentDisturbed : RequestCode.Statement .segmentDisturbed := by
  intro code h; cases h

theorem RequestCode.messageTrunkFault : RequestCode.Statement .messageTrunkFault := by
  intro code h; cases h

theorem RequestCode.ownFrameMismatch : RequestCode.Statement .ownFrameMismatch := by
  intro code h; cases h

theorem RequestCode.ownFrameSent : RequestCode.Statement .ownFrameSent := by
  intro code h; cases h

theorem RequestCode.noticeFrameSent : RequestCode.Statement .noticeFrameSent := by
  intro code h; cases h

theorem RequestCode.breakEnd : RequestCode.Statement .breakEnd := by
  intro code h; cases h

end Sys2Proof.Laws
end

