-- ==== Sys2Proof/Laws/Trunk.lean ====
section
/-! SUPPORT. What the operations of the trunk interface can do, said once each: frames received, slots, segments, the end of
a frame of the node's own. -/

namespace Sys2Proof.Machine

/-! ### The line clock and a segment's first bit -/

@[simp] theorem TrunkInterface.reach_sending (i : TrunkInterface) (t : Word) : (i.reach t).sending = i.sending := rfl
@[simp] theorem TrunkInterface.reach_deferred (i : TrunkInterface) (t : Word) : (i.reach t).deferred = i.deferred := rfl
@[simp] theorem TrunkInterface.reach_ownSlots (i : TrunkInterface) (t : Word) : (i.reach t).ownSlots = i.ownSlots := rfl
@[simp] theorem TrunkInterface.reach_lineClock (i : TrunkInterface) (t : Word) : (i.reach t).lineClock = t := rfl

/-- R12: at an instant a segment is as it was, or it was waiting for its first bit and that has come. -/
theorem OwnSegment.asOf_cases (g : OwnSegment) (t : Word) :
    (g.beginsBy t = false ∧ g.asOf t = g) ∨
    ∃ since, g.way = .waits since ∧ 0 ≤ offsetFrom since t ∧ g.beginsBy t = true ∧
      g.asOf t = { g with way := .sends since } := by
  obtain ⟨bytes, start, way⟩ := g
  cases way with
  | waits since =>
    by_cases h : 0 ≤ offsetFrom since t
    · exact .inr ⟨since, rfl, h, by simp [beginsBy, h], by simp [asOf, beginsBy, h]⟩
    · exact .inl ⟨by simp [beginsBy, h], by simp [asOf, beginsBy, h]⟩
  | sends since => exact .inl ⟨rfl, rfl⟩
  | silent lostAt => exact .inl ⟨rfl, rfl⟩

/-- R1, R12: the line clock moves and nothing else changes, or it comes to the first bit of a segment as well. -/
theorem TrunkInterface.reach_cases (i : TrunkInterface) (t : Word) :
    i.reach t = { i with lineClock := t } ∨
    ∃ g since, i.segment = some g ∧ g.way = .waits since ∧ 0 ≤ offsetFrom since t ∧
      i.reach t = { i with lineClock := t, segment := some { g with way := .sends since }, txen := true } := by
  obtain ⟨_, _, _, _, _, _, _, _, segment, _, _, _, _, _, _, _⟩ := i
  cases segment with
  | none => exact .inl (by simp [reach])
  | some g =>
    obtain ⟨hb, ha⟩ | ⟨since, hw, ht, hb, ha⟩ := g.asOf_cases t
    · exact .inl (by simp [reach, hb, ha])
    · exact .inr ⟨g, since, rfl, hw, ht, by simp [reach, hb, ha]⟩

/-- R4: TXEN keeps to the frames of the node's own when the line clock moves. -/
theorem TrunkInterface.reach_sound {i : TrunkInterface} (h : i.sound) (t : Word) : (i.reach t).sound := by
  obtain hr | ⟨g, since, hg, _, _, hr⟩ := i.reach_cases t
  · rw [hr]; exact h
  · rw [hr]; simp [sound, busy, OwnSegment.sent]

/-! ### The end of a frame of the node's own -/

/-- R4, R16: a frame has ended: the interface goes on with another one, starts afresh after a node reset, or is quiet. -/
theorem TrunkInterface.follow_cases (t : TrunkInterface) :
    (t.busy = true ∧ t.follow = t) ∨ (t.busy = false ∧ t.deferred = some .nodeReset ∧ t.follow = .reset) ∨
    (t.busy = false ∧ t.deferred ≠ some .nodeReset ∧ t.follow = { t with txen := false, deferred := none }) := by
  unfold TrunkInterface.follow TrunkInterface.released
  cases t.busy <;> by_cases h : t.deferred = some .nodeReset <;> simp [h]

/-- R16: only a frame that is being sent holds a GO_OFFLINE back. -/
theorem deferOffline_cases (s : State) :
    (deferOffline s = s ∧ (s.trunk.busy = false ∨ s.trunk.deferred.isSome)) ∨
    (s.trunk.busy = true ∧ s.trunk.deferred = none ∧
      deferOffline s = { s with trunk := { s.trunk with deferred := some .offline } }) := by
  unfold deferOffline
  cases hb : s.trunk.busy <;> cases hd : s.trunk.deferred <;> simp

/-- The operations on the interface alone leave every other unit as it was. -/
theorem endFrame_frame (s : State) : endFrame s = { s with trunk := (endFrame s).trunk } := rfl

theorem endSegment_frame (s : State) : endSegment s = { s with trunk := (endSegment s).trunk } := rfl

/-! ### Received frames -/

/-- R3, R5, R16: a frame is not heard, or it is judged and handed at the instant at which it has been read. -/
theorem receiveFrame_cases (stamp : Word) (bytes : List Byte) (s : State) :
    (unheard s stamp bytes = true ∧ receiveFrame stamp bytes s = .next s) ∨
    (unheard s stamp bytes = false ∧ receiveFrame stamp bytes s =
      .next (handFrame stamp (judge bytes) (heard (s.atInstant (readInstant stamp bytes)))).setAttn) := by
  unfold receiveFrame
  cases unheard s stamp bytes
  · exact .inr ⟨rfl, rfl⟩
  · exact .inl ⟨rfl, rfl⟩

/-- R9: a slot has had its frame when a received one, or an earlier one of the node's own, stands for it. -/
theorem slotTaken_iff (s : State) (start : Nat) (stamp : Word) :
    slotTaken s start stamp = true ↔ (∃ r ∈ s.trunk.slots, r.start = start) ∨
      ∃ o ∈ s.trunk.ownSlots, o.start = start ∧ 0 ≤ (stamp - o.since).toInt := by
  simp [slotTaken, offsetFrom]

theorem takeSlot_frame (start : Nat) (held : Option CyclicFrame) (s : State) :
    takeSlot start held s = { s with trunk := { s.trunk with slots :=
      { start := start, held := held, ended := s.trunk.lineClock } :: s.trunk.slots } } := rfl

/-- R9: the late slot that a frame falls in waits for its frame, and none before it does. -/
theorem lateSlotOf_some {s : State} {stamp : Word} {l : LateSlot} (h : lateSlotOf s stamp = some l) :
    l ∈ s.trunk.late ∧ l.awaits stamp = true :=
  ⟨List.mem_of_find?_eq_some h, List.find?_some (p := fun l => LateSlot.awaits l stamp) h⟩

/-! ### Slots -/

/-- R6: a walked entry with this start is an entry of the active bank. -/
theorem walkedEntry_some {s : State} {c : CycleNow} {start : Nat} {e : Entry} (h : walkedEntry s c start = some e) :
    e ∈ s.sched.active.entries ∧ e.start = start ∧ walks s c e = true := by
  have hp := List.find?_some (p := fun e => Entry.start e == start && walks s c e) h
  simp only [Bool.and_eq_true, beq_iff_eq] at hp
  exact ⟨List.mem_of_find?_eq_some h, hp.1, hp.2⟩

/-- R6: where the starts are distinct, a walked entry is found by its start. -/
theorem walkedEntry_eq {s : State} {c : CycleNow} {e : Entry} (he : e ∈ s.sched.active.entries)
    (hd : (s.sched.active.entries.map (·.start)).Nodup) (hw : walks s c e = true) :
    walkedEntry s c e.start = some e := by
  unfold walkedEntry
  generalize s.sched.active.entries = entries at *
  induction entries with
  | nil => cases he
  | cons f rest ih =>
    simp only [List.map_cons, List.nodup_cons, List.mem_map, not_exists, not_and] at hd
    rcases List.mem_cons.1 he with rfl | he
    · simp [hw]
    · have : f.start ≠ e.start := fun h => hd.1 e he h.symm
      rw [List.find?_cons_of_neg (by simp [this])]
      exact ih he hd.2

/-- R11: the instant of a slot end is the slot's, or that of a frame that ended later. -/
theorem slotEndInstant_cases (finish : Word) (r : Option SlotRecord) :
    slotEndInstant finish r = finish ∨ ∃ x, r = some x ∧ 0 < (x.ended - finish).toInt ∧ slotEndInstant finish r = x.ended := by
  cases r with
  | none => exact .inl rfl
  | some x =>
    by_cases h : 0 < offsetFrom finish x.ended
    · exact .inr ⟨x, rfl, h, by simp [slotEndInstant, laterOf, h]⟩
    · exact .inl (by simp [slotEndInstant, laterOf, h])

/-- R11: what a slot end leaves of the slots and of the late slots; nothing else of the state is touched. -/
theorem releaseSlot_cases (start : Nat) (s : State) :
    (lateSlotDue start s = none ∧ releaseSlot start s = releaseHeld start s) ∨
    ∃ l, lateSlotDue start s = some l ∧
      releaseSlot start s = { s with trunk := { s.trunk with late := s.trunk.late.filter (· != l) } } := by
  unfold releaseSlot
  cases lateSlotDue start s with
  | none => exact .inl ⟨rfl, rfl⟩
  | some l => exact .inr ⟨l, rfl, rfl⟩

/-! ### OPEN slots -/

/-- R12: where the interface sends, its first bit falls in the slot's window; where it does not, LOST comes at the slot's
start or at the window's close. -/
theorem wayToContend_cases (line : OpenLine) (start : Word) :
    (∃ k ≤ 8, wayToContend line start = .waits (start - 4 + BitVec.ofNat 32 k)) ∨
    wayToContend line start = .silent start ∨ wayToContend line start = .silent (start + 4) := by
  cases line with
  | leadSeen after =>
    by_cases h : after < 4
    · exact .inl ⟨after, by omega, by simp [wayToContend, h]⟩
    · exact .inl ⟨4, by omega, by simp [wayToContend, h]⟩
  | quiet => exact .inl ⟨4, by omega, by simp [wayToContend]⟩
  | busy => exact .inr (.inl rfl)
  | quietAfter after =>
    by_cases h : after ≤ 4
    · refine .inl ⟨4 + after, by omega, ?_⟩
      simp only [wayToContend, h, if_true, Contention.waits.injEq]
      rw [BitVec.ofNat_add, ← BitVec.add_assoc, show (BitVec.ofNat 32 4 : Word) = 4 from rfl, BitVec.sub_add_cancel]
    · exact .inr (.inr (by simp [wayToContend, h]))

/-- R12: contending touches the interface alone: a segment that is to be sent is its slot's frame from its first bit on, one
that is not only waits for its LOST. -/
theorem contend_cases (g : OwnSegment) (s : State) :
    (∃ since, g.firstBit = some since ∧ contend g s = { s with trunk := { s.trunk with
      segment := some g, ownSlots := { start := g.start, since := since } :: s.trunk.ownSlots } }) ∨
    (g.firstBit = none ∧ contend g s = { s with trunk := { s.trunk with segment := some g } }) := by
  unfold contend
  cases g.firstBit with
  | some since => exact .inl ⟨since, rfl, rfl⟩
  | none => exact .inr ⟨rfl, rfl⟩

/-- R12: the unit has no segment for the slot and nothing changes, or its segment contends. -/
theorem openWindow_cases (start floor : Nat) (way : Contention) (s : State) :
    (candidate s.tx.queue s.maySendSegment floor s.cycle.address = none ∧ openWindow start floor way s = s) ∨
    ∃ f o, candidate s.tx.queue s.maySendSegment floor s.cycle.address = some (f, o) ∧
      openWindow start floor way s = contend { bytes := f.bytes, start := start, way := way } (offerFirst o s) := by
  unfold openWindow
  cases candidate s.tx.queue s.maySendSegment floor s.cycle.address with
  | none => exact .inl ⟨rfl, rfl⟩
  | some p => exact .inr ⟨p.1, p.2, rfl, rfl⟩

/-- R13: a node that takes LOST in arbitration has had no frame of its own in the slot; one that did not send stands at the
instant of its LOST. -/
theorem yieldSlot_cases (g : OwnSegment) (s : State) :
    (∃ since, g.firstBit = some since ∧ yieldSlot g s = { s with trunk := { s.trunk with
      ownSlots := s.trunk.ownSlots.filter (· != { start := g.start, since := since }) } }) ∨
    ∃ lostAt, g.way = .silent lostAt ∧ yieldSlot g s = s.atInstant lostAt := by
  obtain ⟨bytes, start, way⟩ := g
  cases way with
  | waits since => exact .inl ⟨since, rfl, rfl⟩
  | sends since => exact .inl ⟨since, rfl, rfl⟩
  | silent lostAt => exact .inr ⟨lostAt, rfl, rfl⟩

/-- R13, R14: an outcome on the line finds the segment as it was, or first brings the line clock to its first bit. -/
theorem segmentBegun_cases (s : State) :
    s.segmentBegun = s ∨ ∃ g since, s.trunk.segment = some g ∧ g.way = .waits since ∧
      s.segmentBegun = s.atInstant since := by
  unfold State.segmentBegun
  cases hs : s.trunk.segment with
  | none => exact .inl rfl
  | some g =>
    cases hw : g.way with
    | waits since => exact .inr ⟨g, since, rfl, hw, by simp [hw]⟩
    | sends since => exact .inl (by simp [hw])
    | silent lostAt => exact .inl (by simp [hw])

end Sys2Proof.Machine
end

