-- ==== Sys2Proof/Tests/Slice0.lean ====
section
/-! SUPPORT. Tests: the operand checks, values that the spec states (its worked sequences and its tables), and, for each
statement of the certificates that has hypotheses, a theorem test_met_<statement> that shows states and operands that meet
them, each clause at the boundaries of its range. -/

namespace Sys2Proof.Machine.Tests

open Sys2Proof Sys2Proof.Machine

set_option Elab.async false

/-! ### Helpers -/

/-- The state a command leaves. -/
def after (i : Instr) (s : State) : Option State :=
  match exec i s with
  | .next t => some t
  | .fault _ | .refused _ => none

/-- The state with one request waiting to be taken. -/
def asked (code : Byte) (body : List Byte) (s : State) : State :=
  { s with link := { s.link with buffer := [{ tag := 7, code := code, body := body, reply := none }] } }

/-- The reply that a request command gives to the request that waits. -/
def replyOf (i : Instr) (s : State) : Option Reply :=
  (after i s).bind (fun t => t.link.buffer.head?.bind (·.reply))

/-- The status and the body of the reply to one request asked of a state. -/
def reply (i : Instr) (body : List Byte) (s : State) : Option (Status × List Byte) :=
  (replyOf i (asked ((requestCode i).getD 0x7F) body s)).map (fun r => (r.status, r.body))

/-- This reply is given to this request in this state. -/
def gives (i : Instr) (body : List Byte) (s : State) (status : Status) (out : List Byte) : Bool :=
  reply i body s == some (status, out)

/-- Epoch 7: a CYCLIC slot of node 1 with label 9, an OPEN slot with floor 1. -/
def bank7 : ActiveBank :=
  { epoch := 7, cycleLength := some 2500,
    entries := [{ start := 24, slot := .cyclic 20 1 9 8 }, { start := 100, slot := .openSlot 1 }] }

/-- Node 1 leads under epoch 7 in cycle 50,000. -/
def leads : State :=
  { State.reset with
    cycle := { CycleUnit.reset with address := 1, role := .master, timing := .leading, lastMaster := 1,
                                    now := some { number := 50000, origin := 1000, length := 2500 } },
    sched := { ScheduleUnit.reset with active := bank7, lastSwitch := some { epoch := 7, cycle := 40000 } } }

/-- Node 2 follows node 1 under epoch 7, its window result of cycle 50,000 still to come. -/
def follows : State :=
  { leads with
    cycle := { leads.cycle with address := 2, role := .member, timing := .locked },
    trunk := { leads.trunk with window := .awaiting } }

/-- A message of 300 bytes, 200 of them supplied (11.3). -/
def letter : Message :=
  { id := 17, dest := 20, cls := 1, total := 300, data := List.replicate 200 0xAB, sent := 0, state := .waiting }

/-- The message with its first segment WON. -/
def flying (r : InFlight) : Message := { letter with sent := 40 * r.next, state := .inFlight r }

/-- An in-flight record with this next segment index. -/
def record (next : Nat) : InFlight :=
  { next := next, sinceWon := 0, starve := 0, disturbed := 0, abortPending := false }

/-- The state with one outbound message. -/
def sends (m : Message) (s : State) : State := { s with tx := { s.tx with queue := [m], free := 24 - m.blocks } }

/-- The state with the first message's segment on the line. -/
def onAir (abort : Bool) (m : Message) (s : State) : State :=
  { sends m s with
    trunk := { s.trunk with segment := some { bytes := [0x55], start := 100, way := .sends 1100 }, txen := true,
                            ownSlots := [{ start := 100, since := 1100 }] },
    tx := { (sends m s).tx with onLine := some { index := 1, abort := abort } } }

/-- A message of 60 bytes from node 9 with its first segment received. -/
def context : Context :=
  { source := 9, id := 17, dest := 2, cls := 1, total := 60, next := 1, data := List.replicate 40 0xAB, idle := 63 }

/-- A message that waits for the host. -/
def arrival : Arrival :=
  { handle := 5, source := 14, id := 3, kind := .group, dest := 70, cls := 0, data := List.replicate 60 0xCD,
    cycle := 49000 }

/-- The receive message unit with one context, one message and one completion record. -/
def receives : ReceiveUnit :=
  { ReceiveUnit.reset with
    places := [some context, none, none, none], free := 62, queue := [arrival], handleCounter := 6,
    records := [{ source := 14, id := 3, lastIndex := 1, count := 63 }] }

/-- A channel that produces label 9, and one that consumes it. -/
def produces (value : Option (List Byte)) : Channel :=
  { label := 9, length := 8, report := true, value := value, resolution := .resolved,
    direction := .produce (value.map (fun _ => 4)) }

/-- A channel that consumes label 9. -/
def consumes (state : ConsumeState) (count : Nat) : Channel :=
  { label := 9, length := 8, report := true, value := none, resolution := .resolved,
    direction := .consume { state := state, missCount := count, missLimit := 3, staleLimit := 10, received := none } }

/-- The state with this channel at number 31. -/
def withChannel (c : Channel) (s : State) : State :=
  { s with channels := s.channels.set 31 (some c) }

/-- A state in which every unit holds something. -/
def busy : State :=
  { withChannel (produces (some (List.replicate 8 1))) (sends (flying (record 1)) leads) with
    rx := receives,
    sched := { leads.sched with staged := .armed 8 2500 [{ start := 24, slot := .openSlot 0 }] 50001 } }

/-- Staged entries for the schedule requests: an OPEN slot at a start. -/
def openAt (start : Nat) : Entry := { start := start, slot := .openSlot 0 }

/-- The nine bytes of an OPEN entry at a start, floor 0. -/
def openBytes (start : Nat) : List Byte := halfBytesOf start ++ [2] ++ halfBytesOf 64 ++ [0, 0, 0, 0]

/-- The state with an EDITING bank of length 500. -/
def edits (entries : List Entry) : State :=
  { State.reset with sched := { ScheduleUnit.reset with staged := .editing 500 entries } }


/-- Each request asked of `asked` is the one being taken. -/
theorem test_asked_takes (code : Byte) (body : List Byte) (s : State) : (asked code body s).takes code body := rfl

/-! ### The operand checks -/

theorem test_wf_refuses :
    Instr.wf (.hostFrameReceived []) = false ∧ Instr.wf (.trunkFrameReceived 0 []) = false ∧
    Instr.wf (.syncLocked 0 []) = false ∧ Instr.wf (.cyclicSlotStart 23) = false ∧
    Instr.wf (.cyclicSlotEnd 24980) = false ∧ Instr.wf (.channelLost 23) = false ∧
    Instr.wf (.openSlotWindowOpens { start := 23, line := .quiet }) = false ∧
    Instr.wf (.openSlotWindowOpens { start := 24929, line := .busy }) = false ∧
    Instr.wf (.openSlotWindowOpens { start := 24, line := .leadSeen 4 }) = false := by decide

theorem test_wf_accepts :
    Instr.wf (.hostFrameReceived [0xA5]) = true ∧ Instr.wf (.trunkFrameReceived 0 [0x55]) = true ∧
    Instr.wf (.cyclicSlotStart 24) = true ∧ Instr.wf (.cyclicSlotEnd 24979) = true ∧
    Instr.wf (.openSlotWindowOpens { start := 24928, line := .leadSeen 3 }) = true ∧
    Instr.wf .identify = true := by decide

/-- The table gives no row any bits, so no word spells a command. -/
theorem test_table_has_no_words : decodeTableWord 0 0 = none ∧ decodeTableWord 8 0x55 = none := by decide

/-! ### The machine -/

/-- A segment that waits for its first bit at 1100. -/
def held : OwnSegment := { bytes := [0x55], start := 100, way := .waits 1100 }

theorem test_met_StepRunsFrontCommand :
    (State.reset.pending = []) ∧ ({ leads with pending := [.gap, .identify] } : State).pending = .gap :: [.identify] ∧
    (let i : TrunkInterface := { leads.trunk with segment := some held }
     held.way = .waits 1100 ∧ (1099 - 1100 : Word).toInt < 0 ∧ 0 ≤ (1100 - 1100 : Word).toInt ∧
      (i.reach 1099).txen = false ∧ (i.reach 1099).segment = some held ∧
      (i.reach 1100).txen = true ∧ (i.reach 1100).segment = some { held with way := .sends 1100 }) := by decide

theorem test_reset_sound : State.reset.sound := by
  simp [State.sound, State.reset, State.powerOn, CycleUnit.sound, CycleUnit.reset, ScheduleUnit.sound, ScheduleUnit.reset,
    ActiveBank.sound, Staged.sound, channelsSound, Config.channelCount, TransmitUnit.sound, TransmitUnit.reset,
    queueOrdered, ReceiveUnit.sound, ReceiveUnit.reset, groupsSound, recordsSound, ReceiveUnit.held, NoticeUnit.sound,
    NoticeUnit.reset, HostLink.sound, HostLink.powerOn, inboundSound, bufferSound, frameAnswers, State.trunkSound,
    TrunkInterface.sound, TrunkInterface.walksNothing, TrunkInterface.reset, TrunkInterface.busy, countersSound, lengthsUsable, attnRight]
  decide

/-- The statements named …StaysSound, …StaySound, …StayInRange, TxenFollowsOwnFrames and AttnStaysRight: a state in which
every unit holds something meets every invariant, and a step of it answers a next state. -/
theorem test_met_invariants : busy.sound ∧ ∃ t, step { busy with pending := [.cycleStart] } = .next t := by
  refine ⟨⟨?_, ?_, ?_, ?_, ?_, ?_, ?_, ?_, ?_, ?_, ?_⟩, _, rfl⟩
  · unfold CycleUnit.sound; decide +kernel
  · simp [ScheduleUnit.sound, busy, leads, bank7, ActiveBank.sound, Staged.sound, entriesSound, entriesClosed, Entry.ranged, withChannel, sends]
    decide +kernel
  · refine ⟨by decide +kernel, by decide +kernel, ?_⟩
    simp [busy, leads, withChannel, sends, State.reset, State.powerOn, Channel.sound, Config.channelCount, List.replicate, produces, Config.ageMax]
  · refine ⟨by decide +kernel, by decide +kernel, ?_, ?_, ?_, by decide +kernel⟩
    · simp [busy, leads, withChannel, sends, queueOrdered]
    · refine List.forall_mem_singleton.2 ⟨by decide +kernel, by decide +kernel, by decide +kernel, by decide +kernel,
        by decide +kernel, ?_⟩
      change InFlight.sound (record 1) (flying (record 1)) ∧ _
      unfold InFlight.sound
      decide +kernel
    · simp [busy, leads, withChannel, sends, State.reset, State.powerOn, TransmitUnit.reset]
  · refine ⟨?_, by decide +kernel, by decide +kernel, ?_, by decide +kernel, by decide +kernel, ?_, by decide +kernel, ?_, by decide +kernel⟩
    · unfold groupsSound; decide +kernel
    · simp [busy, receives, Context.sound, context]; decide
    · simp [busy, receives, Arrival.sound, arrival]; decide
    · unfold recordsSound; decide +kernel
  · unfold NoticeUnit.sound; decide +kernel
  · simp [HostLink.sound, busy, leads, withChannel, sends, State.reset, State.powerOn, HostLink.powerOn, inboundSound, bufferSound, frameAnswers]
  · unfold State.trunkSound TrunkInterface.sound TrunkInterface.walksNothing; decide +kernel
  · unfold countersSound; decide +kernel
  · refine ⟨by decide +kernel, by decide +kernel, by decide +kernel, ?_⟩
    simp [busy, leads, withChannel, sends]; decide
  · unfold attnRight; decide +kernel

/-! ### Rules of the whole part -/

theorem test_met_NoticesNeverSteer : Instr.lineBreak ≠ .ackNotices ∧ Instr.lineBreak ≠ .outboundSelect := by decide

theorem test_met_RefusalsChangeNothing :
    (requestCode .setNode = some 0x02 ∧ oldestAccepted (asked 0x02 [63, 1] State.reset).link.buffer =
      some { tag := 7, code := 0x02, body := [63, 1], reply := none } ∧
      reply .setNode [63, 1] State.reset = some (.badValue, [])) ∧
    reply .sendMessage [20, 1, 0, 1, 0xAB] { leads with tx := { leads.tx with free := 0 } } = some (.noRoom, []) := by
  decide +kernel

theorem test_met_CycleNumberAdvancesByOne :
    (after .cycleStart leads).bind (fun t => t.current.map (·.number)) = some 50001 ∧
    (after .gap leads).bind (fun t => t.current.map (·.number)) = some 50000 ∧
    leads.current.map (·.number) = some 50000 ∧ Instr.gap ∉ cycleStartCommands := by decide +kernel

/-- The last number is followed by 0. -/
theorem test_cycle_number_wraps :
    (after .cycleStart { leads with cycle := { leads.cycle with
      now := some { number := 0xFFFFFFFF, origin := 0, length := 2500 } } }).bind
        (fun t => t.current.map (·.number)) = some 0 := by decide +kernel

theorem test_met_OwnFramesNeedPermission :
    (after (.cyclicSlotStart 24) busy).map (fun t => t.trunk.sending.isSome) = some true ∧ busy.trunk.sending = none ∧
    (after .cycleStart leads).map (fun t => t.trunk.sending.isSome) = some true ∧ leads.trunk.sending = none ∧
    (after (.openSlotWindowOpens { start := 100, line := .quiet }) (sends letter leads)).map
      (fun t => t.trunk.segment.isSome) = some true ∧
    (sends letter leads).trunk.segment = none := by decide +kernel

theorem test_met_NodeChangesOnlyByRequest :
    (∃ t, exec .gap State.reset = .next t) ∧ Instr.gap ≠ .resetNode ∧ (∀ a b d, Instr.gap ≠ .powerOnReset a b d) ∧
    Instr.gap ∉ [Instr.setNode, .setCycle, .goOnline, .goOffline, .setGroups, .noticeMask] :=
  ⟨⟨_, rfl⟩, by decide, by decide, by decide⟩

theorem test_met_ActiveBankOnlySwitchedIn :
    (after .cycleStart busy).map (fun t => t.sched.active.epoch) = some 8 ∧ busy.sched.active.epoch = 7 := by
  decide +kernel

/-! ### Frames: what commands leave as it was -/

theorem test_met_ReadingRequestsChangeNothing :
    Instr.readSync ∈ readingCommands ∧ (∃ t, exec .readSync (asked 0x07 [] leads) = .next t) :=
  ⟨by decide, _, rfl⟩

theorem test_met_RequestsKeepOtherUnits :
    (∃ t, exec .setNode (asked 0x02 [62, 1] State.reset) = .next t) ∧
    (∃ t, exec .stageBegin (asked 0x10 [1, 0xF4] State.reset) = .next t) ∧
    (∃ t, exec .cancel (asked 0x17 [] leads) = .next t) ∧
    (∃ t, exec .unbindChannel (asked 0x21 [31] State.reset) = .next t) ∧
    (∃ t, exec .abortMessage (asked 0x32 [17] (sends letter leads)) = .next t) ∧
    (∃ t, exec .setGroups (asked 0x40 [0] State.reset) = .next t) ∧
    (∃ t, exec .releaseMessage (asked 0x42 [5] busy) = .next t) ∧
    (∃ t, exec .noticeMask (asked 0x50 [0] State.reset) = .next t) ∧
    (∃ t, exec .ackNotices (asked 0x51 [0, 0] State.reset) = .next t) ∧
    (∃ t, exec .readCounts (asked 0x60 [1] State.reset) = .next t) :=
  ⟨⟨_, rfl⟩, ⟨_, rfl⟩, ⟨_, rfl⟩, ⟨_, rfl⟩, ⟨_, rfl⟩, ⟨_, rfl⟩, ⟨_, rfl⟩, ⟨_, rfl⟩, ⟨_, rfl⟩, ⟨_, rfl⟩⟩

theorem test_met_EventsKeepOtherUnits :
    onHostLink .lineBreak = true ∧ (∃ t, exec .lineBreak State.reset = .next t) ∧
    onTrunk .cycleStart = true ∧ (∃ t, exec .cycleStart busy = .next t) ∧
    (∃ t, exec (.cyclicSlotStart 24) busy = .next t) ∧ (∃ t, exec (.cyclicSlotEnd 24) busy = .next t) ∧
    (∃ t, exec (.openSlotWindowOpens { start := 100, line := .quiet }) busy = .next t) ∧
    (∃ t, exec .segmentWon (onAir false (flying (record 1)) leads) = .next t) ∧ (∃ t, exec .ownFrameSent leads = .next t) :=
  ⟨by decide, ⟨_, rfl⟩, by decide, ⟨_, rfl⟩, ⟨_, rfl⟩, ⟨_, rfl⟩, ⟨_, rfl⟩, ⟨_, rfl⟩, ⟨_, rfl⟩⟩

/-! ### Shared operations -/

theorem test_met_RequestsTakenInOrder :
    (let taken : Request := { tag := 3, code := 0x01, body := [], reply := some ⟨.ok, []⟩ }
     let waits : Request := { tag := 7, code := 0x02, body := [62], reply := none }
     oldestAccepted [taken, waits] = some waits) ∧
    (asked 0x02 [62] State.reset).takes 0x02 [62] ∧
    (bodyShape 0x02).any (fun shape => shape.allows [62]) = false ∧
    reply .setNode [62] State.reset = some (.badLength, [0, 1]) ∧
    (asked 0x08 [] State.reset).takes 0x08 [] ∧ bodyShape 0x08 = none ∧
    (replyOf .badRequest (asked 0x08 [] State.reset)).map (fun r => (r.status, r.body)) = some (.badRequest, [8]) := by
  refine ⟨?_, rfl, ?_, ?_, rfl, ?_, ?_⟩ <;> decide +kernel

theorem test_met_DepartureEffects : busy.rx.sound ∧ State.reset.rx.sound :=
  ⟨test_met_invariants.1.2.2.2.2.1, test_reset_sound.2.2.2.2.1⟩

/-- R37, R119: the notices of a departure stand in the order of the units, and without a cycle number; a pending abort
gives the reason HOST. -/
theorem test_departure_notices :
    let pending : State := sends (flying { record 1 with abortPending := true }) { busy with notices := (State.reset).notices }
    let left := depart .hunting [.syncLost 1] none { pending with rx := receives, tx := { pending.tx with roomWatch := true } }
    left.notices.queue.drop 1 =
      [{ seq := 1, cycle := none, body := .syncLost 1 }, { seq := 2, cycle := none, body := .activationWithdrawn 8 50001 .sync },
       { seq := 3, cycle := none, body := .messageFailed 17 20 1 .host false 40 },
       { seq := 4, cycle := none, body := .txRoom 24 },
       { seq := 5, cycle := none, body := .messageDropped 9 17 2 .sync 40 }] := by decide +kernel

/-! ### Frames on the two links -/

theorem test_met_TrunkFramesRoundTrip :
    (let f : CycleStartFrame := { source := 1, number := 50001, epoch := 7, length := 65535, announces := false,
                                  announcedEpoch := 0, activation := 0 }
     f.length < 65536 ∧ (f.announces = false → f.announcedEpoch = 0 ∧ f.activation = 0)) ∧
    (let f : CyclicFrame := { source := 1, label := 9, age := 0, payload := List.replicate 64 1 }
     1 ≤ f.payload.length ∧ f.payload.length ≤ 64) ∧
    (let f : SegmentFrame := { key := 137, source := 9, dest := 20, id := 17, index := 255, first := true, last := false,
                               abort := false, cls := 255, total := some 65535, payload := List.replicate 40 1 }
     f.index < 256 ∧ f.cls < 256 ∧ f.payload.length ≤ 40 ∧ f.total.isSome = f.first ∧ ∀ n ∈ f.total, n < 65536) := by
  decide +kernel

/-- R1, R3: the lead 55 55 4E and a kind byte, then these bytes. -/
def begins (kind : Byte) (rest : List Byte) : List Byte := [0x55, 0x55, 0x4E, kind] ++ rest

/-- R3: where each check fails: the lead or the kind after four bytes, the payload length 0 or 65 of a cyclic frame after
eight, 41 of a segment after twelve; and what runs on after a good frame. -/
theorem test_checks_of_a_frame :
    let zeros := List.replicate 50 (0 : Byte)
    let cyclic (n : Byte) : List Byte := begins 0x2D ([1, 9, 0, n] ++ zeros)
    let seg (n : Byte) : List Byte := begins 0x4B ([137, 9, 20, 17, 0, 0, 1, n] ++ zeros)
    let f : CyclicFrame := { source := 1, label := 9, age := 0, payload := [5] }
    let at_ (b : List Byte) (j : Judgement) (n : Nat) : Bool := judge b == j && readTime b == n
    [at_ (0x54 :: zeros) .malformed 4, at_ (begins 0x2C zeros) .malformed 4, at_ (cyclic 0) .malformed 8,
     at_ (cyclic 65) .malformed 8, at_ (cyclic 1) .crcError 11, at_ (seg 41) .malformed 12, at_ (seg 40) .crcError 54,
     at_ (f.bytes ++ zeros) (.good (.cyclic f)) 11, at_ (f.bytes.take 10) .malformed 10,
     at_ (f.bytes.take 9 ++ [0, 0, 7]) .crcError 11].all id = true := by decide +kernel

/-- R171: the characters 1 to 9. -/
theorem test_crc_check_value : crc [0x31, 0x32, 0x33, 0x34, 0x35, 0x36, 0x37, 0x38, 0x39] = 0x29B1 := by decide +kernel

/-- 11.3: the keys 137 and 131 contend, and 131 wins. -/
theorem test_met_LowestKeyWins :
    let f : SegmentFrame := { key := 131, source := 3, dest := 20, id := 1, index := 0, first := false, last := true,
                              abort := false, cls := 1, total := none, payload := [1] }
    let g : SegmentFrame := { f with key := 137, source := 9 }
    let line := contest (bitsOf g.bytes) (bitsOf f.bytes)
    f.key < g.key ∧ line = bitsOf f.bytes ∧ outcomeOf g.bytes line = .lost ∧ outcomeOf f.bytes line = .won := by
  decide +kernel

theorem test_met_HostFramesReceived :
    (let low : State := { State.reset with link := { State.reset.link with breakLow := true } }
     low.link.breakLow = true ∧ after (.hostFrameReceived [0xA5, 0, 3]) low = some low) ∧
    (∀ b ∈ [0x00, 0xA4, (0xA6 : Byte)], b ≠ 0xA5) ∧
    State.reset.link.rx = [] ∧ State.reset.link.breakLow = false ∧ (List.replicate 256 (0 : Byte)).length ≤ 256 ∧
    (let inner : List Byte := 4 :: List.replicate 258 0
     1 ≤ inner.length ∧ inner.length ≤ 259 ∧ byteAt inner 0 ≠ 1 ∧ byteAt inner 0 ≠ 0x0F) ∧
    (0 : Half) ≠ crc (halfBytesOf [(1 : Byte)].length ++ [1]) := by decide +kernel

/-- R160: an IDENTIFY request of tag 1, byte by byte, joins the buffer. -/
theorem test_identify_frame_received :
    (after (.hostFrameReceived (hostFrame [1, 1, 1])) State.reset).map (fun t => t.link.buffer) =
      some [{ tag := 1, code := 1, body := [], reply := none }] := by decide +kernel

/-- R160: length 0 and 260 are given up as soon as they are in, 259 is not; a REQUEST of 2 bytes is too short. -/
theorem test_host_lengths :
    (let reason (bytes : List Byte) := (after (.hostFrameReceived bytes) State.reset).map
      (fun t => (t.link.rx, t.notices.queue.getLast?.map (·.body)))
     reason [0xA5, 0, 0] = some ([], some (.linkError .length none)) ∧
      reason [0xA5, 1, 4] = some ([], some (.linkError .length none)) ∧
      reason [0xA5, 1, 3] = some ([0xA5, 1, 3], some (.nodeRestarted .powerOn)) ∧
      reason (hostFrame [1, 1]) = some ([], some (.linkError .length none))) := by decide +kernel

/-! ### The cycle unit's requests, RESET_NODE and READ_COUNTS -/

/-- 11.1: node 2 before its host has set an address. -/
theorem test_met_IdentifyReply :
    (asked 0x01 [] State.reset).takes 0x01 [] ∧
    reply .identify [] State.reset = some (.ok, [0x5A, 0x01, 0x9A, 1, 0, 1, 0]) ∧
    reply .identify [] leads = some (.ok, [0x5A, 0x01, 0x9A, 1, 1, 2, 1]) := by
  refine ⟨rfl, ?_, ?_⟩ <;> decide +kernel

theorem test_met_SetNodeResult :
    (asked 0x02 [62, 2] State.reset).takes 0x02 [62, 2] ∧
    [gives .setNode [62, 2] State.reset .ok [], gives .setNode [0, 1] State.reset .ok [],
     gives .setNode [63, 1] State.reset .badValue [], gives .setNode [1, 0] State.reset .badValue [],
     gives .setNode [1, 3] State.reset .badValue [], gives .setNode [1, 1] leads .wrongState []].all id = true := by
  refine ⟨rfl, ?_⟩
  decide +kernel

/-- 11.1, steps 1 to 3. -/
theorem test_met_OnlineRequestsResult :
    (asked 0x03 [0x61, 0xA8] State.reset).takes 0x03 [0x61, 0xA8] ∧
    (asked 0x04 [] State.reset).takes 0x04 [] ∧
    (asked 0x05 [] leads).takes 0x05 [] ∧
    ((after .goOnline (asked 0x04 [] { State.reset with cycle := { CycleUnit.reset with address := 2 } })).map
      (fun t => (t.cycle.timing, t.cycle.run))) = some (.hunting, none) ∧
    ((after .goOnline (asked 0x04 [] { State.reset with
      cycle := { CycleUnit.reset with address := 1, role := .master },
      trunk := { TrunkInterface.reset with lineClock := 500000 } })).map (fun t => (t.cycle.timing, t.cycle.claim))) =
        some (.claiming, some { opened := 500000, lastHigher := none }) ∧
    (after .goOffline (asked 0x05 [] leads)).map (fun t => t.cycle.timing) = some .offline ∧
    (after .goOffline (asked 0x05 [] (onAir false (flying (record 1)) leads))).map (fun t => t.trunk.deferred) =
      some (some .offline) ∧
    [gives .setCycle [0x61, 0xA8] State.reset .ok [], gives .setCycle [0x61, 0xA9] State.reset .badValue [],
     gives .setCycle [0, 250] State.reset .ok [], gives .setCycle [0, 249] State.reset .badValue [],
     gives .goOnline [] State.reset .wrongState [], gives .goOffline [] State.reset .ok []].all id = true := by
  refine ⟨rfl, rfl, rfl, ?_⟩
  decide +kernel

theorem test_met_ResetNodeResult :
    (asked 0x06 [] busy).takes 0x06 [] ∧
    (after .resetNode (asked 0x06 [] busy)).map (fun t => (t.cycle, t.sched, t.tx.queue)) =
      some (CycleUnit.reset, ScheduleUnit.reset, []) ∧
    (after .resetNode (asked 0x06 [] (onAir false letter leads))).map (fun t => t.trunk.deferred) =
      some (some .nodeReset) ∧
    (let own : OwnFrame := { since := 1052, bytes := List.replicate 42 1 }
     let waits : State := { leads with trunk := { leads.trunk with txen := true, sending := some own, segment := some held } }
     (after .resetNode (asked 0x06 [] waits)).map (fun t => (t.trunk.segment, t.trunk.deferred, t.trunk.txen)) =
       some (none, some .nodeReset, true)) := by
  refine ⟨rfl, ?_, ?_, ?_⟩ <;> decide +kernel

theorem test_met_ReadSyncAndCountsResult :
    (asked 0x07 [] leads).takes 0x07 [] ∧
    (asked 0x60 [1] leads).takes 0x60 [1] ∧
    [gives .readSync [] leads .ok [leads.cycle.timing.code, 1, 0, 0, 0xC3, 0x50, 0x09, 0xC4, 1, 0, 0, 0, 0, 7, 0],
     gives .readSync [] State.reset .ok [0, 0, 0, 0, 0, 0, 0x09, 0xC4, 0, 0, 0, 0, 0, 0, 0],
     gives .readCounts [1] { leads with trunk := { leads.trunk with disturbed := 65535 } } .ok [0, 0, 0, 0, 0, 0, 0, 0, 0xFF, 0xFF, 0, 0, 0, 0],
     gives .readCounts [2] leads .badValue []].all id = true := by
  refine ⟨rfl, rfl, ?_⟩
  decide +kernel

/-! ### The schedule unit's requests -/

theorem test_met_StageBeginDiscardReadResult :
    (asked 0x10 [0, 250] State.reset).takes 0x10 [0, 250] ∧
    (asked 0x14 [] busy).takes 0x14 [] ∧
    (asked 0x15 [1, 63, 16] leads).takes 0x15 [1, 63, 16] ∧
    [gives .stageBegin [0, 250] State.reset .ok [], gives .stageBegin [0, 249] State.reset .badValue [],
     gives .stageBegin [0, 250] busy .stageArmed [], gives .stageDiscard [] busy .stageArmed [],
     gives .stageDiscard [] State.reset .ok [],
     gives .readSchedule [1, 63, 16] leads .ok [1, 4, 1, 1, 0, 0, 7, 0x09, 0xC4, 0, 0, 0, 0, 2, 63, 0],
     gives .readSchedule [1, 1, 1] leads .ok [1, 4, 1, 1, 0, 0, 7, 0x09, 0xC4, 0, 0, 0, 0, 2, 1, 1, 0, 100, 2, 0, 64, 0, 0, 0, 1],
     gives .readSchedule [2, 0, 1] State.reset .ok [2, 0, 0, 0, 0, 0, 0, 0, 0, 0, 0, 0, 0, 0, 0, 0],
     gives .readSchedule [1, 64, 1] leads .badValue [], gives .readSchedule [1, 0, 0] leads .badValue [],
     gives .readSchedule [1, 0, 17] leads .badValue [],
     gives .readSchedule [3, 0, 1] leads .badValue []].all id = true := by
  refine ⟨rfl, rfl, rfl, ?_⟩
  decide +kernel

/-- In a bank of 500 byte times an OPEN slot starts from 24 to 500 - 8 - 64 = 428. -/
theorem test_met_StageAddAndRemoveResult :
    (asked 0x11 (1 :: openBytes 24) (edits [])).takes 0x11 (1 :: openBytes 24) ∧
    (1 :: openBytes 24).length = 1 + 9 * 1 ∧
    (asked 0x12 [0, 24] (edits [openAt 24])).takes 0x12 [0, 24] ∧
    ((rawEntries (2 :: (openBytes 428 ++ openBytes 24)) 2).map RawEntry.inRange = [openAt 428, openAt 24].map some) ∧
    [gives .stageAdd [0] (edits []) .badValue [0, 0],
     gives .stageAdd (9 :: List.replicate 81 0) (edits []) .badValue [0, 0],
     gives .stageAdd (1 :: openBytes 24) (edits (List.replicate 64 (openAt 30))) .bankFull [0],
     gives .stageAdd (2 :: (openBytes 428 ++ openBytes 24)) (edits [openAt 200]) .ok [3],
     gives .stageAdd (2 :: (openBytes 428 ++ openBytes 23)) (edits []) .badValue [2, 2],
     gives .stageAdd (1 :: openBytes 429) (edits []) .badValue [1, 2],
     gives .stageAdd (2 :: (openBytes 24 ++ openBytes 24)) (edits []) .badValue [2, 3],
     gives .stageAdd (1 :: List.replicate 9 0) (edits []) .badValue [1, 1],
     gives .stageRemove [0, 24] (edits [openAt 24, openAt 200]) .ok [1],
     gives .stageRemove [0, 25] (edits [openAt 24]) .badValue [],
     gives .stageAdd (1 :: openBytes 24) busy .stageArmed [],
     gives .stageRemove [0, 24] State.reset .stageNotEditing []].all id = true := by
  refine ⟨rfl, rfl, rfl, ?_⟩
  decide +kernel

/-- The hypotheses on the entries of STAGE_ADD and STAGE_CLOSE, which name no step. -/
theorem test_met_entries :
    entriesAdmitted 500 [openAt 200] [openAt 428, openAt 24] ∧ ¬ entriesAdmitted 500 [openAt 24] [openAt 24] ∧
    entriesClosed [openAt 24, openAt 88] ∧ [openAt 24, openAt 200].Pairwise (fun a b => a.start < b.start) := by
  refine ⟨by unfold entriesAdmitted; decide, by unfold entriesAdmitted; decide, by unfold entriesClosed; decide, by decide⟩

/-- The last clause of STAGE_ADD: a first entry that passes and a second one whose start is 23. -/
theorem test_met_StageAdd_failure :
    let body := 2 :: (openBytes 428 ++ openBytes 23)
    let first : RawEntry := rawEntryAt body 1
    let second : RawEntry := rawEntryAt body 10
    (asked 0x11 body (edits [])).takes 0x11 body ∧ body.length = 1 + 9 * (byteAt body 0).toNat ∧
    rawEntries body 2 = [first] ++ second :: [] ∧ [first].map RawEntry.inRange = [openAt 428].map some ∧
    second.inRange = some (openAt 23) ∧ entriesAdmitted 500 [] [openAt 428] ∧
    ¬ entriesAdmitted 500 ([] ++ [openAt 428]) [openAt 23] := by
  refine ⟨rfl, by decide, by decide, by decide, by decide, by unfold entriesAdmitted; decide,
    by unfold entriesAdmitted; decide⟩

/-- The clauses of STAGE_CLOSE that name an entry: the second entry repeats the label of the first, or the second
overlaps the third. -/
theorem test_met_StageClose_failure :
    (let a : Entry := { start := 24, slot := .cyclic 13 1 9 1 }
     let b : Entry := { start := 37, slot := .cyclic 13 1 9 1 }
     ([a] ++ [b]).Pairwise (fun x y => x.finish ≤ y.start) ∧ ([a].filterMap Entry.label?).Nodup ∧
      b.label?.any (fun l => ([a].filterMap Entry.label?).contains l) = true) ∧
    (([openAt 24] ++ [openAt 88]).Pairwise (fun x y => x.finish ≤ y.start) ∧
      ([openAt 24].filterMap Entry.label?).Nodup ∧
      (openAt 88).label?.any (fun l => ([openAt 24].filterMap Entry.label?).contains l) = false ∧
      [openAt 151].head?.any (fun f => f.start < (openAt 88).finish) = true) := by decide

/-- R51: two entries that touch close; two that overlap by one byte time, and a label repeated, do not. -/
theorem test_met_StageCloseResult :
    (asked 0x13 [0, 8] (edits [])).takes 0x13 [0, 8] ∧
    [gives .stageClose [0, 8] (edits [openAt 24, openAt 88]) .ok [0, 8, 2],
     gives .stageClose [0, 0] (edits []) .scheduleInvalid [0, 0, 3],
     gives .stageClose [0, 8] (edits [openAt 24, openAt 87]) .scheduleInvalid [0, 24, 1],
     gives .stageClose [0, 8] (edits [{ start := 24, slot := .cyclic 13 1 9 1 }, { start := 37, slot := .cyclic 13 1 9 1 }]) .scheduleInvalid [0, 37, 2],
     gives .stageClose [0, 8] State.reset .stageNotEditing []].all id = true := by
  refine ⟨rfl, ?_⟩
  decide +kernel

/-- 11.2: the COMMIT taken in cycle 50,000. The lead is from 16 to 65,535 cycles. -/
theorem test_met_CommitAndCancelResult :
    let ready : State := { leads with sched := { leads.sched with staged := .closed 8 2500 [] } }
    (asked 0x16 [0, 0, 0xC3, 0xB4] ready).takes 0x16 [0, 0, 0xC3, 0xB4] ∧
    (asked 0x17 [] ready).takes 0x17 [] ∧
    (ready.cycle.role = .master ∧ ready.cycle.timing = .leading ∧ ready.cycle.now.isSome ∧
      follows.cycle.role ≠ .master) ∧
    [gives .commit [0, 0, 0xC3, 0xB4] ready .ok [0, 8, 0, 0, 0xC3, 0xB4],
     gives .commit [0, 0, 0xC3, 0x60] ready .ok [0, 8, 0, 0, 0xC3, 0x60],
     gives .commit [0, 0, 0xC3, 0x5F] ready .badValue [],
     gives .commit [0, 1, 0xC3, 0x4F] ready .ok [0, 8, 0, 1, 0xC3, 0x4F],
     gives .commit [0, 1, 0xC3, 0x50] ready .badValue [], gives .commit [0, 0, 0xC3, 0xB4] leads .wrongState [],
     gives .commit [0, 0, 0xC3, 0xB4] follows .notMaster [], gives .cancel [] busy .ok [0, 8, 0, 0, 0xC3, 0x51],
     gives .cancel [] leads .tooLate [0, 7, 1, 0, 7, 0, 0, 0x9C, 0x40],
     gives .cancel [] follows .notMaster []].all id = true := by
  refine ⟨rfl, rfl, ?_⟩
  decide +kernel

/-! ### The channel unit -/

theorem test_met_BindAndUnbindResult :
    (bank7.entries.filterMap Entry.label?).Nodup ∧
    (∀ e ∈ bank7.entries, e.label? ≠ some 8) ∧
    { start := 24, slot := .cyclic 20 1 9 8 } ∈ bank7.entries ∧
    State.reset.channels.length = 32 ∧
    (asked 0x20 [31, 9, 1, 8, 1, 0, 0] leads).takes 0x20 [31, 9, 1, 8, 1, 0, 0] ∧
    (asked 0x21 [31] leads).takes 0x21 [31] ∧
    [gives .bindChannel [31, 9, 1, 8, 1, 0, 0] leads .ok [0, 0],
     gives .bindChannel [32, 9, 1, 8, 1, 0, 0] leads .unknownChannel [],
     gives .bindChannel [31, 9, 2, 8, 1, 255, 0] follows .ok [0, 1],
     gives .bindChannel [0, 9, 2, 64, 1, 255, 0] follows .ok [3, 0],
     gives .bindChannel [0, 255, 2, 1, 1, 1, 0] follows .ok [1, 0],
     gives .bindChannel [31, 9, 2, 8, 1, 0, 0] leads .ok [2, 0],
     gives .bindChannel [31, 9, 2, 65, 1, 0, 0] leads .badValue [],
     gives .bindChannel [31, 0, 2, 8, 1, 0, 0] leads .badValue [],
     gives .bindChannel [30, 9, 2, 8, 0, 0, 0] busy .duplicateLabel [],
     gives .bindChannel [31, 8, 2, 8, 0, 0, 0] busy .wrongState [], gives .unbindChannel [31] busy .ok [],
     gives .unbindChannel [31] leads .wrongState [], gives .unbindChannel [32] leads .unknownChannel []].all id = true := by
  refine ⟨by decide, by decide, by decide, rfl, rfl, rfl, ?_⟩
  decide +kernel

theorem test_met_ChannelValuesResult :
    (asked 0x22 (31 :: List.replicate 64 0) busy).takes 0x22 (31 :: List.replicate 64 0) ∧
    (asked 0x23 [31] busy).takes 0x23 [31] ∧
    (asked 0x24 [1, 31] busy).takes 0x24 [1, 31] ∧
    (reply .readChannel [31] busy).map Prod.fst = some .ok ∧
    (reply .readChannels (8 :: List.replicate 8 31) busy).map Prod.fst = some .ok ∧
    [gives .writeChannel (31 :: List.replicate 8 2) busy .ok [0],
     gives .writeChannel (31 :: List.replicate 64 2) busy .badValue [8],
     gives .writeChannel [30, 1] busy .wrongState [], gives .writeChannel [32, 1] busy .unknownChannel [],
     gives .writeChannel [31, 1] (withChannel (consumes .waiting 0) leads) .wrongState [],
     gives .readChannel [32] busy .unknownChannel [], gives .readChannels [0] busy .badValue [0],
     gives .readChannels (9 :: List.replicate 9 0) busy .badValue [0],
     gives .readChannels [2, 31, 32] busy .unknownChannel [2],
     gives .readChannels (8 :: List.replicate 8 31) (withChannel { produces none with length := 64 } leads) .badValue [0]].all id = true := by
  refine ⟨rfl, rfl, rfl, ?_⟩
  decide +kernel

/-! ### The transmit message unit -/

/-- 11.3: the message of 300 bytes with its first piece of 200, and the limits of each operand. -/
theorem test_met_SendMessageResult :
    (asked 0x30 ([20, 1, 0x01, 0x2C] ++ List.replicate 200 0) leads).takes 0x30 ([20, 1, 0x01, 0x2C] ++ List.replicate 200 0) ∧
    (List.replicate 200 (0 : Byte)).length ≤ 200 ∧
    [gives .sendMessage ([20, 1, 0x01, 0x2C] ++ List.replicate 200 0)
       { leads with tx := { leads.tx with idCounter := 17 } } .ok [17, 0, 200, 20],
     gives .sendMessage [62, 3, 0x04, 0x00] leads .ok [0, 0, 0, 24],
     gives .sendMessage [127, 0, 0, 1, 1] leads .ok [0, 0, 1, 23],
     gives .sendMessage [255, 0, 0, 1, 1] (sends { letter with id := 0, data := [] } leads) .ok [1, 0, 1, 23],
     gives .sendMessage [63, 0, 0, 1] leads .badValue [1], gives .sendMessage [0, 0, 0, 1] leads .badValue [1],
     gives .sendMessage [128, 0, 0, 1] leads .badValue [1], gives .sendMessage [254, 0, 0, 1] leads .badValue [1],
     gives .sendMessage [1, 0, 0, 1] leads .badValue [1], gives .sendMessage [20, 4, 0, 1] leads .badValue [2],
     gives .sendMessage [20, 0, 0, 0] leads .badValue [3], gives .sendMessage [20, 0, 4, 1] leads .badValue [3],
     gives .sendMessage [20, 0, 0, 1, 0, 0] leads .lengthExceeded [],
     gives .sendMessage [20, 0, 0, 1]
       { leads with tx := { leads.tx with queue := List.replicate 8 letter } } .queueFull []].all id = true := by
  refine ⟨rfl, ?_, ?_⟩ <;> decide +kernel

/-- 11.3: the second piece, and the same piece again. -/
theorem test_met_PieceAndAbortResult :
    let s := sends (flying (record 1)) leads
    (asked 0x31 ([17, 0, 200] ++ List.replicate 100 0) s).takes 0x31 ([17, 0, 200] ++ List.replicate 100 0) ∧
    (asked 0x32 [17] s).takes 0x32 [17] ∧ s.tx.queue = [] ++ flying (record 1) :: [] ∧ (s.tx.queue.map (·.id)).Nodup ∧
    (∀ m ∈ s.tx.queue, m.id ≠ 18) ∧ (flying (record 1)).id = 17 ∧ s.tx.onLine = none ∧
    (onAir false (flying (record 1)) leads).tx.onLine.isSome ∧
    [gives .messagePiece ([17, 0, 200] ++ List.replicate 100 0) s .ok [17, 0x01, 0x2C, 19],
     gives .messagePiece ([17, 0x01, 0x2C] ++ List.replicate 1 0) s .badValue [0, 200],
     gives .messagePiece ([17, 0, 200] ++ List.replicate 101 0) s .lengthExceeded [],
     gives .messagePiece [18, 0, 0, 1] s .unknownHandle [], gives .abortMessage [18] s .unknownHandle [],
     gives .messagePiece ([17, 0, 200] ++ List.replicate 100 0) { s with tx := { s.tx with free := 0 } } .noRoom [],
     gives .messagePiece [17, 0, 200, 1] (sends { letter with state := .aborting (record 1) .host 0 } leads)
       .wrongState [],
     gives .abortMessage [17] (sends letter leads) .ok [1], gives .abortMessage [17] s .ok [2],
     gives .abortMessage [17] (onAir false (flying (record 1)) leads) .ok [2],
     gives .abortMessage [17] (sends (flying (record 0)) leads) .ok [2],
     gives .abortMessage [17] (sends { letter with state := .aborting (record 1) .host 0 } leads) .ok [3]].all id =
      true := by
  refine ⟨rfl, rfl, rfl, ?_⟩
  decide +kernel

theorem test_met_MessageUnitsRead :
    (asked 0x33 [] busy).takes 0x33 [] ∧ (asked 0x43 [] busy).takes 0x43 [] ∧
    [gives .readOutbound [] State.reset .ok [24, 0, 0, 0],
     gives .readOutbound [] (sends letter leads) .ok
       [20, 0, 0, 1, 17, 20, 1, 0x01, 0x2C, 0, 200, 0, 0, 1, 4, 0, 0, 0, 0, 0, 0, 0],
     gives .readInbound [] State.reset .ok [64, 1, 0, 0, 0, 0, 0, 0, 0, 0, 0, 0, 0, 0]].all id = true := by
  refine ⟨rfl, rfl, ?_⟩
  decide +kernel

/-! ### The receive message unit -/

theorem test_met_InboundRequestsResult :
    (asked 0x40 [8, 64, 127, 65, 66, 67, 68, 69, 70] leads).takes 0x40 [8, 64, 127, 65, 66, 67, 68, 69, 70] ∧
    (asked 0x41 [5, 0, 0, 60] busy).takes 0x41 [5, 0, 0, 60] ∧ (asked 0x42 [5] busy).takes 0x42 [5] ∧
    busy.rx.queue = [] ++ arrival :: [] ∧ (busy.rx.queue.map (·.handle)).Nodup ∧ (∀ a ∈ busy.rx.queue, a.handle ≠ 6) ∧
    [gives .setGroups [8, 64, 127, 65, 66, 67, 68, 69, 70] leads .ok [8], gives .setGroups [0] leads .ok [0],
     gives .setGroups (9 :: List.replicate 9 64) leads .badValue [0], gives .setGroups [2, 64, 63] leads .badValue [2],
     gives .setGroups [1, 128] leads .badValue [1], gives .setGroups [2, 64, 64] leads .badValue [2],
     gives .readMessage [5, 0, 59, 1] busy .ok [5, 0, 59, 1, 0xCD], gives .readMessage [5, 0, 60, 1] busy .badValue [0, 60],
     gives .readMessage [5, 0, 59, 2] busy .badValue [0, 60], gives .readMessage [5, 0, 0, 0] busy .badValue [0, 60],
     gives .readMessage [5, 0, 0, 201] busy .badValue [0, 60], gives .readMessage [6, 0, 0, 1] busy .unknownHandle [],
     gives .releaseMessage [5] busy .ok [63], gives .releaseMessage [6] busy .unknownHandle []].all id = true := by
  refine ⟨rfl, rfl, rfl, rfl, ?_⟩
  decide +kernel

/-- The second and last segment of the message of `context`, from node 9. -/
def lastSegment (size : Nat) (last : Bool) : SegmentFrame :=
  { key := 137, source := 9, dest := 2, id := 17, index := 1, first := false, last := last, abort := false, cls := 0,
    total := none, payload := List.replicate size 1 }

/-- A member with the receive message unit of `receives`. -/
def hears : State := { follows with rx := receives }

theorem test_met_SegmentContinuesMessage :
    hears.rx.sound ∧
    (let f := lastSegment 20 true
     hears.rx.places[0]? = some (some context) ∧ context.source = f.source ∧ context.id = f.id ∧
      f.index = context.next ∧ context.dest = f.dest ∧ f.source ≠ hears.cycle.address ∧ f.first = false ∧
      f.abort = false ∧ f.inconsistent = false ∧ ∀ r ∈ hears.rx.records, r.source ≠ f.source) ∧
    (lastSegment 40 false).inconsistent = false ∧
    (receiveSegment 50000 (lastSegment 20 true) hears).rx.queue.map (fun a => (a.handle, a.data.length)) =
      [(5, 60), (6, 60)] ∧
    (receiveSegment 50000 (lastSegment 20 true) hears).rx.records =
      [{ source := 14, id := 3, lastIndex := 1, count := 63 }, { source := 9, id := 17, lastIndex := 1, count := 0 }] := by
  refine ⟨test_met_invariants.1.2.2.2.2.1, ?_⟩
  decide +kernel

/-- R133, R137, R138, R139: a message that completes beside four completion records replaces the one of highest count set
earliest; with handle 255 at the counter it gets the first free one, and 1 follows 255; with a full queue it is dropped. -/
theorem test_completions :
    let done (source : Byte) (count : Nat) : Completion := { source := source, id := 1, lastIndex := 0, count := count }
    let with_ (handles : List Byte) (counter : Byte) : State := { hears with rx := { hears.rx with
      queue := handles.map (fun h => { arrival with handle := h }), handleCounter := counter,
      records := [done 20 3, done 21 9, done 22 9, done 23 1] } }
    let ends (s : State) := let t := receiveSegment 50000 (lastSegment 20 true) s
      (t.rx.queue.map (·.handle), t.rx.handleCounter, t.rx.records.map (·.source), t.rx.free,
        t.notices.queue.getLast?.map (·.body))
    [ends (with_ [] 255) == ([255], 1, [20, 22, 23, 9], 62, some (.messageArrived 255 9 17 .own 2 1 60)),
     ends (with_ [255, 1] 255) == ([255, 1, 2], 3, [20, 22, 23, 9], 62, some (.messageArrived 2 9 17 .own 2 1 60)),
     ends (with_ [1, 2, 3, 4, 5, 6, 7, 8] 9) ==
       ([1, 2, 3, 4, 5, 6, 7, 8], 9, [20, 22, 23, 9], 63, some (.messageDropped 9 17 2 .queueFull 60))].all id = true := by
  decide +kernel

/-- What a segment does: the last notice, the id and next index of each open context, ORPHAN and DUPLICATE. -/
def segmentDoes (f : SegmentFrame) (s : State) (notice : NoticeBody) (contexts : List (Byte × Nat))
    (orphan duplicate : Nat) : Bool :=
  let t := receiveSegment 50000 f s
  t.notices.queue.getLast?.map (·.body) == some notice &&
    (t.rx.places.filterMap id).map (fun c => (c.id, c.next)) == contexts && t.rx.orphan == orphan &&
    t.rx.duplicate == duplicate

/-- A FIRST segment of a message of 60 bytes from node 9. -/
def firstSegment (messageId : Byte) : SegmentFrame :=
  { key := 137, source := 9, dest := 2, id := messageId, index := 0, first := true, last := false, abort := false, cls := 1,
    total := some 60, payload := List.replicate 40 1 }

/-- R123, R124, R127 to R132, R134: each way a segment is taken, as `SegmentContinuesMessage` states it. -/
theorem test_segment_ways :
    let f := lastSegment 20 true
    let quiet : NoticeBody := .nodeRestarted .powerOn
    let fresh : State := { follows with rx := ReceiveUnit.reset }
    let full : State := { hears with rx := { hears.rx with free := 0, places := [none, none, none, none] } }
    let crowded : State := { hears with rx := { hears.rx with places :=
      [some { context with source := 1 }, some { context with source := 3 }, some { context with source := 4 },
       some { context with source := 5 }] } }
    let stop : SegmentFrame := { f with abort := true, last := false, payload := [] }
    [segmentDoes { f with dest := 3 } hears quiet [(17, 1)] 0 0,
     segmentDoes { f with cls := 4 } hears quiet [(17, 1)] 1 0,
     segmentDoes { f with source := 14, id := 3 } hears quiet [(17, 1)] 0 1,
     segmentDoes (firstSegment 17) fresh quiet [(17, 1)] 0 0,
     segmentDoes f fresh quiet [] 1 0,
     segmentDoes (firstSegment 17) hears quiet [(17, 1)] 0 1,
     segmentDoes (firstSegment 18) hears (.messageDropped 9 17 2 .superseded 40) [(18, 1)] 0 0,
     segmentDoes (firstSegment 18) crowded (.messageDropped 9 18 2 .noContext 0) [(17, 1), (17, 1), (17, 1), (17, 1)] 0 0,
     segmentDoes (firstSegment 18) full (.messageDropped 9 18 2 .noRoom 0) [] 0 0,
     segmentDoes stop hears (.messageDropped 9 17 2 .aborted 40) [] 0 0,
     segmentDoes { stop with id := 18 } hears quiet [(17, 1)] 0 0,
     segmentDoes { f with id := 18 } hears (.messageDropped 9 17 2 .superseded 40) [] 1 0,
     segmentDoes { f with index := 2 } hears (.messageDropped 9 17 2 .gap 40) [] 0 0,
     segmentDoes (lastSegment 21 true) hears (.messageDropped 9 17 2 .length 40) [] 0 0,
     segmentDoes (lastSegment 19 true) hears (.messageDropped 9 17 2 .length 59) [] 0 0].all id = true := by decide +kernel

/-! ### The notice unit -/

/-- A notice with this number. -/
def notice (seq : Half) : Notice := { seq := seq, cycle := none, body := .txRoom 4 }

/-- A notice unit that has lost two notices. -/
def noted (lost : Nat) : State :=
  { State.reset with notices := { queue := [notice 7, notice 8, notice 9], delivered := 2, nextSeq := 10, lost := lost,
                                  disabled := [] } }

theorem test_met_NoticeRequestsResult :
    (asked 0x50 [2, 4, 21] (noted 2)).takes 0x50 [2, 4, 21] ∧ (asked 0x51 [0, 8] (noted 2)).takes 0x51 [0, 8] ∧
    (noted 2).notices.queue = [notice 7] ++ notice 8 :: [notice 9] ∧ (notice 8).seq = 8 ∧
    (∀ m ∈ [notice 7], m.seq ≠ 8) ∧ [notice 9].length < 32 ∧ (∀ n ∈ (noted 2).notices.queue, n.seq ≠ 10) ∧
    [gives .noticeMask [2, 4, 21] (noted 2) .ok [2, 4, 21], gives .noticeMask [0] (noted 2) .ok [0],
     gives .noticeMask (22 :: List.replicate 22 4) (noted 2) .badValue [0],
     gives .noticeMask [2, 4, 22] (noted 2) .badValue [2], gives .noticeMask [1, 3] (noted 2) .badValue [1],
     gives .ackNotices [0, 8] (noted 2) .ok [2, 2, 1, 0, 9, 0, 11, 0],
     gives .ackNotices [0, 9] (noted 0) .ok [3, 0, 0, 0, 0, 0, 10, 0],
     gives .ackNotices [0, 10] (noted 2) .badValue [1, 0, 7]].all id = true := by
  refine ⟨rfl, rfl, rfl, ?_⟩
  decide +kernel

/-! ### The host link's events -/

/-- The part in SPI mode. -/
def spi : State := State.powerOn { mode := true, rate1 := false, rate0 := false }

/-- A reply that waits, and its frame. -/
def answeredEntry : Request := { tag := 7, code := 0x01, body := [], reply := some ⟨.ok, []⟩ }

/-- The state with this buffer and this frame in progress. -/
def linked (buffer : List Request) (outbound : Option OutFrame) (s : State) : State :=
  { s with link := { s.link with buffer := buffer, outbound := outbound } }

theorem test_met_InboundEventsResult :
    (State.reset.link.straps.mode = false ∧ State.reset.link.breakLow = false ∧ State.reset.link.rx = [] ∧
      spi.link.straps.mode = true) ∧
    (after .lineBreak State.reset).map (fun t => t.link.breakLow) = some true ∧
    (after .breakEnd { State.reset with link := { State.reset.link with breakLow := true } }).map (fun t => t.link.breakLow) =
      some false ∧
    (after .gap { State.reset with link := { State.reset.link with rx := [0xA5, 0] } }).map (fun t => t.link.rx) =
      some [] ∧
    (after .selNegated { spi with link := { spi.link with sel := true } }).map (fun t => t.link.sel) = some false := by
  decide +kernel

theorem test_met_OutboundEventsResult :
    (let f : OutFrame := { what := .reply 7, bytes := [] }
     let held : State := { spi with link := { spi.link with held := some f } }
     held.link.outbound = none ∧ held.link.held = some f ∧
     (after .outboundSelect held).map (fun t => t.link.outbound) = some (some f)) ∧
    (let s := linked [answeredEntry] none State.reset
     s.link.held = none ∧ s.link.buffer = [] ++ answeredEntry :: [] ∧ answeredEntry.reply = some ⟨.ok, []⟩ ∧
     (after .outboundSelect s).map (fun t => t.link.outbound) =
       some (some { what := .reply 7, bytes := hostFrame [2, 7, 0] })) ∧
    State.reset.notices.queue[State.reset.notices.delivered]? =
      some { seq := 0, cycle := none, body := .nodeRestarted .powerOn } ∧
    (after .outboundSelect State.reset).map (fun t => t.notices.delivered) = some 1 ∧
    (let idle : State := { State.reset with notices := { State.reset.notices with delivered := 1 } }
     idle.notices.queue.length ≤ idle.notices.delivered ∧ (∀ q ∈ idle.link.buffer, q.reply = none)) ∧
    ((after .replySent (linked [answeredEntry] (some { what := .reply 7, bytes := [] }) State.reset)).map
      (fun t => t.link.buffer)) = some [] ∧
    ((after .noticeFrameSent (linked [] (some { what := .notice (notice 7), bytes := [] }) State.reset)).map
      (fun t => t.link.outbound)) = some none := by
  decide +kernel

/-! ### Cycle starts -/

/-- 11.2: the ARMED bank comes into force at its cycle, and its epoch is in the frame of that cycle. -/
theorem test_met_CycleStartEffects :
    busy.rx.sound ∧ leads.rx.sound ∧ follows.rx.sound ∧
    (busy.current = some { number := 50000, origin := 1000, length := 2500 } ∧ leads.current.isSome ∧
      follows.current.isSome ∧ busy.sched.staged = .armed 8 2500 [openAt 24] (50000 + 1) ∧
      leads.sched.adoption = false ∧ leads.sched.staged = .empty) ∧
    (after .cycleStart busy).map (fun t => (t.sched.active.epoch, t.sched.staged, t.trunk.lineClock)) =
      some (8, .empty, 3500) ∧
    (after .cycleStart busy).map (fun t => (t.rx.places, t.rx.records)) = some (List.replicate 4 none, []) ∧
    (after .cycleStart follows).map (fun t => (t.trunk.window, t.trunk.sending)) = some (.awaiting, none) := by
  refine ⟨test_met_invariants.1.2.2.2.2.1, test_reset_sound.2.2.2.2.1, test_reset_sound.2.2.2.2.1, ?_⟩
  decide +kernel

/-- R75: a CLOSED bank with its adoption mark is switched in LATE, and the node then awaits the accepted frame that
clears listen-only; R84, R92: the channel that the bank does not carry becomes ABSENT, with CHANNEL_STATE. -/
theorem test_late_adoption :
    let marked : State := { withChannel (consumes .fresh 0) follows with
      sched := { follows.sched with staged := .closed 8 2500 [openAt 24], adoption := true } }
    (marked.sched.staged = .closed 8 2500 [openAt 24] ∧ marked.sched.adoption = true ∧ marked.current.isSome) ∧
    (after .cycleStart marked).map (fun t => (t.sched.active.epoch, t.sched.takeUp, t.notices.queue.drop 1)) =
      some (8, .awaitsMatch,
        [{ seq := 1, cycle := some 50001, body := .scheduleActivated 8 2500 50001 .late },
         { seq := 2, cycle := some 50001, body := .channelState 31 9 .resolution .absent (some
            { newState := .unscheduled, before := .fresh, missCount := 0, age := none }) }]) := by decide +kernel

/-- R23, R102, R114, R135: the notices of one cycle start in the order of the units: the message that has WON no segment
leaves with STARVED, TX_ROOM for its blocks, then the lapsed context. -/
theorem test_cycle_start_notices :
    let m : Message := { letter with data := List.replicate 30 0, state := .inFlight { record 0 with starve := 31 } }
    let s : State := { hears with tx := { queue := [m], free := 23, idCounter := 0, roomWatch := true, onLine := none } }
    (after .cycleStart s).map (fun t => (t.tx.free, t.tx.roomWatch, t.rx.free, t.notices.queue.drop 1)) =
      some (24, false, 63,
        [{ seq := 1, cycle := some 50001, body := .messageFailed 17 20 1 .starved false 0 },
         { seq := 2, cycle := some 50001, body := .txRoom 24 },
         { seq := 3, cycle := some 50001, body := .messageDropped 9 17 2 .timeout 40 }]) := by decide +kernel

/-- R7, R11: an own frame in progress is the window's frame; a CYCLIC slot whose frame may still be on the line waits for
it: one that begins 4 byte times after the last slot start, 230, of a cycle of 250 may take 74 byte times. -/
theorem test_cycle_start_on_the_line :
    let e : Entry := { start := 230, slot := .cyclic 12 1 9 0 }
    let close : State := { follows with
      cycle := { follows.cycle with now := some { number := 5, origin := 1000, length := 250 } },
      sched := { follows.sched with active := { epoch := 7, cycleLength := some 250, entries := [e] } } }
    (after .cycleStart (onAir false letter follows)).map (fun t => t.trunk.window) = some .own ∧
    (after .cycleStart close).map (fun t => t.trunk.late) = some [{ entry := e, opened := 1226, record := none }] ∧
    (after .cycleStart follows).map (fun t => t.trunk.late) = some [] := by decide +kernel

/-- A message in flight that lacks its segment 5 (11.3), with these counts. -/
def waits (since starve : Nat) : State := sends (flying { record 5 with sinceWon := since, starve := starve }) leads

/-- 11.3: without the second piece the starve count reaches 32 and the message becomes ABORTING with reason STARVED;
CONTENTION at 48 cycles since won; the sixteenth attempt ends an ABORTING message. -/
theorem test_met_CycleStartCountsMessage :
    leads.current.isSome = true ∧
    (after .cycleStart (sends letter leads)).map (fun t => t.tx.queue) = some [letter] ∧
    (after .cycleStart (waits 46 30)).map (fun t => t.tx.queue) =
      some [flying { record 5 with sinceWon := 47, starve := 31 }] ∧
    (after .cycleStart (waits 47 31)).map (fun t => (t.tx.queue.map (·.state), t.tx.free)) =
      some ([.aborting { record 5 with sinceWon := 48, starve := 32 } .starved 0], 24) ∧
    (after .cycleStart (waits 47 30)).map (fun t => t.tx.queue.map (·.state)) =
      some [.aborting { record 5 with sinceWon := 48, starve := 31 } .contention 0] ∧
    (after .cycleStart (sends { letter with state := .aborting (record 5) .host 14 } leads)).map
      (fun t => t.tx.queue.map (·.state)) = some [.aborting (record 5) .host 15] ∧
    (after .cycleStart (sends { letter with state := .aborting (record 5) .host 15 } leads)).map (fun t => t.tx.queue) =
      some [] := by decide +kernel

/-- A master that claims since the line clock stood at 500,000. -/
def claims (higher : Option Word) : State :=
  { State.reset with cycle := { CycleUnit.reset with address := 1, role := .master, timing := .claiming,
                                                     claim := some { opened := 500000, lastHigher := higher } } }

/-- 11.1, step 4; and the rows named after what comes about inside a cycle start. -/
theorem test_met_ClaimAndNamedCycleStarts :
    (after .claimWindowExpires (claims none)).map (fun t => (t.cycle.timing, t.cycle.now)) =
      some (.leading, some { number := 0, origin := 560000, length := 2500 }) ∧
    (after .claimWindowExpires (claims (some 60007))).bind (fun t => t.cycle.now.map (·.number)) = some 60008 ∧
    (let ends : State := { leads with cycle := { leads.cycle with conflict := some 7 } }
     ends.current.isSome ∧ (after .conflictEpisodeEnd ends).map (fun t => t.cycle.conflict) = some none) ∧
    after .messageStarved (waits 47 31) = after .cycleStart (waits 47 31) ∧
    after .messageStarved (waits 47 30) = some (waits 47 30) ∧
    after .messageContention (waits 47 30) = after .cycleStart (waits 47 30) ∧
    after .messageContention (waits 47 31) = some (waits 47 31) ∧
    (let s := sends { letter with state := .aborting (record 5) .host 15 } leads
     after .abortAttemptsExhausted s = after .cycleStart s) ∧
    (let s := sends { letter with state := .aborting (record 5) .host 14 } leads
     after .abortAttemptsExhausted s = some s) ∧
    (after .contextTimeout hears = after .cycleStart hears ∧ after .contextTimeout leads = some leads) ∧
    (after .completionRecordLapse hears = after .cycleStart hears ∧ after .completionRecordLapse leads = some leads) := by
  decide +kernel

/-! ### Following a master -/

/-- A cycle start frame of node 1 under the empty schedule. -/
def frameOf (number : Word) : CycleStartFrame :=
  { source := 1, number := number, epoch := 0, length := 2500, announces := false, announcedEpoch := 0,
    activation := 0 }

/-- A node that has missed these cycle starts. -/
def missing (role : Role) (misses : Nat) : State :=
  { follows with cycle := { follows.cycle with role := role, timing := .holdover, missCount := misses } }

/-- 11.5: a seventh miss leaves HOLDOVER; at the eighth a member hunts and a deferring master leads. -/
theorem test_met_MissedCycleStartResult :
    (follows.cycle.timing = .locked ∧ follows.trunk.window = .awaiting ∧ follows.cycle.now.isSome) ∧
    ((missing .member 7).cycle.timing = .holdover ∧ (missing .member 7).trunk.window = .awaiting) ∧
    (after .cycleStartWindowCloses (missing .member 6)).map (fun t => (t.cycle.timing, t.cycle.missCount)) =
      some (.holdover, 7) ∧
    (after .cycleStartWindowCloses (missing .member 7)).map (fun t => (t.cycle.timing, t.cycle.now)) =
      some (.hunting, none) ∧
    (after .syncLost (missing .member 7) = after .cycleStartWindowCloses (missing .member 7)) ∧
    (after .takeover (missing .master 7) = after .cycleStartWindowCloses (missing .master 7)) ∧
    (after .takeover (missing .master 7)).map (fun t => (t.cycle.timing, t.cycle.now.map (·.number))) =
      some (.leading, some 50000) ∧
    (let own : State := { follows with trunk := { follows.trunk with window := .own } }
     own.trunk.window ≠ .settled ∧
      (after .cycleStartWindowCloses own).map (fun t => (t.cycle.timing, t.trunk.lineClock)) = some (.holdover, 1002)) ∧
    (judge [0x55] = .malformed ∧ begunUnheard follows 998 [0x55] = false ∧ (998 : Word) = 1000 + BitVec.ofInt 32 (-2)) ∧
    (after (.trunkFrameReceived 998 [0x55]) follows).map (fun t => (t.cycle.missCount, t.trunk.malformed)) =
      some (1, 1) ∧
    (after (.trunkFrameReceived 1002 { frameOf 50000 with length := 249 }.bytes) follows).map
      (fun t => (t.cycle.missCount, t.trunk.lineClock)) = some (1, 1024) := by decide +kernel

/-- 11.1: node 2 after frame 1, with a run of two. -/
def hunts : State :=
  { State.reset with cycle := { CycleUnit.reset with
    address := 2, timing := .hunting,
    run := some { count := 2, source := 1, number := 1, length := 2500, stamp := 2002541 } } }

/-- 11.1: node 2 in LOCKED, waiting for frame 3. -/
def expects : State :=
  { State.reset with
    trunk := { TrunkInterface.reset with window := .awaiting },
    cycle := { CycleUnit.reset with address := 2, timing := .locked, lastMaster := 1,
                                    now := some { number := 3, origin := 2007540, length := 2500 } } }

/-- 11.1, steps 7 and 8. -/
theorem test_met_CycleStartFramesFollowed :
    (hunts.cycle.timing = .hunting ∧ (frameOf 2).source = 1 ∧ (frameOf 2).number = 1 + 1 ∧
      (2005040 - 2002541 : Word).toNat = 2499) ∧
    (expects.cycle.timing = .locked ∧ expects.trunk.window = .awaiting ∧
      (2007541 : Word) = 2007540 + BitVec.ofInt 32 1 ∧ (2007538 : Word) = 2007540 + BitVec.ofInt 32 (-2) ∧
      (frameOf 3).number = 3 ∧ (frameOf 4).number ≠ 3) ∧
    (after (.trunkFrameReceived 2005040 (frameOf 2).bytes) hunts).map
        (fun t => (t.cycle.timing, t.cycle.now, t.cycle.phaseError)) =
      some (.locked, some { number := 2, origin := 2005040, length := 2500 }, -1) ∧
    (after (.syncLocked 2005040 (frameOf 2).bytes) hunts).map (fun t => t.notices.queue.getLast?.map (·.body)) =
      some (some (.syncLocked 1 2500)) ∧
    (after (.trunkFrameReceived 2007541 (frameOf 3).bytes) expects).map
        (fun t => (t.cycle.timing, t.cycle.now, t.cycle.phaseError)) =
      some (.locked, some { number := 3, origin := 2007541, length := 2500 }, 1) ∧
    (after (.trunkFrameReceived 2007538 (frameOf 3).bytes) expects).map (fun t => t.cycle.phaseError) = some (-2) ∧
    (after (.trunkFrameReceived 2007541 (frameOf 4).bytes) expects).map (fun t => t.cycle.timing) = some .hunting := by
  decide +kernel

/-- R25, R28, R29, R33: a claiming master records a number and yields to node 1; a leading one opens an episode or yields;
a hunting node starts and continues a run; a frame outside the window is a jump. -/
theorem test_frames_by_timing :
    let claimer : State := { claims none with cycle := { (claims none).cycle with address := 2 } }
    let leader : State := { leads with cycle := { leads.cycle with address := 2 } }
    let hunting (run : Option CandidateRun) : State := { hunts with cycle := { hunts.cycle with run := run } }
    let first : CandidateRun := { count := 1, source := 1, number := 2, length := 2500, stamp := 5000 }
    let third : CycleStartFrame := { frameOf 7 with source := 3 }
    begunUnheard claimer 5000 (frameOf 2).bytes = false ∧
    (after (.trunkFrameReceived 5000 third.bytes) claimer).map (fun t => t.cycle.claim) =
      some (some { opened := 500000, lastHigher := some 7 }) ∧
    (after (.trunkFrameReceived 5000 (frameOf 2).bytes) claimer).map
      (fun t => (t.cycle.timing, t.cycle.run, t.cycle.lastMaster)) = some (.hunting, some first, 1) ∧
    (after (.trunkFrameReceived 5000 third.bytes) leader).map (fun t => (t.cycle.conflict, t.notices.queue.length)) =
      some (some 0, 2) ∧
    (after (.trunkFrameReceived 5000 (frameOf 2).bytes) leader).map (fun t => (t.cycle.timing, t.cycle.run)) =
      some (.hunting, some first) ∧
    (after (.trunkFrameReceived 5000 (frameOf 2).bytes) (hunting none)).map (fun t => t.cycle.run) = some (some first) ∧
    (after (.trunkFrameReceived 7502 (frameOf 3).bytes) (hunting (some first))).map (fun t => t.cycle.run) =
      some (some { count := 2, source := 1, number := 3, length := 2500, stamp := 7502 }) ∧
    (after (.trunkFrameReceived 7503 (frameOf 3).bytes) (hunting (some first))).map (fun t => t.cycle.run) =
      some (some { count := 1, source := 1, number := 3, length := 2500, stamp := 7503 }) ∧
    (after (.trunkFrameReceived 2007543 (frameOf 3).bytes) expects).map
      (fun t => (t.cycle.timing, t.notices.queue.getLast?.map (·.body))) =
        some (.hunting, some (.syncJump .phase 1)) := by decide +kernel

/-- The master's frame of cycle 50,000 under epoch 7, with this announcement, if its epoch is not 0. -/
def shows (announced : Half) (activation : Word) : CycleStartFrame :=
  { frameOf 50000 with epoch := 7, announces := announced != 0, announcedEpoch := announced, activation := activation }

/-- Node 2 in its cycle with this staged bank. -/
def stages (g : Staged) : State := { follows with sched := { follows.sched with staged := g } }

/-- A CLOSED bank of epoch 8. -/
def closed8 : Staged := .closed 8 2500 []

/-- The same bank ARMED for cycle 50,003. -/
def armed8 : Staged := .armed 8 2500 [] 50003

/-- An accepted frame leaves this staged bank and unready record, and gives these notices. -/
def frameLeaves (f : CycleStartFrame) (g : Staged) (staged : Staged) (unready : Option EpochCycle)
    (notices : List NoticeBody) : Bool :=
  (after (.trunkFrameReceived 1000 f.bytes) (stages g)).map
    (fun t => (t.sched.staged, t.sched.unready, (t.notices.queue.drop 1).map (·.body))) ==
      some (staged, unready, notices)

/-- R66 to R71, R73: what an accepted frame does to a staged bank. -/
theorem test_announcements :
    [frameLeaves (shows 8 50001) closed8 (.armed 8 2500 [] 50001) none [.activationArmed 8 50001 .announcement],
     frameLeaves (shows 8 50000) closed8 closed8 none [],
     frameLeaves (shows 9 50001) closed8 closed8 (some { epoch := 9, cycle := 50001 })
       [.activationUnready 9 50001 .closed (some 8) false],
     frameLeaves (shows 9 50001) .empty .empty (some { epoch := 9, cycle := 50001 })
       [.activationUnready 9 50001 .empty none false],
     frameLeaves (shows 8 50004) armed8 (.armed 8 2500 [] 50004) none [.activationArmed 8 50004 .rearm],
     frameLeaves (shows 8 50003) armed8 armed8 none [],
     frameLeaves (shows 9 50004) armed8 closed8 (some { epoch := 9, cycle := 50004 })
       [.activationUnready 9 50004 .closed (some 8) true],
     frameLeaves (shows 0 0) armed8 closed8 none [.activationWithdrawn 8 50003 .notAnnounced]].all id = true := by
  decide +kernel

/-- R35, R74: a frame under the epoch of the CLOSED bank marks it for adoption and sets listen-only; R75: the frame that
clears listen-only after a late adoption lets the node send from the next cycle. -/
theorem test_adoption_and_listen_only :
    (after (.trunkFrameReceived 1000 { shows 0 0 with epoch := 8 }.bytes) (stages closed8)).map
      (fun t => (t.sched.adoption, t.cycle.listenOnly)) = some (true, true) ∧
    (let late : State := { follows with cycle := { follows.cycle with listenOnly := true },
                                        sched := { follows.sched with takeUp := .awaitsMatch } }
     let matched := after (.trunkFrameReceived 1000 (shows 0 0).bytes) late
     matched.map (fun t => (t.cycle.listenOnly, t.sched.takeUp)) = some (false, .awaitsCycle) ∧
      (matched.bind (after .cycleStart)).map (fun t => t.sched.takeUp) = some .done) := by decide +kernel

theorem test_met_ReceivedFramesCounted :
    (State.reset.cycle.timing = .offline ∧ expects.cycle.timing ≠ .offline ∧ expects.cycle.now.isSome) ∧
    judge [0x55] = .malformed ∧ judge ((frameOf 3).bytes.set 21 0) = .crcError ∧
    judge (frameOf 3).bytes = .good (.cycleStart (frameOf 3)) ∧
    (after (.trunkFrameReceived 2007540 [0x55]) expects).map (fun t => t.trunk.malformed) = some 1 ∧
    (after (.trunkFrameReceived 2007540 ((frameOf 3).bytes.set 21 0)) expects).map (fun t => t.trunk.crcErrors) =
      some 1 := by decide +kernel

/-- Node 2 in its cycle, with the window's result handed. -/
def settled : State := { follows with trunk := { follows.trunk with window := .settled } }

/-- A cyclic frame of label 9. -/
def cyclic9 : CyclicFrame := { source := 1, label := 9, age := 0, payload := [5] }

/-- The slots, STRAY and the number of open contexts that a frame leaves. -/
def slotLeaves (stamp : Word) (bytes : List Byte) (s : State) (slots : List SlotRecord) (stray contexts : Nat) : Bool :=
  (after (.trunkFrameReceived stamp bytes) s).map
    (fun t => (t.trunk.slots, t.trunk.stray, (t.rx.places.filterMap id).length)) == some (slots, stray, contexts)

/-- R8, R9, R15: a slot's first frame is held or handed, at the ends of its window from 1020 to 1028 and 1096 to 1104; other
good frames count in STRAY; the node's own frame, begun at 1100, is its slot's frame. -/
theorem test_slot_frames :
    let f := cyclic9
    let g := firstSegment 17
    let own : State := { settled with trunk := { settled.trunk with ownSlots := [{ start := 100, since := 1100 }] } }
    let short : CycleStartFrame := { frameOf 50000 with length := 249 }
    [slotLeaves 1024 (List.replicate 40 0x77) settled [{ start := 24, held := none, ended := 1028 }] 0 0,
     slotLeaves 1024 short.bytes settled [{ start := 24, held := none, ended := 1046 }] 0 0,
     slotLeaves 1019 short.bytes settled [] 0 0,
     slotLeaves 1102 [0x55] own [] 0 0,
     slotLeaves 1020 f.bytes settled [{ start := 24, held := some f, ended := 1031 }] 0 0,
     slotLeaves 1028 f.bytes settled [{ start := 24, held := some f, ended := 1039 }] 0 0,
     slotLeaves 1019 f.bytes settled [] 1 0,
     slotLeaves 1024 [0x55] settled [{ start := 24, held := none, ended := 1025 }] 0 0,
     slotLeaves 1024 g.bytes settled [{ start := 24, held := none, ended := 1080 }] 1 0,
     slotLeaves 1100 f.bytes settled [{ start := 100, held := none, ended := 1111 }] 1 0,
     slotLeaves 1024 f.bytes hunts [] 0 0,
     slotLeaves 1096 g.bytes settled [{ start := 100, held := none, ended := 1152 }] 0 1,
     slotLeaves 1104 g.bytes settled [{ start := 100, held := none, ended := 1160 }] 0 1,
     slotLeaves 1105 g.bytes settled [] 1 0, slotLeaves 1101 g.bytes own [] 1 0,
     slotLeaves 1099 g.bytes own [{ start := 100, held := none, ended := 1155 }] 0 1].all id = true := by decide +kernel

/-- R9, R11: a frame that began in the last slot of the cycle before is held in that slot. -/
theorem test_late_frame :
    let e : Entry := { start := 24, slot := .cyclic 20 1 9 8 }
    let late : State := { settled with trunk := { settled.trunk with late := [{ entry := e, opened := 990, record := none }] } }
    (after (.trunkFrameReceived 998 cyclic9.bytes) late).map (fun t => (t.trunk.late.map (·.record), t.trunk.stray)) =
      some ([some { start := 24, held := some cyclic9, ended := 1009 }], 0) := by decide +kernel

/-- R5, R16: a frame on the line when the node goes ONLINE is not received, one that begins then is. -/
theorem test_frames_begun_before_going_online :
    let s : State := { hunts with cycle := { hunts.cycle with run := none },
                                  trunk := { hunts.trunk with hearsFrom := some 5000 } }
    after (.trunkFrameReceived 4999 (frameOf 2).bytes) s = some s ∧
    after (.trunkFrameReceived 4978 (frameOf 2).bytes) s = some s ∧
    (after (.trunkFrameReceived 5000 (frameOf 2).bytes) s).map (fun t => (t.cycle.run.isSome, t.trunk.hearsFrom)) =
      some (true, none) := by decide +kernel

/-! ### Slots -/

/-- A node that leads and produces label 9, one without a channel, and one that awaits its next cycle start (R75). -/
theorem test_met_OwnCyclicFrames :
    (let e : Entry := { start := 24, slot := .cyclic 20 1 9 8 }
     let c : CycleNow := { number := 50000, origin := 1000, length := 2500 }
     e ∈ busy.sched.active.entries ∧ (busy.sched.active.entries.map (·.start)).Nodup ∧ walks busy c e = true ∧
      busy.cycle.address = 1 ∧ busy.current = some c) ∧
    (busy.channels[31]? = some (some (produces (some (List.replicate 8 1)))) ∧
      (busy.channels.filterMap (fun o => o.map (·.label))).Nodup ∧ busy.cycle.timing = .leading) ∧
    (let f : CyclicFrame := { source := 1, label := 9, age := 4, payload := List.replicate 8 1 }
     (after (.cyclicSlotStart 24) busy).map (fun t => t.trunk.sending) = some (some { since := 1024, bytes := f.bytes })) ∧
    (after (.cyclicSlotStart 24) leads).map (fun t => t.trunk.sending) = some none ∧
    (let waits : State := { busy with cycle := { busy.cycle with timing := .locked },
                                      sched := { busy.sched with takeUp := .awaitsCycle } }
     (after (.cyclicSlotStart 24) waits).map (fun t => t.trunk.sending) = some none ∧
      (after (.openSlotWindowOpens { start := 100, line := .quiet }) (sends letter waits)).map
        (fun t => t.trunk.segment) = some none) ∧
    (let own : OwnFrame := { since := 1024, bytes := [1] }
     let leaving : State := { leads with trunk := { leads.trunk with
       txen := true, sending := some own, deferred := some .nodeReset } }
     (after .ownFrameSent leaving).map (fun t => t.trunk) = some TrunkInterface.reset) ∧
    (let own : OwnFrame := { since := 1024, bytes := [1] }
     let sent : State := { leads with trunk := { leads.trunk with txen := true, sending := some own } }
     (after .ownFrameSent sent).map (fun t => (t.trunk.txen, t.trunk.lineClock)) = some (false, 1025) ∧
      (after .ownFrameMismatch sent).map (fun t => t.trunk.disturbed) = some 1) := by
  decide +kernel

/-- A node that consumes label 9, with this frame held for the slot. -/
def listens (c : Channel) (held : Option CyclicFrame) : State :=
  let s := withChannel c follows
  { s with trunk := { s.trunk with slots := [{ start := 24, held := held, ended := 1040 }] } }

theorem test_met_ConsumeChannelsEvaluated :
    (let s := listens (consumes .missed 2) none
     let e : Entry := { start := 24, slot := .cyclic 20 1 9 8 }
     s.current = some { number := 50000, origin := 1000, length := 2500 } ∧ e ∈ s.sched.active.entries ∧
      (s.sched.active.entries.map (·.start)).Nodup ∧ walks s { number := 50000, origin := 1000, length := 2500 } e = true ∧
      s.trunk.late = [] ∧ s.channels[31]? = some (some (consumes .missed 2)) ∧
      (s.channels.filterMap (fun o => o.map (·.label))).Nodup ∧ (consumes .missed 2).label = 9 ∧
      (consumes .missed 2).resolution = .resolved) ∧
    (let f : CyclicFrame := { source := 1, label := 9, age := 11, payload := List.replicate 8 5 }
     let d : Consume := { state := .staleSource, missCount := 0, missLimit := 3, staleLimit := 10,
                          received := some { cycle := 50000, age := 11 } }
     heldFrame 24 (listens (consumes .waiting 0) (some f)) = some f ∧
      (after (.cyclicSlotEnd 24) (listens (consumes .waiting 0) (some f))).map
        (fun t => t.channels[31]?.bind (fun o => o.map (fun c => (c.value, c.direction)))) =
        some (some (some (List.replicate 8 5), .consume d))) ∧
    (let wrong : CyclicFrame := { source := 3, label := 9, age := 0, payload := List.replicate 8 5 }
     (after (.cyclicSlotEnd 24) (listens (consumes .missed 2) (some wrong))).map (fun t => t.trunk.wrongSlot) = some 1) ∧
    (let s := listens (consumes .missed 2) none
     heldFrame 24 s = none ∧ after (.channelLost 24) s = after (.cyclicSlotEnd 24) s ∧
      (after (.channelLost 24) s).map (fun t => t.channels) = some (withChannel (consumes .lost 3) follows).channels) ∧
    (after (.cyclicSlotEnd 24) (listens (consumes .waiting 0) none)).map (fun t => t.channels) =
      some (withChannel (consumes .waiting 0) follows).channels := by decide +kernel

/-- R9, R11, R89, R92: a frame that ended after its slot moves the slot end; the own frame's slot is handed without one; a
frame with a foreign label that is bound counts in WRONG_SLOT; a slot end of the cycle before comes with its frame. -/
theorem test_slot_ends :
    let e : Entry := { start := 24, slot := .cyclic 20 1 9 8 }
    let f : CyclicFrame := { source := 1, label := 9, age := 0, payload := List.replicate 8 5 }
    let s := listens (consumes .lost 3) (some f)
    let long : State := { s with trunk := { s.trunk with slots := [{ start := 24, held := some f, ended := 1051 }] } }
    let own : State := { s with trunk := { s.trunk with ownSlots := [{ start := 24, since := 1024 }] } }
    let foreign := listens { consumes .waiting 0 with label := 8 } (some { f with label := 8 })
    let late : State := { withChannel (consumes .waiting 0) follows with trunk := { follows.trunk with
      late := [{ entry := e, opened := 900, record := some { start := 24, held := some f, ended := 1005 } }] } }
    (after (.cyclicSlotEnd 24) s).map (fun t => (t.trunk.lineClock, t.notices.queue.getLast?.map (·.body))) =
      some (1044, some (.channelState 31 9 .freshness .resolved (some
        { newState := .fresh, before := .lost, missCount := 0, age := some 0 }))) ∧
    (after (.cyclicSlotEnd 24) long).map (fun t => t.trunk.lineClock) = some 1051 ∧
    ((after (.trunkFrameReceived 1024 (List.replicate 90 0x77)) settled).bind (after (.cyclicSlotEnd 24))).map
      (fun t => t.trunk.lineClock) = some 1044 ∧
    (after (.cyclicSlotEnd 24) own).map (fun t => t.channels) = some s.channels ∧
    (after (.cyclicSlotEnd 24) foreign).map (fun t => t.trunk.wrongSlot) = some 1 ∧
    (after (.cyclicSlotEnd 24) late).map (fun t => (t.trunk.late, t.trunk.lineClock,
      t.channels[31]?.bind (fun o => o.bind (·.value)))) = some ([], 1005, some (List.replicate 8 5)) := by decide +kernel

/-- An OPEN slot of `bank7` whose window opens with this line. -/
def opens (line : OpenLine) : Instr := .openSlotWindowOpens { start := 100, line := line }

/-- The floor of the OPEN slot is 1: a message of class 1 contends, one of class 0 does not; the key of node 1 with
class 1 is (3 - 1) × 64 + 1. -/
theorem test_met_OpenSlotAsked :
    (let e : Entry := { start := 100, slot := .openSlot 1 }
     let c : CycleNow := { number := 50000, origin := 1000, length := 2500 }
     e ∈ leads.sched.active.entries ∧ walks leads c e = true ∧ leads.trunk.segment = none ∧ leads.tx.queue = [] ∧
      leads.current = some c ∧ (leads.sched.active.entries.map (·.start)).Nodup) ∧
    (after (opens .quiet) (sends letter leads)).map
      (fun t => (t.tx.queue.map (·.state), t.trunk.segment.map (fun g => (byteAt g.bytes 4, g.bytes.length)),
        t.trunk.lineClock)) = some ([.inFlight (record 0)], some (129, 56), 1096) ∧
    (after (opens .quiet) (sends { letter with cls := 0 } leads)).map (fun t => t.trunk.segment) = some none ∧
    (after (opens .quiet) (sends (flying (record 4)) leads)).map (fun t => t.tx.onLine) =
      some (some { index := 4, abort := false }) ∧
    (after (opens .quiet) (sends (flying (record 5)) leads)).map (fun t => t.tx.onLine) = some none ∧
    (after (opens .quiet) (sends { letter with state := .aborting (record 5) .starved 0 } leads)).map
      (fun t => t.tx.onLine) = some (some { index := 5, abort := true }) := by decide +kernel

/-- R12: the four ways to contend, at the ends of the window from 1096 to 1104, and the instant of LOST where the
interface does not send. Only a lead at the window's opening begins the segment there. -/
theorem test_ways_to_contend :
    let way (line : OpenLine) := (after (opens line) (sends letter leads)).bind
      (fun t => t.trunk.segment.map (fun g => (g.way, t.trunk.txen)))
    (way (.leadSeen 0) = some (.sends 1096, true) ∧ way (.leadSeen 3) = some (.waits 1099, false)) ∧
    way .quiet = some (.waits 1100, false) ∧ way .busy = some (.silent 1100, false) ∧
    (way (.quietAfter 4) = some (.waits 1104, false) ∧ way (.quietAfter 5) = some (.silent 1104, false)) ∧
    (let silent := after (opens .busy) (sends letter leads)
     silent.bind (after .segmentWon) = silent ∧ silent.bind (after .segmentDisturbed) = silent) ∧
    ((after (opens .busy) (sends letter leads)).bind (after .segmentLost)).map
      (fun t => (t.trunk.lineClock, t.trunk.segment, t.tx.onLine)) = some (1100, none, none) := by decide +kernel

/-- A byte time passes. -/
def ticks (s : State) : Option State :=
  match step s with
  | .next t => some t
  | .fault _ | .refused _ => none

/-- 1.7, R4, R12: the window of entry 3 opens at byte time 92 while the node's own frame of entry 2 runs to 94, where TXEN is
negated; the segment begins at 96, where it is asserted, and is LOST; a departure before that drops it. -/
theorem test_own_frame_ends_in_a_window :
    let bank : ActiveBank := { bank7 with
      entries := [{ start := 52, slot := .cyclic 44 1 11 32 }, { start := 96, slot := .openSlot 0 }] }
    let own : OwnFrame := { since := 1052, bytes := List.replicate 42 1 }
    let s : State := sends letter { leads with
      sched := { leads.sched with active := bank }, trunk := { leads.trunk with txen := true, sending := some own } }
    let opened := after (.openSlotWindowOpens { start := 96, line := .quiet }) s
    let ended := opened.bind (after .ownFrameSent)
    let begun := (ended.bind ticks).bind ticks
    let shows (o : Option State) (clock : Word) (txen : Bool) (way : Option Contention) : Bool :=
      o.map (fun t => (t.trunk.lineClock, t.trunk.txen, t.trunk.segment.map (·.way))) == some (clock, txen, way)
    [shows opened 1092 true (some (.waits 1096)), shows ended 1094 false (some (.waits 1096)),
     shows (ended.bind ticks) 1095 false (some (.waits 1096)), shows begun 1096 true (some (.sends 1096)),
     shows (begun.bind (after .segmentLost)) 1096 false none, shows (ended.bind (after .segmentLost)) 1096 false none,
     shows (opened.bind (after .segmentDisturbed)) 1096 true none,
     shows (ended.bind (fun t => after .goOffline (asked 0x05 [] t))) 1094 false none].all id = true := by decide +kernel

/-- 11.3: WON of segments 1 and 7, LOST, DISTURBED; 11.4: the sixteenth DISTURBED in a row. -/
theorem test_met_SegmentOutcomesApplied :
    (let s := onAir false (flying (record 1)) leads
     s.trunk.segment = some { bytes := [0x55], start := 100, way := .sends 1100 } ∧ s.trunk.sending = none ∧
      s.tx.onLine = some { index := 1, abort := false } ∧ s.tx.queue = [flying (record 1)] ∧
      (after .segmentWon s).map (fun t => (t.tx.queue, t.tx.free)) = some ([flying (record 2)], 21) ∧
      (after .segmentLost s).map (fun t => (t.tx.queue, t.trunk.txen)) = some ([flying (record 1)], false) ∧
      after .messageTrunkFault s = some s) ∧
    (let whole : Message := { flying (record 7) with data := List.replicate 300 0xAB }
     (after .segmentWon (onAir false whole leads)).map
        (fun t => (t.tx.queue, t.tx.free, t.notices.queue.getLast?.map (·.body))) =
      some ([], 24, some (.messageSent 17 20 1 300))) ∧
    (after .segmentDisturbed (onAir false (flying { record 1 with disturbed := 14 }) leads)).map (fun t => t.tx.queue) =
      some [flying { record 1 with disturbed := 15 }] ∧
    (let s := onAir false (flying { record 1 with disturbed := 15 }) leads
     after .segmentDisturbed s = after .messageTrunkFault s ∧
      (after .messageTrunkFault s).map (fun t => t.notices.queue.getLast?.map (·.body)) =
        some (some (.messageFailed 17 20 1 .trunkFault false 40))) ∧
    (after .segmentLost (onAir false (flying { record 0 with abortPending := true }) leads)).map (fun t => t.tx.queue) =
      some [] ∧
    (let stop : Message := { letter with state := .aborting (record 5) .starved 0, sent := 200 }
     (after .segmentWon (onAir true stop leads)).map (fun t => t.notices.queue.getLast?.map (·.body)) =
      some (some (.messageFailed 17 20 1 .starved true 200))) := by decide +kernel

/-- R118: WON and DISTURBED with an abort pending make the message ABORTING with reason HOST; R16: after a GO_OFFLINE the
message is gone, the outcome still ends the frame and DISTURBED counts. -/
theorem test_outcomes_of_a_leaving_message :
    let pending := onAir false (flying { record 1 with abortPending := true }) leads
    let gone := (after .goOffline (asked 0x05 [] (onAir false (flying (record 1)) leads)))
    (after .segmentWon pending).map (fun t => t.tx.queue) =
      some [{ letter with data := List.replicate 80 0xAB, sent := 80, state := .aborting (record 2) .host 0 }] ∧
    (after .segmentDisturbed pending).map (fun t => t.tx.queue.map (·.state)) =
      some [.aborting { record 1 with disturbed := 1 } .host 0] ∧
    gone.map (fun t => (t.tx.queue, t.tx.onLine, t.trunk.txen, t.trunk.deferred)) = some ([], none, true, some .offline) ∧
    (gone.bind (after .segmentDisturbed)).map (fun t => (t.trunk.segment, t.trunk.txen, t.trunk.deferred, t.trunk.disturbed)) =
      some (none, false, none, 1) := by decide +kernel

end Sys2Proof.Machine.Tests
end

section
/-! PROOFS. IDENTIFY and SET_NODE (R20, R38): what the two handlers answer, and the statements O31 and O32. -/

namespace Sys2Proof.Machine

/-! ### Codes and the operating state -/

/-- 10.6: the two role codes, as O31 writes them. -/
theorem Role.code_eq_ite (r : Role) : r.code = if r = .master then 2 else 1 := by
  cases r <;> rfl

/-- 10.6: a code names no role exactly when it is neither MEMBER nor MASTER. -/
theorem roleOf_eq_none_iff (b : Byte) : roleOf b = none ↔ b ≠ 1 ∧ b ≠ 2 := by
  unfold roleOf
  split_ifs with member master
  · exact iff_of_false nofun fun h => h.1 member
  · exact iff_of_false nofun fun h => h.2 master
  · exact iff_of_true rfl ⟨member, master⟩

/-- 10.6: the role that a code names, when it names one. -/
theorem roleOf_of_named {b : Byte} (h : b = 1 ∨ b = 2) :
    roleOf b = some (if b = 2 then .master else .member) := by
  obtain rfl | rfl := h <;> rfl

/-- R19: the operating state, as the statements ask for it. -/
theorem State.online_eq_decide (s : State) : s.online = decide (s.cycle.timing ≠ .offline) := by
  by_cases h : s.cycle.timing = .offline <;> simp [State.online, h]

/-- 10.6: the code of the operating state, read from the timing state (R19). -/
theorem State.operatingCode_eq_ite (s : State) :
    s.operatingCode = if s.cycle.timing = .offline then 0 else 1 := by
  by_cases h : s.cycle.timing = .offline <;> simp [State.operatingCode, State.online_eq_decide, flagByte, h]

/-! ### IDENTIFY -/

theorem exec_identify (s : State) : exec .identify s = takeRequest 0x01 identifyRequest s := rfl

/-- R38: the reply of IDENTIFY, byte by byte; 410 is 019A hex. -/
theorem identifyRequest_eq (body : List Byte) (s : State) :
    identifyRequest body s = (⟨.ok, [0x5A, 0x01, 0x9A, 1, s.cycle.address,
      if s.cycle.role = .master then 2 else 1, if s.cycle.timing = .offline then 0 else 1]⟩, s) := by
  have partCode : halfBytesOf 410 = [0x01, 0x9A] := rfl
  simp [identifyRequest, Reply.okWith, partCode, Role.code_eq_ite, State.operatingCode_eq_ite]

/-- Settles O31: the body length is the one allowed, so the reply is the handler's. -/
theorem identifyReply : Obligations.IdentifyReply := by
  intro s h
  rw [exec_identify, takeRequest_takes h rfl, identifyRequest_eq]

/-! ### SET_NODE -/

theorem exec_setNode (s : State) : exec .setNode s = takeRequest 0x02 setNodeRequest s := rfl

/-- R20: in ONLINE the request is refused, whatever its body holds. -/
theorem setNodeRequest_online {s : State} (body : List Byte) (h : s.cycle.timing ≠ .offline) :
    setNodeRequest body s = (⟨.wrongState, []⟩, s) := by
  simp [setNodeRequest, State.online_eq_decide, h, Reply.refuse]

/-- R20: in OFFLINE an address above 62 is refused, and so is a code that names no role. -/
theorem setNodeRequest_badValue {address role : Byte} {s : State} (hs : s.cycle.timing = .offline)
    (h : 62 < address.toNat ∨ (role ≠ 1 ∧ role ≠ 2)) :
    setNodeRequest [address, role] s = (⟨.badValue, []⟩, s) := by
  by_cases ha : 62 < address.toNat
  · simp [setNodeRequest, State.online_eq_decide, hs, byteAt, BitVec.lt_def, ha, Reply.refuse]
  · have unnamed : roleOf role = none := (roleOf_eq_none_iff role).2 (h.resolve_left ha)
    simp [setNodeRequest, State.online_eq_decide, hs, byteAt, unnamed, Reply.refuse]

/-- R20: in OFFLINE an address up to 62 and a code that names a role replace address and role. -/
theorem setNodeRequest_taken {address role : Byte} {s : State} (hs : s.cycle.timing = .offline)
    (h : ¬ (62 < address.toNat ∨ (role ≠ 1 ∧ role ≠ 2))) :
    setNodeRequest [address, role] s = (⟨.ok, []⟩,
      { s with cycle := { s.cycle with address := address, role := if role = 2 then .master else .member } }) := by
  obtain ⟨ha, hr⟩ := not_or.1 h
  have named : role = 1 ∨ role = 2 := by tauto
  simp [setNodeRequest, State.online_eq_decide, hs, byteAt, BitVec.lt_def, ha, roleOf_of_named named, Reply.okWith, State.withCycle]

/-- Settles O32, by the three cases of R20: ONLINE, a bad value, taken. -/
theorem setNodeResult : Obligations.SetNodeResult := by
  intro address role s h
  rw [exec_setNode, takeRequest_takes h rfl]
  by_cases hs : s.cycle.timing ≠ .offline
  · rw [if_pos hs, setNodeRequest_online _ hs]
  · by_cases hbad : 62 < address.toNat ∨ (role ≠ 1 ∧ role ≠ 2)
    · rw [if_neg hs, if_pos hbad, setNodeRequest_badValue (not_not.1 hs) hbad]
    · rw [if_neg hs, if_neg hbad, setNodeRequest_taken (not_not.1 hs) hbad]

end Sys2Proof.Machine
end

section
/-! PROOFS. The frame layer: for each operation that commands are made of, the units and fields it leaves as they were.
Each lemma is a conjunction that `simp` takes apart, one rewriting rule for each field. Here and in the parts that follow, the
proofs are elaborated one after another, as the tests are: side by side they come close to the memory that the check grants. -/

namespace Sys2Proof.Machine

set_option Elab.async false

/-! ### What an operation of one unit leaves as it was -/

/-- R150: what giving notices leaves of the notice unit. -/
@[simp] abbrev NoticeRunKept (s t : State) : Prop :=
  t.notices.disabled = s.notices.disabled ∧ t.notices.delivered = s.notices.delivered

/-- An operation of the transmit message unit. -/
@[simp] abbrev TransmitsOnly (s t : State) : Prop :=
  t.trunk = s.trunk ∧ t.cycle = s.cycle ∧ t.sched = s.sched ∧ t.channels = s.channels ∧ t.rx = s.rx ∧ t.link = s.link ∧
  t.pending = s.pending ∧ t.tx.idCounter = s.tx.idCounter ∧ NoticeRunKept s t

/-- An operation of the receive message unit. -/
@[simp] abbrev ReceivesOnly (s t : State) : Prop :=
  t.trunk = s.trunk ∧ t.cycle = s.cycle ∧ t.sched = s.sched ∧ t.channels = s.channels ∧ t.tx = s.tx ∧ t.link = s.link ∧
  t.pending = s.pending ∧ t.rx.groups = s.rx.groups ∧ NoticeRunKept s t

/-- An operation of the channel unit. -/
@[simp] abbrev ResolvesOnly (s t : State) : Prop :=
  t.trunk = s.trunk ∧ t.cycle = s.cycle ∧ t.sched = s.sched ∧ t.tx = s.tx ∧ t.rx = s.rx ∧ t.link = s.link ∧
  t.pending = s.pending ∧ NoticeRunKept s t

/-- An operation of the schedule unit that makes no switch. -/
@[simp] abbrev SchedulesOnly (s t : State) : Prop :=
  t.trunk = s.trunk ∧ t.cycle = s.cycle ∧ t.sched.active = s.sched.active ∧ t.sched.lastSwitch = s.sched.lastSwitch ∧
  t.channels = s.channels ∧ t.tx = s.tx ∧ t.rx = s.rx ∧ t.link = s.link ∧ t.pending = s.pending ∧ NoticeRunKept s t

/-- R77: a switch reaches the channel unit too. -/
@[simp] abbrev SwitchesOnly (s t : State) : Prop :=
  t.trunk = s.trunk ∧ t.cycle = s.cycle ∧ t.tx = s.tx ∧ t.rx = s.rx ∧ t.link = s.link ∧ t.pending = s.pending ∧
  NoticeRunKept s t

/-- What no event of the trunk touches: the host link, the queue of commands, and what the host configures. -/
@[simp] abbrev HostSideKept (s t : State) : Prop :=
  t.link = s.link ∧ t.pending = s.pending ∧ t.tx.idCounter = s.tx.idCounter ∧ t.rx.groups = s.rx.groups ∧
  t.cycle.address = s.cycle.address ∧ t.cycle.role = s.cycle.role ∧ t.cycle.bareLength = s.cycle.bareLength ∧
  NoticeRunKept s t

/-! ### Notices -/

@[simp] theorem giveNotices_noticeRun (l : List NoticeBody) (s : State) : NoticeRunKept s (giveNotices l s) := by
  induction l generalizing s with
  | nil => exact ⟨rfl, rfl⟩
  | cons b l ih =>
    obtain ⟨hdis, hdel⟩ := ih (giveNotice b s)
    exact ⟨hdis.trans (giveNotice_disabled b s), hdel.trans (giveNotice_delivered b s)⟩

@[simp] theorem giveNotice_cycleNumber (b : NoticeBody) (s : State) : (giveNotice b s).cycleNumber = s.cycleNumber := by
  simp [State.cycleNumber, State.current]

/-! ### The transmit message unit -/

@[simp] theorem examineRoom_only (n : Nat) (s : State) : TransmitsOnly s (examineRoom n s) := by
  obtain h | ⟨_, _, _, h⟩ := examineRoom_cases n s <;> simp [TransmitsOnly, h]

@[simp] theorem failFirst_only (m : Message) (rest : List Message) (reason : FailReason) (a : Bool) (s : State) :
    TransmitsOnly s (failFirst m rest reason a s) := by
  simp [failFirst]

@[simp] theorem sentFirst_only (m : Message) (rest : List Message) (s : State) :
    TransmitsOnly s (sentFirst m rest s) := by
  simp [sentFirst]

@[simp] theorem enterAborting_only (m : Message) (r : InFlight) (rest : List Message) (reason : FailReason) (s : State) :
    TransmitsOnly s (enterAborting m r rest reason s) := by
  unfold enterAborting
  split <;> simp

@[simp] theorem actPending_only (m : Message) (r : InFlight) (rest : List Message) (s : State) :
    TransmitsOnly s (actPending m r rest s) := by
  unfold actPending
  split <;> simp

@[simp] theorem dataWon_only (m : Message) (r : InFlight) (rest : List Message) (s : State) :
    TransmitsOnly s (dataWon m r rest s) := by
  unfold dataWon
  split <;> simp

@[simp] theorem dataDisturbed_only (m : Message) (r : InFlight) (rest : List Message) (s : State) :
    TransmitsOnly s (dataDisturbed m r rest s) := by
  unfold dataDisturbed
  split <;> simp

@[simp] theorem applyOutcome_only (o : OnLine) (result : SegmentOutcome) (s : State) :
    TransmitsOnly s (applyOutcome o result s) := by
  unfold applyOutcome
  split
  · simp
  · split <;> simp

@[simp] theorem handOutcome_only (result : SegmentOutcome) (s : State) : TransmitsOnly s (handOutcome result s) := by
  unfold handOutcome
  split <;> simp

@[simp] theorem countInFlight_only (m : Message) (r : InFlight) (rest : List Message) (s : State) :
    TransmitsOnly s (countInFlight m r rest s) := by
  unfold countInFlight
  dsimp only
  split <;> simp

@[simp] theorem countAborting_only (m : Message) (r : InFlight) (reason : FailReason) (k : Nat) (rest : List Message)
    (s : State) : TransmitsOnly s (countAborting m r reason k rest s) := by
  unfold countAborting
  split <;> simp

@[simp] theorem transmitCycleStart_only (s : State) : TransmitsOnly s (transmitCycleStart s) := by
  unfold transmitCycleStart
  split
  · simp
  · split <;> simp

@[simp] theorem transmitDepart_only (reason : FailReason) (s : State) : TransmitsOnly s (transmitDepart reason s) := by
  unfold transmitDepart
  split
  · simp
  · split <;> simp

@[simp] theorem offerFirst_only (o : OnLine) (s : State) : TransmitsOnly s (offerFirst o s) := by
  unfold offerFirst
  split <;> simp

/-! ### The receive message unit -/

@[simp] theorem breakContext_only (p : Nat) (c : Context) (reason : DropReason) (s : State) :
    ReceivesOnly s (breakContext p c reason s) := by
  simp [breakContext]

@[simp] theorem breakWhere_only (test : Context → Bool) (reason : DropReason) (l : List Nat) (s : State) :
    ReceivesOnly s (breakWhere test reason l s) := by
  induction l generalizing s with
  | nil => simp [breakWhere]
  | cons p l ih =>
    unfold breakWhere
    split
    · refine (ih _).imp (·.trans ?_) (.imp (·.trans ?_) (.imp (·.trans ?_) (.imp (·.trans ?_) (.imp (·.trans ?_)
        (.imp (·.trans ?_) (.imp (·.trans ?_) (.imp (·.trans ?_) (.imp (·.trans ?_) (·.trans ?_)))))))))
      all_goals split <;> simp
    · exact ih s
    · exact ih s

@[simp] theorem enqueueArrival_only (a : Arrival) (s : State) : ReceivesOnly s (enqueueArrival a s) := by
  simp [enqueueArrival]

@[simp] theorem dropFull_only (c : Context) (s : State) : ReceivesOnly s (dropFull c s) := by
  simp [dropFull]

@[simp] theorem recordCompletion_only (c : Context) (index : Nat) (s : State) :
    ReceivesOnly s (recordCompletion c index s) := by
  simp [recordCompletion]

@[simp] theorem completeContext_only (number : Word) (p : Nat) (c : Context) (index : Nat) (s : State) :
    ReceivesOnly s (completeContext number p c index s) := by
  unfold completeContext
  dsimp only
  split <;> simp

@[simp] theorem closeAppended_only (number : Word) (p : Nat) (c : Context) (f : SegmentFrame) (s : State) :
    ReceivesOnly s (closeAppended number p c f s) := by
  unfold closeAppended
  split_ifs <;> simp

@[simp] theorem appendSegment_only (number : Word) (p : Nat) (c : Context) (f : SegmentFrame) (s : State) :
    ReceivesOnly s (appendSegment number p c f s) := by
  unfold appendSegment
  split_ifs <;> simp

@[simp] theorem openContext_only (number : Word) (f : SegmentFrame) (s : State) :
    ReceivesOnly s (openContext number f s) := by
  unfold openContext
  split
  · simp
  · split <;> simp

@[simp] theorem firstSegment_only (number : Word) (f : SegmentFrame) (s : State) :
    ReceivesOnly s (firstSegment number f s) := by
  unfold firstSegment
  split
  · simp
  · split <;> simp

@[simp] theorem orphanSegment_only (f : SegmentFrame) (s : State) : ReceivesOnly s (orphanSegment f s) := by
  unfold orphanSegment
  split <;> simp

@[simp] theorem laterSegment_only (number : Word) (f : SegmentFrame) (s : State) :
    ReceivesOnly s (laterSegment number f s) := by
  unfold laterSegment
  split
  · simp
  · split_ifs <;> simp

@[simp] theorem abortReceived_only (f : SegmentFrame) (s : State) : ReceivesOnly s (abortReceived f s) := by
  unfold abortReceived
  split <;> simp

@[simp] theorem contextSegment_only (number : Word) (f : SegmentFrame) (s : State) :
    ReceivesOnly s (contextSegment number f s) := by
  unfold contextSegment
  split_ifs <;> simp

@[simp] theorem consistentSegment_only (number : Word) (f : SegmentFrame) (s : State) :
    ReceivesOnly s (consistentSegment number f s) := by
  unfold consistentSegment
  split
  · simp
  · split <;> simp

@[simp] theorem receiveSegment_only (number : Word) (f : SegmentFrame) (s : State) :
    ReceivesOnly s (receiveSegment number f s) := by
  unfold receiveSegment
  split_ifs <;> simp

@[simp] theorem receiveCycleStart_only (s : State) : ReceivesOnly s (receiveCycleStart s) := by
  simp [receiveCycleStart, receiveCounts]

@[simp] theorem receiveDepart_only (reason : DropReason) (s : State) : ReceivesOnly s (receiveDepart reason s) := by
  simp [receiveDepart]

/-! ### The channel unit -/

@[simp] theorem reresolveAll_only (s : State) : ResolvesOnly s (reresolveAll s) := by
  simp [reresolveAll]

@[simp] theorem channelCycleStart_only (s : State) :
    ResolvesOnly s (channelCycleStart s) ∧ (channelCycleStart s).notices = s.notices := by
  simp [channelCycleStart]

@[simp] theorem channelDepart_only (s : State) :
    ResolvesOnly s (channelDepart s) ∧ (channelDepart s).notices = s.notices := by
  simp [channelDepart]

@[simp] theorem evaluateChannel_only (number : Word) (place : Nat) (c : Channel) (f : Option CyclicFrame) (s : State) :
    ResolvesOnly s (evaluateChannel number place c f s) := by
  unfold evaluateChannel
  split
  · split <;> simp
  · simp

/-- R89: what counting a frame in WRONG_SLOT leaves as it was: all but that counter. -/
theorem countWrongSlot_cases (owner label : Byte) (payload : Nat) (f : Option CyclicFrame) (s : State) :
    countWrongSlot owner label payload f s = s ∨
    countWrongSlot owner label payload f s =
      { s with trunk := { s.trunk with wrongSlot := bump s.trunk.wrongSlot } } := by
  unfold countWrongSlot
  split
  · exact .inr rfl
  · exact .inl rfl

/-- R11, R89: a slot end touches the channels, the notices, and WRONG_SLOT. -/
@[simp] abbrev SlotEndsOnly (s t : State) : Prop :=
  t.trunk = { s.trunk with wrongSlot := t.trunk.wrongSlot } ∧ t.cycle = s.cycle ∧ t.sched = s.sched ∧ t.tx = s.tx ∧
  t.rx = s.rx ∧ t.link = s.link ∧ t.pending = s.pending ∧ NoticeRunKept s t

theorem countWrongSlot_only (owner label : Byte) (payload : Nat) (f : Option CyclicFrame) (s : State) :
    SlotEndsOnly s (countWrongSlot owner label payload f s) ∧
    (countWrongSlot owner label payload f s).channels = s.channels ∧
    (countWrongSlot owner label payload f s).notices = s.notices := by
  obtain h | h := countWrongSlot_cases owner label payload f s <;> simp [h]

theorem channelSlotEnd_only (number : Word) (owner label : Byte) (payload : Nat) (f : Option CyclicFrame) (s : State) :
    SlotEndsOnly s (channelSlotEnd number owner label payload f s) := by
  have counted := (countWrongSlot_only owner label payload f s).1
  unfold channelSlotEnd
  dsimp only
  split
  · simpa using counted
  · exact counted

/-! ### The schedule unit -/

@[simp] theorem makeSwitch_only (epoch : Half) (length : Nat) (entries : List Entry) (number : Word) (mode : SwitchMode)
    (s : State) : SwitchesOnly s (makeSwitch epoch length entries number mode s) := by
  simp [makeSwitch]

@[simp] theorem switchBank_only (number : Word) (s : State) : SwitchesOnly s (switchBank number s) := by
  unfold switchBank
  split
  · split <;> simp
  · split <;> simp
  · simp
  · simp

@[simp] theorem scheduleCycleStart_only (number : Word) (s : State) : SwitchesOnly s (scheduleCycleStart number s) := by
  simp [scheduleCycleStart]

@[simp] theorem armBank_only (epoch : Half) (length : Nat) (entries : List Entry) (cycle : Word) (source : ArmSource)
    (s : State) : SchedulesOnly s (armBank epoch length entries cycle source s) := by
  simp [armBank]

@[simp] theorem withdraw_only (epoch : Half) (length : Nat) (entries : List Entry) (cycle : Word)
    (reason : WithdrawReason) (s : State) : SchedulesOnly s (withdraw epoch length entries cycle reason s) := by
  simp [withdraw]

@[simp] theorem unreadyOnce_only (epoch : Half) (cycle : Word) (own : Option Half) (s : State) :
    SchedulesOnly s (unreadyOnce epoch cycle own s) := by
  unfold unreadyOnce
  split <;> simp

@[simp] theorem disarmUnready_only (epoch : Half) (cycle : Word) (own : Half) (length : Nat) (entries : List Entry)
    (s : State) : SchedulesOnly s (disarmUnready epoch cycle own length entries s) := by
  simp [disarmUnready]

@[simp] theorem announced_only (epoch : Half) (cycle : Word) (s : State) : SchedulesOnly s (announced epoch cycle s) := by
  unfold announced
  split
  · split <;> simp
  · split_ifs <;> simp
  · simp
  · simp

@[simp] theorem notAnnounced_only (s : State) : SchedulesOnly s (notAnnounced s) := by
  unfold notAnnounced
  split <;> simp

@[simp] theorem evaluateAnnouncement_only (f : CycleStartFrame) (s : State) :
    SchedulesOnly s (evaluateAnnouncement f s) := by
  unfold evaluateAnnouncement
  split <;> simp

@[simp] theorem markAdoption_only (f : CycleStartFrame) (s : State) : SchedulesOnly s (markAdoption f s) := by
  unfold markAdoption
  split <;> simp

@[simp] theorem scheduleAccepts_only (f : CycleStartFrame) (s : State) : SchedulesOnly s (scheduleAccepts f s) := by
  simp [scheduleAccepts]

@[simp] theorem scheduleDepart_only (d : Destination) (s : State) : SchedulesOnly s (scheduleDepart d s) := by
  unfold scheduleDepart
  split <;> simp

/-! ### The cycle unit and its cycle starts -/

@[simp] theorem deferOffline_only (s : State) :
    (deferOffline s).cycle = s.cycle ∧ (deferOffline s).sched = s.sched ∧ (deferOffline s).channels = s.channels ∧
    (deferOffline s).tx = s.tx ∧ (deferOffline s).rx = s.rx ∧ (deferOffline s).notices = s.notices ∧
    (deferOffline s).link = s.link ∧ (deferOffline s).pending = s.pending := by
  obtain ⟨h, -⟩ | ⟨-, -, h⟩ := deferOffline_cases s <;> simp [h]

@[simp] theorem leaveCycle_only (d : Destination) (s : State) :
    (leaveCycle d s).trunk = s.trunk ∧ (leaveCycle d s).sched = s.sched ∧ (leaveCycle d s).channels = s.channels ∧
    (leaveCycle d s).tx = s.tx ∧ (leaveCycle d s).rx = s.rx ∧ (leaveCycle d s).notices = s.notices ∧
    (leaveCycle d s).link = s.link ∧ (leaveCycle d s).pending = s.pending ∧
    (leaveCycle d s).cycle = { s.cycle with timing := d.timing, now := none } := by
  simp [leaveCycle]

@[simp] theorem settleCycle_only (d : Destination) (run : Option CandidateRun) (s : State) :
    (settleCycle d run s).trunk = s.trunk ∧ (settleCycle d run s).sched = s.sched ∧
    (settleCycle d run s).channels = s.channels ∧ (settleCycle d run s).tx = s.tx ∧ (settleCycle d run s).rx = s.rx ∧
    (settleCycle d run s).notices = s.notices ∧ (settleCycle d run s).link = s.link ∧
    (settleCycle d run s).pending = s.pending ∧
    (settleCycle d run s).cycle =
      { s.cycle with listenOnly := false, claim := none, conflict := none, run := if d = .hunting then run else none,
                     missCount := if d = .hunting then s.cycle.missCount else 0 } := by
  cases d <;> simp [settleCycle]

/-- R37 step 3: a departure's signal leaves the trunk interface, the cycle unit and the host side as they were. -/
@[simp] theorem signalDeparture_only (d : Destination) (s : State) :
    (signalDeparture d s).trunk = s.trunk ∧ (signalDeparture d s).cycle = s.cycle ∧
    (signalDeparture d s).sched.active = s.sched.active ∧
    (signalDeparture d s).sched.lastSwitch = s.sched.lastSwitch ∧ HostSideKept s (signalDeparture d s) := by
  simp [signalDeparture]

/-- R37: a departure ends the walk, settles the cycle unit and leaves the host side as it was. -/
@[simp] theorem depart_only (d : Destination) (own : List NoticeBody) (run : Option CandidateRun) (s : State) :
    (depart d own run s).trunk = s.trunk.endWalk ∧
    (depart d own run s).cycle =
      { s.cycle with timing := d.timing, now := none, listenOnly := false, claim := none, conflict := none,
                     run := if d = .hunting then run else none,
                     missCount := if d = .hunting then s.cycle.missCount else 0 } ∧
    (depart d own run s).sched.active = s.sched.active ∧
    (depart d own run s).sched.lastSwitch = s.sched.lastSwitch ∧ HostSideKept s (depart d own run s) := by
  simp [depart, endWalk]

@[simp] theorem fixLength_only (s : State) :
    (fixLength s).trunk = s.trunk ∧ (fixLength s).sched = s.sched ∧ (fixLength s).channels = s.channels ∧
    (fixLength s).tx = s.tx ∧ (fixLength s).rx = s.rx ∧ (fixLength s).notices = s.notices ∧
    (fixLength s).link = s.link ∧ (fixLength s).pending = s.pending ∧
    (fixLength s).cycle = { s.cycle with
      now := if s.cycle.timing = .leading then s.cycle.now.map (fun c => { c with length := s.activeLength })
        else s.cycle.now } := by
  unfold fixLength
  split <;> simp [*]

@[simp] theorem advanceQuiet_only (s : State) :
    (advanceQuiet s).trunk = s.trunk ∧ (advanceQuiet s).sched = s.sched ∧ (advanceQuiet s).channels = s.channels ∧
    (advanceQuiet s).tx = s.tx ∧ (advanceQuiet s).rx = s.rx ∧ (advanceQuiet s).notices = s.notices ∧
    (advanceQuiet s).link = s.link ∧ (advanceQuiet s).pending = s.pending ∧
    (advanceQuiet s).cycle = { s.cycle with
      conflict := if s.cycle.timing = .leading then quietAfter s.cycle.conflict else s.cycle.conflict } := by
  unfold advanceQuiet
  split <;> simp [*]

@[simp] theorem takeUpCycle_only (s : State) :
    (takeUpCycle s).cycle = s.cycle ∧ (takeUpCycle s).sched = s.sched ∧ (takeUpCycle s).channels = s.channels ∧
    (takeUpCycle s).tx = s.tx ∧ (takeUpCycle s).rx = s.rx ∧ (takeUpCycle s).notices = s.notices ∧
    (takeUpCycle s).link = s.link ∧ (takeUpCycle s).pending = s.pending ∧
    (takeUpCycle s).trunk = { s.trunk with
      window := windowOpened s, slots := [], ownSlots := [], earlyWalk := [], hearsFrom := none } := by
  simp [takeUpCycle]

@[simp] theorem sendCycleStart_only (s : State) :
    (sendCycleStart s).cycle = s.cycle ∧ (sendCycleStart s).sched = s.sched ∧
    (sendCycleStart s).channels = s.channels ∧ (sendCycleStart s).tx = s.tx ∧ (sendCycleStart s).rx = s.rx ∧
    (sendCycleStart s).notices = s.notices ∧ (sendCycleStart s).link = s.link ∧
    (sendCycleStart s).pending = s.pending := by
  unfold sendCycleStart
  split <;> simp

/-- R23: the length of the cycle in use after the switch of a cycle start, and what else of the cycle unit stays. -/
theorem signalCycleStart_cycle (number : Word) (s : State) :
    (signalCycleStart number s).cycle = { s.cycle with
      now := if s.cycle.timing = .leading then
          s.cycle.now.map (fun c => { c with length := (scheduleCycleStart number s).activeLength })
        else s.cycle.now } := by
  simp [signalCycleStart]

/-- R23: what a cycle start signals to the units leaves the trunk interface and the host side as they were. -/
@[simp] theorem signalCycleStart_only (number : Word) (s : State) :
    (signalCycleStart number s).trunk = s.trunk ∧ (signalCycleStart number s).cycle.timing = s.cycle.timing ∧
    (signalCycleStart number s).cycle.conflict = s.cycle.conflict ∧
    HostSideKept s (signalCycleStart number s) := by
  simp [signalCycleStart]

@[simp] theorem beginCycle_only (c : CycleNow) (s : State) : HostSideKept s (beginCycle c s) := by
  simp [beginCycle]

theorem CycleUnit.with_listenOnly {c : CycleUnit} {b : Bool} (h : c.listenOnly = b) :
    { c with listenOnly := b } = c := by
  rw [← h]

@[simp] theorem evaluateListenOnly_only (f : CycleStartFrame) (s : State) :
    (evaluateListenOnly f s).trunk = s.trunk ∧ (evaluateListenOnly f s).sched.active = s.sched.active ∧
    (evaluateListenOnly f s).sched.staged = s.sched.staged ∧
    (evaluateListenOnly f s).sched.unready = s.sched.unready ∧
    (evaluateListenOnly f s).sched.adoption = s.sched.adoption ∧
    (evaluateListenOnly f s).sched.lastSwitch = s.sched.lastSwitch ∧
    (evaluateListenOnly f s).channels = s.channels ∧ (evaluateListenOnly f s).tx = s.tx ∧
    (evaluateListenOnly f s).rx = s.rx ∧ (evaluateListenOnly f s).link = s.link ∧
    (evaluateListenOnly f s).pending = s.pending ∧
    (evaluateListenOnly f s).cycle = { s.cycle with listenOnly := !scheduleMatches f s } ∧
    NoticeRunKept s (evaluateListenOnly f s) := by
  unfold evaluateListenOnly clearListenOnly
  cases hm : scheduleMatches f s <;> cases hl : s.cycle.listenOnly <;> simp [CycleUnit.with_listenOnly hl]

@[simp] theorem acceptFields_only (f : CycleStartFrame) (s : State) :
    (acceptFields f s).trunk = s.trunk ∧ (acceptFields f s).sched.active = s.sched.active ∧
    (acceptFields f s).sched.lastSwitch = s.sched.lastSwitch ∧ (acceptFields f s).channels = s.channels ∧
    (acceptFields f s).tx = s.tx ∧ (acceptFields f s).rx = s.rx ∧ (acceptFields f s).link = s.link ∧
    (acceptFields f s).pending = s.pending ∧
    (acceptFields f s).cycle = { s.cycle with listenOnly := !scheduleMatches f s } ∧
    NoticeRunKept s (acceptFields f s) := by
  simp [acceptFields]

@[simp] theorem CycleUnit.leads_kept (c : CycleUnit) :
    c.leads.address = c.address ∧ c.leads.role = c.role ∧ c.leads.bareLength = c.bareLength := ⟨rfl, rfl, rfl⟩

@[simp] theorem claimExpires_only (r : ClaimRecord) (s : State) : HostSideKept s (claimExpires r s) := by
  simp [claimExpires, CycleUnit.leads]

@[simp] theorem yieldTo_only (f : CycleStartFrame) (stamp : Word) (s : State) : HostSideKept s (yieldTo f stamp s) := by
  simp [yieldTo]

@[simp] theorem claimFrame_only (f : CycleStartFrame) (stamp : Word) (s : State) :
    HostSideKept s (claimFrame f stamp s) := by
  unfold claimFrame
  split <;> simp

@[simp] theorem conflictFrame_only (f : CycleStartFrame) (s : State) :
    HostSideKept s (conflictFrame f s) ∧ (conflictFrame f s).trunk = s.trunk ∧ (conflictFrame f s).sched = s.sched ∧
    (conflictFrame f s).channels = s.channels ∧ (conflictFrame f s).tx = s.tx ∧ (conflictFrame f s).rx = s.rx ∧
    (conflictFrame f s).cycle = { s.cycle with conflict := some 0 } := by
  simp [conflictFrame]

@[simp] theorem leadFrame_only (f : CycleStartFrame) (stamp : Word) (s : State) :
    HostSideKept s (leadFrame f stamp s) := by
  unfold leadFrame
  split <;> simp

@[simp] theorem lockOn_only (r : CandidateRun) (f : CycleStartFrame) (stamp : Word) (s : State) :
    HostSideKept s (lockOn r f stamp s) := by
  simp [lockOn, CycleUnit.lockedOn]

@[simp] theorem huntFrame_only (f : CycleStartFrame) (stamp : Word) (s : State) :
    HostSideKept s (huntFrame f stamp s) := by
  unfold huntFrame
  split
  · simp
  · split <;> simp

@[simp] theorem jump_only (reason : JumpReason) (f : CycleStartFrame) (stamp : Word) (s : State) :
    HostSideKept s (jump reason f stamp s) := by
  simp [jump]

@[simp] theorem takeOver_only (c : CycleNow) (s : State) :
    HostSideKept s (takeOver c s) ∧ (takeOver c s).trunk = s.trunk ∧ (takeOver c s).sched = s.sched ∧
    (takeOver c s).channels = s.channels ∧ (takeOver c s).tx = s.tx ∧ (takeOver c s).rx = s.rx ∧
    (takeOver c s).cycle = { s.cycle.leads with now := some c } := by
  simp [takeOver, CycleUnit.leads]

@[simp] theorem giveUpCycle_only (c : CycleNow) (s : State) : HostSideKept s (giveUpCycle c s) := by
  unfold giveUpCycle
  split <;> simp

@[simp] theorem missCycleStart_only (c : CycleNow) (s : State) : HostSideKept s (missCycleStart c s) := by
  unfold missCycleStart
  dsimp only
  split <;> simp

@[simp] theorem acceptFrame_only (n : CycleNow) (f : CycleStartFrame) (stamp : Word) (s : State) :
    HostSideKept s (acceptFrame n f stamp s) := by
  simp [acceptFrame, CycleUnit.accepts]

@[simp] theorem windowGood_only (n : CycleNow) (f : CycleStartFrame) (stamp : Word) (s : State) :
    HostSideKept s (windowGood n f stamp s) := by
  unfold windowGood
  split_ifs <;> simp

@[simp] theorem unexpectedFrame_only (f : CycleStartFrame) (stamp : Word) (s : State) :
    HostSideKept s (unexpectedFrame f stamp s) := by
  unfold unexpectedFrame
  split
  · simp
  · split <;> simp

@[simp] theorem windowAbsent_only (c : CycleNow) (s : State) : HostSideKept s (windowAbsent c s) := by
  simp [windowAbsent]

/-! ### The trunk interface -/

/-- What an operation of the trunk interface alone leaves as it was. -/
@[simp] abbrev InterfaceOnly (s t : State) : Prop :=
  t.cycle = s.cycle ∧ t.sched = s.sched ∧ t.channels = s.channels ∧ t.tx = s.tx ∧ t.rx = s.rx ∧
  t.notices = s.notices ∧ t.link = s.link ∧ t.pending = s.pending

@[simp] theorem endFrame_only (s : State) : InterfaceOnly s (endFrame s) := by
  simp [endFrame]

@[simp] theorem endSegment_only (s : State) : InterfaceOnly s (endSegment s) := by
  simp [endSegment]

@[simp] theorem countDisturbed_only (s : State) : InterfaceOnly s (countDisturbed s) := by
  unfold countDisturbed
  split <;> simp

@[simp] theorem noteSlotFrame_only (c : CycleNow) (stamp : Word) (s : State) :
    InterfaceOnly s (noteSlotFrame c stamp s) := by
  unfold noteSlotFrame
  split
  · split <;> simp
  · simp

@[simp] theorem cyclicFrameAt_only (c : CycleNow) (stamp : Word) (f : CyclicFrame) (s : State) :
    InterfaceOnly s (cyclicFrameAt c stamp f s) := by
  unfold cyclicFrameAt
  split
  · simp
  · split
    · simp
    · split <;> simp

@[simp] theorem sendCyclic_only (start : Nat) (f : OwnFrame) (s : State) : InterfaceOnly s (sendCyclic start f s) := by
  simp [sendCyclic]

@[simp] theorem startCyclicSlot_only (start : Nat) (label : Byte) (since : Word) (s : State) :
    InterfaceOnly s (startCyclicSlot start label since s) := by
  unfold startCyclicSlot
  split
  · split <;> simp
  · simp

@[simp] theorem releaseSlot_only (start : Nat) (s : State) : InterfaceOnly s (releaseSlot start s) := by
  obtain ⟨-, h⟩ | ⟨l, -, h⟩ := releaseSlot_cases start s <;> simp [h, releaseHeld]

@[simp] theorem contend_only (g : OwnSegment) (s : State) : InterfaceOnly s (contend g s) := by
  obtain ⟨_, -, h⟩ | ⟨-, h⟩ := contend_cases g s <;> simp [h]

@[simp] theorem yieldSlot_only (g : OwnSegment) (s : State) : InterfaceOnly s (yieldSlot g s) := by
  obtain ⟨_, -, h⟩ | ⟨_, -, h⟩ := yieldSlot_cases g s <;> simp [h]

@[simp] theorem segmentBegun_only (s : State) : InterfaceOnly s s.segmentBegun := by
  obtain h | ⟨_, _, -, -, h⟩ := segmentBegun_cases s <;> simp [h]

@[simp] theorem openWindow_only (start floor : Nat) (way : Contention) (s : State) :
    (openWindow start floor way s).cycle = s.cycle ∧ (openWindow start floor way s).sched = s.sched ∧
    (openWindow start floor way s).channels = s.channels ∧ (openWindow start floor way s).rx = s.rx ∧
    (openWindow start floor way s).notices = s.notices ∧ (openWindow start floor way s).link = s.link ∧
    (openWindow start floor way s).pending = s.pending ∧
    (openWindow start floor way s).tx.idCounter = s.tx.idCounter := by
  have offered (o : OnLine) : (offerFirst o s).notices = s.notices := by unfold offerFirst; split <;> rfl
  obtain ⟨-, h⟩ | ⟨f, o, -, h⟩ := openWindow_cases start floor way s <;> simp [h, offered]

@[simp] theorem segmentOutcome_only (result : SegmentOutcome) (s : State) :
    (segmentOutcome result s).cycle = s.cycle ∧ (segmentOutcome result s).sched = s.sched ∧
    (segmentOutcome result s).channels = s.channels ∧ (segmentOutcome result s).rx = s.rx ∧
    (segmentOutcome result s).link = s.link ∧ (segmentOutcome result s).pending = s.pending ∧
    (segmentOutcome result s).tx.idCounter = s.tx.idCounter ∧ NoticeRunKept s (segmentOutcome result s) := by
  simp [segmentOutcome]

/-! ### Received frames -/

@[simp] theorem segmentFrameAt_only (c : CycleNow) (stamp : Word) (f : SegmentFrame) (s : State) :
    HostSideKept s (segmentFrameAt c stamp f s) ∧ (segmentFrameAt c stamp f s).cycle = s.cycle ∧
    (segmentFrameAt c stamp f s).sched = s.sched ∧ (segmentFrameAt c stamp f s).channels = s.channels ∧
    (segmentFrameAt c stamp f s).tx = s.tx := by
  unfold segmentFrameAt
  split
  · simp
  · split
    · simp
    · split <;> simp

@[simp] theorem windowFrame_only (c : CycleNow) (stamp : Word) (j : Judgement) (s : State) :
    HostSideKept s (windowFrame c stamp j s) := by
  unfold windowFrame
  split <;> simp

@[simp] theorem cycleFrame_only (c : CycleNow) (stamp : Word) (j : Judgement) (s : State) :
    HostSideKept s (cycleFrame c stamp j s) := by
  unfold cycleFrame
  split <;> simp

@[simp] theorem lateFrame_only (l : LateSlot) (stamp : Word) (j : Judgement) (s : State) :
    HostSideKept s (lateFrame l stamp j s) := by
  unfold lateFrame
  split <;> simp

@[simp] theorem placelessFrame_only (stamp : Word) (j : Judgement) (s : State) :
    HostSideKept s (placelessFrame stamp j s) := by
  unfold placelessFrame
  split <;> simp

@[simp] theorem placedFrame_only (c : CycleNow) (stamp : Word) (j : Judgement) (s : State) :
    HostSideKept s (placedFrame c stamp j s) := by
  unfold placedFrame
  split
  · simp
  · split <;> simp

@[simp] theorem handFrame_only (stamp : Word) (j : Judgement) (s : State) : HostSideKept s (handFrame stamp j s) := by
  unfold handFrame
  split
  · simp
  · simp
  · simp
  all_goals split <;> simp

end Sys2Proof.Machine
end

section
/-! PROOFS. What a command can do, said once: the handler of each request, and one constructor of `Effect` for each kind
of event. Every invariant and every frame of the whole part is a case analysis on `Effect`. Settles O1, O2, O3, O14. -/

namespace Sys2Proof.Machine

set_option Elab.async false

/-! ### The handlers of the requests -/

/-- 10.3: what the owning block does with each request. -/
def requestHandler : Instr → Option Handler
  | .identify => some identifyRequest
  | .setNode => some setNodeRequest
  | .setCycle => some setCycleRequest
  | .goOnline => some goOnlineRequest
  | .goOffline => some goOfflineRequest
  | .resetNode => some resetNodeRequest
  | .readSync => some readSyncRequest
  | .stageBegin => some stageBeginRequest
  | .stageAdd => some stageAddRequest
  | .stageRemove => some stageRemoveRequest
  | .stageClose => some stageCloseRequest
  | .stageDiscard => some stageDiscardRequest
  | .readSchedule => some readScheduleRequest
  | .commit => some commitRequest
  | .cancel => some cancelRequest
  | .bindChannel => some bindRequest
  | .unbindChannel => some unbindRequest
  | .writeChannel => some writeRequest
  | .readChannel => some readRequest
  | .readChannels => some readManyRequest
  | .sendMessage => some sendRequest
  | .messagePiece => some pieceRequest
  | .abortMessage => some abortRequest
  | .readOutbound => some readOutboundRequest
  | .setGroups => some setGroupsRequest
  | .readMessage => some readMessageRequest
  | .releaseMessage => some releaseRequest
  | .readInbound => some readInboundRequest
  | .noticeMask => some noticeMaskRequest
  | .ackNotices => some ackRequest
  | .readCounts => some readCountsRequest
  | _ => none

/-- R162: a request is taken by the interpreter for its handler. -/
theorem exec_request {c : Instr} {code : Byte} (hc : requestCode c = some code) :
    ∃ run, requestHandler c = some run ∧ ∀ s, exec c s = takeRequest code run s := by
  cases c <;> cases hc <;> exact ⟨_, rfl, fun _ => rfl⟩

/-! ### The effects -/

/-- What a command does when it acts: the state it leaves, ATTN not yet set anew. -/
inductive Effect (s : State) : Instr → State → Prop
  | handled {c : Instr} {code : Byte} {run : Handler} {q : Request} (request : requestCode c = some code)
      (handler : requestHandler c = some run) (oldest : oldestAccepted s.link.buffer = some q) (named : q.code = code)
      (allowed : (bodyShape code).any (fun shape => shape.allows q.body) = true) :
      Effect s c ((run q.body s).2.answer (run q.body s).1)
  | wrongLength {c : Instr} {code : Byte} {q : Request} (request : requestCode c = some code)
      (oldest : oldestAccepted s.link.buffer = some q) (named : q.code = code) :
      Effect s c (s.answer (badLength q.body))
  | unknownCode {q : Request} (oldest : oldestAccepted s.link.buffer = some q) (unnamed : bodyShape q.code = none) :
      Effect s .badRequest (s.answer (.refuse .badRequest [q.code]))
  | bytesReceived (bytes : List Byte) :
      Effect s (.hostFrameReceived bytes) (bytes.foldl receiveByte (inTransaction s))
  | broke (uart : s.link.spi = false) (high : s.link.breakLow = false) :
      Effect s .lineBreak ((linkReset s).withLink { (linkReset s).link with breakLow := true })
  | breakEnded (low : s.link.breakLow = true) :
      Effect s .breakEnd (s.withLink { s.link with breakLow := false })
  | cutShort {c : Instr} (cut : c = .framingFault ∨ c = .gap) (uart : s.link.spi = false) : Effect s c (giveUpInbound s)
  | selNegated (spi : s.link.spi = true) : Effect s .selNegated (dropSel (holdOutbound (giveUpInbound s)))
  | selected (idle : s.link.outbound = none) : Effect s .outboundSelect (selectFrame (inTransaction s))
  | replySent {tag : Byte} (sent : s.link.outbound.bind OutFrame.replyTag = some tag) :
      Effect s .replySent (removeEntry tag s)
  | noticeSent {n : Notice} {bytes : List Byte} (sent : s.link.outbound = some { what := .notice n, bytes := bytes }) :
      Effect s .noticeFrameSent (s.withLink { s.link with outbound := none })
  | poweredOn (mode rate1 rate0 : Bool) : Effect s (.powerOnReset mode rate1 rate0)
      { State.powerOn { mode := mode, rate1 := rate1, rate0 := rate0 } with pending := s.pending }
  | claimed {r : ClaimRecord} (claiming : s.cycle.timing = .claiming) (claim : s.cycle.claim = some r) :
      Effect s .claimWindowExpires (claimExpires r s)
  | cycleBegun {c : Instr} {now : CycleNow} (begins : c ∈ cycleStartCommands) (current : s.current = some now) :
      Effect s c (beginCycle now.following (keepLate now s))
  | frameHeard {c : Instr} {stamp : Word} {bytes : List Byte}
      (received : c = .trunkFrameReceived stamp bytes ∨ c = .syncLocked stamp bytes)
      (audible : unheard s stamp bytes = false) :
      Effect s c (handFrame stamp (judge bytes) (heard (s.atInstant (readInstant stamp bytes))))
  | windowClosed {c : Instr} {now : CycleNow} (closes : c ∈ [Instr.cycleStartWindowCloses, .syncLost, .takeover])
      (pending : s.pendingWindow = some now) : Effect s c (windowAbsent now s)
  | slotStarted {now : CycleNow} {e : Entry} {n payload : Nat} {label : Byte} (current : s.current = some now)
      (entry : walkedEntry s now e.start = some e) (slot : e.slot = .cyclic n s.cycle.address label payload) :
      Effect s (.cyclicSlotStart e.start)
        (startCyclicSlot e.start label (now.at e.start) (s.atInstant (now.at e.start)))
  | slotEnded {c : Instr} {start : Nat} {now : CycleNow} {e : SlotEnd}
      (ends : c = .cyclicSlotEnd start ∨ c = .channelLost start) (current : s.current = some now)
      (due : slotEndDue now start s = some e) :
      Effect s c (handSlotEnd now.number e (releaseSlot start (s.atInstant e.instant)))
  | windowOpened {now : CycleNow} {e : Entry} {floor : Nat} (line : OpenLine) (current : s.current = some now)
      (entry : walkedEntry s now e.start = some e) (slot : e.slot = .openSlot floor) (idle : s.trunk.segment = none) :
      Effect s (.openSlotWindowOpens { start := e.start, line := line })
        ((openWindow e.start floor (wayToContend line (now.at e.start)) s).atInstant (now.at e.start - 4))
  | segmentWon {ends : Word} (sent : s.trunk.segment.bind OwnSegment.ends = some ends) :
      Effect s .segmentWon (segmentOutcome .won (s.atInstant ends))
  | segmentLost {g : OwnSegment} (given : s.trunk.segment = some g) :
      Effect s .segmentLost (segmentOutcome .lost (yieldSlot g s.segmentBegun))
  | segmentDisturbed {c : Instr} {g : OwnSegment} (disturbs : c = .segmentDisturbed ∨ c = .messageTrunkFault)
      (given : s.trunk.segment = some g) (sent : g.firstBit.isSome = true) :
      Effect s c (segmentOutcome .disturbed (countDisturbed s.segmentBegun))
  | ownFrameMismatch {f : OwnFrame} (sending : s.trunk.sending = some f) :
      Effect s .ownFrameMismatch (endFrame (countDisturbed s))
  | ownFrameSent {f : OwnFrame} (sending : s.trunk.sending = some f) :
      Effect s .ownFrameSent (endFrame (s.atInstant f.ends))

/-- A command leaves the state as it is, or it has its effect and ATTN is set anew. -/
def Acts (c : Instr) (s : State) : Prop :=
  exec c s = .next s ∨ ∃ u, Effect s c u ∧ exec c s = .next u.setAttn

theorem acts_of_takeRequest {c : Instr} {code : Byte} (request : requestCode c = some code) (s : State) : Acts c s := by
  obtain ⟨run, handler, runs⟩ := exec_request request
  unfold Acts
  rw [runs]
  obtain h | ⟨q, oldest, named, h⟩ | ⟨q, oldest, named, allowed, h⟩ := takeRequest_cases code run s
  · exact .inl h
  · exact .inr ⟨_, .wrongLength request oldest named, h⟩
  · exact .inr ⟨_, .handled request handler oldest named allowed, h⟩

theorem nextCycle_acts {c : Instr} (begins : c ∈ cycleStartCommands) (s : State) :
    nextCycle s = .next s ∨ ∃ u, Effect s c u ∧ nextCycle s = .next u.setAttn := by
  unfold nextCycle
  split
  · next now current => exact .inr ⟨_, .cycleBegun begins current, rfl⟩
  · exact .inl rfl

theorem closeWindow_acts {c : Instr} (closes : c ∈ [Instr.cycleStartWindowCloses, .syncLost, .takeover]) (s : State) :
    closeWindow s = .next s ∨ ∃ u, Effect s c u ∧ closeWindow s = .next u.setAttn := by
  unfold closeWindow
  split
  · next now pending => exact .inr ⟨_, .windowClosed closes pending, rfl⟩
  · exact .inl rfl

theorem receiveFrame_acts {c : Instr} {stamp : Word} {bytes : List Byte}
    (received : c = .trunkFrameReceived stamp bytes ∨ c = .syncLocked stamp bytes) (s : State) :
    receiveFrame stamp bytes s = .next s ∨ ∃ u, Effect s c u ∧ receiveFrame stamp bytes s = .next u.setAttn := by
  obtain ⟨-, h⟩ | ⟨audible, h⟩ := receiveFrame_cases stamp bytes s
  · exact .inl h
  · exact .inr ⟨_, .frameHeard received audible, h⟩

theorem cyclicSlotEnds_acts {c : Instr} {start : Nat} (ends : c = .cyclicSlotEnd start ∨ c = .channelLost start)
    (s : State) :
    cyclicSlotEnds start s = .next s ∨ ∃ u, Effect s c u ∧ cyclicSlotEnds start s = .next u.setAttn := by
  unfold cyclicSlotEnds
  split
  · exact .inl rfl
  · next now current =>
    split
    · next e due => exact .inr ⟨_, .slotEnded ends current due, rfl⟩
    · exact .inl rfl

theorem segmentDisturbs_acts {c : Instr} (disturbs : c = .segmentDisturbed ∨ c = .messageTrunkFault) (s : State) :
    segmentDisturbs s = .next s ∨ ∃ u, Effect s c u ∧ segmentDisturbs s = .next u.setAttn := by
  unfold segmentDisturbs
  split
  · next h =>
    obtain ⟨g, given, sent⟩ := Option.any_eq_true _ _ |>.1 h
    exact .inr ⟨_, .segmentDisturbed disturbs given sent, rfl⟩
  · exact .inl rfl

/-- A row that names what comes about inside another event is that event, or leaves the state as it is (log entry 4). -/
theorem acts_if {c : Instr} {s : State} {p : Prop} [Decidable p] {r : Result}
    (inner : r = .next s ∨ ∃ u, Effect s c u ∧ r = .next u.setAttn) :
    (if p then r else noEvent s) = .next s ∨ ∃ u, Effect s c u ∧ (if p then r else noEvent s) = .next u.setAttn := by
  split
  · exact inner
  · exact .inl rfl

theorem acts_badRequest (s : State) : Acts .badRequest s := by
  show execBadRequest s = _ ∨ ∃ u, _ ∧ execBadRequest s = _
  unfold execBadRequest
  split
  · exact .inl rfl
  · next q oldest =>
    split
    · exact .inl rfl
    · next unnamed => exact .inr ⟨_, .unknownCode oldest (by simpa using unnamed), rfl⟩

theorem acts_lineBreak (s : State) : Acts .lineBreak s := by
  show execBreak s = _ ∨ ∃ u, _ ∧ execBreak s = _
  unfold execBreak
  split
  · exact .inl rfl
  · next h =>
    simp only [Bool.or_eq_true, not_or, Bool.not_eq_true] at h
    exact .inr ⟨_, .broke h.1 h.2, rfl⟩

theorem acts_breakEnd (s : State) : Acts .breakEnd s := by
  show execBreakEnd s = _ ∨ ∃ u, _ ∧ execBreakEnd s = _
  unfold execBreakEnd
  split
  · next low => exact .inr ⟨_, .breakEnded low, rfl⟩
  · exact .inl rfl

theorem acts_cutShort {c : Instr} (cut : c = .framingFault ∨ c = .gap) (s : State) : Acts c s := by
  have h : exec c s = if s.link.spi then noEvent s else finish (giveUpInbound s) := by
    obtain rfl | rfl := cut <;> rfl
  unfold Acts
  rw [h]
  split
  · exact .inl rfl
  · next uart => exact .inr ⟨_, .cutShort cut (by simpa using uart), rfl⟩

theorem acts_selNegated (s : State) : Acts .selNegated s := by
  show execSelNegated s = _ ∨ ∃ u, _ ∧ execSelNegated s = _
  unfold execSelNegated
  split
  · next spi => exact .inr ⟨_, .selNegated spi, rfl⟩
  · exact .inl rfl

theorem acts_outboundSelect (s : State) : Acts .outboundSelect s := by
  show execOutboundSelect s = _ ∨ ∃ u, _ ∧ execOutboundSelect s = _
  unfold execOutboundSelect
  split
  · exact .inl rfl
  · next idle => exact .inr ⟨_, .selected (by simpa using idle), rfl⟩

theorem acts_replySent (s : State) : Acts .replySent s := by
  show execReplySent s = _ ∨ ∃ u, _ ∧ execReplySent s = _
  unfold execReplySent
  split
  · next tag sent => exact .inr ⟨_, .replySent sent, rfl⟩
  · exact .inl rfl

theorem acts_noticeFrameSent (s : State) : Acts .noticeFrameSent s := by
  show execNoticeFrameSent s = _ ∨ ∃ u, _ ∧ execNoticeFrameSent s = _
  unfold execNoticeFrameSent
  split
  · next n bytes sent => exact .inr ⟨_, .noticeSent sent, rfl⟩
  · exact .inl rfl
  · exact .inl rfl

theorem acts_claimWindowExpires (s : State) : Acts .claimWindowExpires s := by
  show execClaimWindowExpires s = _ ∨ ∃ u, _ ∧ execClaimWindowExpires s = _
  unfold execClaimWindowExpires
  split
  · next r claiming claim => exact .inr ⟨_, .claimed claiming claim, rfl⟩
  · exact .inl rfl

theorem acts_cyclicSlotStart (start : Nat) (s : State) : Acts (.cyclicSlotStart start) s := by
  show execCyclicSlotStart start s = _ ∨ ∃ u, _ ∧ execCyclicSlotStart start s = _
  unfold execCyclicSlotStart
  split
  · exact .inl rfl
  · next now current =>
    split
    · next e n owner label payload found =>
      obtain ⟨-, rfl, -⟩ := walkedEntry_some found
      split
      · next own => exact .inr ⟨_, .slotStarted (e := ⟨_, _⟩) current found (by rw [own]), rfl⟩
      · exact .inl rfl
    · exact .inl rfl
    · exact .inl rfl

theorem acts_openSlotWindowOpens (slot : OpenSlotWindow) (s : State) : Acts (.openSlotWindowOpens slot) s := by
  obtain ⟨start, line⟩ := slot
  show execOpenSlotWindowOpens _ s = _ ∨ ∃ u, _ ∧ execOpenSlotWindowOpens _ s = _
  unfold execOpenSlotWindowOpens
  split
  · exact .inl rfl
  · next now current =>
    split
    · next e floor found =>
      obtain ⟨-, rfl, -⟩ := walkedEntry_some found
      split
      · exact .inl rfl
      · next idle =>
        exact .inr ⟨_, .windowOpened (e := ⟨_, _⟩) line current found rfl (by simpa [State.sendingSegment] using idle), rfl⟩
    · exact .inl rfl
    · exact .inl rfl

theorem acts_segmentWon (s : State) : Acts .segmentWon s := by
  show execSegmentWon s = _ ∨ ∃ u, _ ∧ execSegmentWon s = _
  unfold execSegmentWon
  split
  · next ends sent => exact .inr ⟨_, .segmentWon sent, rfl⟩
  · exact .inl rfl

theorem acts_segmentLost (s : State) : Acts .segmentLost s := by
  show execSegmentLost s = _ ∨ ∃ u, _ ∧ execSegmentLost s = _
  unfold execSegmentLost
  split
  · next g given => exact .inr ⟨_, .segmentLost given, rfl⟩
  · exact .inl rfl

theorem acts_ownFrameMismatch (s : State) : Acts .ownFrameMismatch s := by
  show execOwnFrameMismatch s = _ ∨ ∃ u, _ ∧ execOwnFrameMismatch s = _
  unfold execOwnFrameMismatch
  split
  · next f sending => exact .inr ⟨_, .ownFrameMismatch sending, rfl⟩
  · exact .inl rfl

theorem acts_ownFrameSent (s : State) : Acts .ownFrameSent s := by
  show execOwnFrameSent s = _ ∨ ∃ u, _ ∧ execOwnFrameSent s = _
  unfold execOwnFrameSent
  split
  · next f sending => exact .inr ⟨_, .ownFrameSent sending, rfl⟩
  · exact .inl rfl

/-- The inversion of `exec`: every command leaves the state as it is or has its effect. -/
theorem exec_acts (c : Instr) (s : State) : Acts c s := by
  cases c with
  | badRequest => exact acts_badRequest s
  | hostFrameReceived bytes => exact .inr ⟨_, .bytesReceived bytes, rfl⟩
  | lineBreak => exact acts_lineBreak s
  | framingFault => exact acts_cutShort (.inl rfl) s
  | gap => exact acts_cutShort (.inr rfl) s
  | selNegated => exact acts_selNegated s
  | outboundSelect => exact acts_outboundSelect s
  | replySent => exact acts_replySent s
  | powerOnReset mode rate1 rate0 => exact .inr ⟨_, .poweredOn mode rate1 rate0, rfl⟩
  | claimWindowExpires => exact acts_claimWindowExpires s
  | cycleStart => exact nextCycle_acts (by decide) s
  | conflictEpisodeEnd => exact acts_if (nextCycle_acts (by decide) s)
  | messageStarved => exact acts_if (nextCycle_acts (by decide) s)
  | messageContention => exact acts_if (nextCycle_acts (by decide) s)
  | abortAttemptsExhausted => exact acts_if (nextCycle_acts (by decide) s)
  | contextTimeout => exact acts_if (nextCycle_acts (by decide) s)
  | completionRecordLapse => exact acts_if (nextCycle_acts (by decide) s)
  | trunkFrameReceived stamp bytes => exact receiveFrame_acts (.inl rfl) s
  | cycleStartWindowCloses => exact closeWindow_acts (by decide) s
  | syncLost => exact acts_if (closeWindow_acts (by decide) s)
  | takeover => exact acts_if (closeWindow_acts (by decide) s)
  | syncLocked stamp bytes => exact acts_if (receiveFrame_acts (.inr rfl) s)
  | cyclicSlotStart start => exact acts_cyclicSlotStart start s
  | cyclicSlotEnd start => exact cyclicSlotEnds_acts (.inl rfl) s
  | channelLost start => exact acts_if (cyclicSlotEnds_acts (.inr rfl) s)
  | openSlotWindowOpens slot => exact acts_openSlotWindowOpens slot s
  | segmentWon => exact acts_segmentWon s
  | segmentLost => exact acts_segmentLost s
  | segmentDisturbed => exact segmentDisturbs_acts (.inl rfl) s
  | messageTrunkFault => exact acts_if (segmentDisturbs_acts (.inr rfl) s)
  | ownFrameMismatch => exact acts_ownFrameMismatch s
  | ownFrameSent => exact acts_ownFrameSent s
  | noticeFrameSent => exact acts_noticeFrameSent s
  | breakEnd => exact acts_breakEnd s
  | _ => exact acts_of_takeRequest rfl s

/-- What a command has done to a state that it has left. -/
theorem effect_of_exec {c : Instr} {s t : State} (h : exec c s = .next t) : t = s ∨ ∃ u, Effect s c u ∧ t = u.setAttn := by
  obtain idle | ⟨u, effect, acted⟩ := exec_acts c s
  · exact .inl (Host.Outcome.next.inj (h.symm.trans idle))
  · exact .inr ⟨u, effect, Host.Outcome.next.inj (h.symm.trans acted)⟩

/-- An invariant of the state, whatever waits in the queue, holds after a step when a byte time and every effect keep
it. -/
theorem step_keeps {P : State → Prop} (dequeue : ∀ s q, P s → P { s with pending := q }) (tick : ∀ s, P s → P s.tick)
    (effect : ∀ c s u, P s → Effect s c u → P u.setAttn) {s t : State} (hs : P s) (h : step s = .next t) : P t := by
  unfold step at h
  split at h
  · cases h
    exact tick s hs
  · next c rest _ =>
    obtain rfl | ⟨u, he, rfl⟩ := effect_of_exec h
    · exact dequeue s rest hs
    · exact effect c _ u (dequeue s rest hs) he

/-! ### The handlers, one by one -/

section
variable (body : List Byte) (s : State)

/-- What every handler but RESET_NODE's leaves as it was: the host link and the queue of commands. -/
@[simp] abbrev LinkKept (s t : State) : Prop := t.link = s.link ∧ t.pending = s.pending

@[simp] theorem identifyRequest_keeps : (identifyRequest body s).2 = s := rfl
@[simp] theorem readSyncRequest_keeps : (readSyncRequest body s).2 = s := rfl
@[simp] theorem readOutboundRequest_keeps : (readOutboundRequest body s).2 = s := rfl
@[simp] theorem readInboundRequest_keeps : (readInboundRequest body s).2 = s := rfl

@[simp] theorem readScheduleRequest_keeps : (readScheduleRequest body s).2 = s := by
  unfold readScheduleRequest
  dsimp only
  split_ifs <;> rfl

@[simp] theorem readRequest_keeps : (readRequest body s).2 = s := by
  unfold readRequest
  split <;> rfl

@[simp] theorem readManyRequest_keeps : (readManyRequest body s).2 = s := by
  unfold readManyRequest
  dsimp only
  split
  · rfl
  · split
    · rfl
    · split <;> rfl

@[simp] theorem readMessageRequest_keeps : (readMessageRequest body s).2 = s := by
  unfold readMessageRequest
  dsimp only
  split
  · rfl
  · split_ifs <;> rfl

/-- What the requests of the cycle unit leave as it was. -/
@[simp] abbrev CyclesOnly (s t : State) : Prop :=
  t.trunk = s.trunk ∧ t.sched = s.sched ∧ t.channels = s.channels ∧ t.tx = s.tx ∧ t.rx = s.rx ∧
  t.notices = s.notices ∧ t.link = s.link ∧ t.pending = s.pending

@[simp] theorem setNodeRequest_only : CyclesOnly s (setNodeRequest body s).2 := by
  unfold setNodeRequest
  split
  · simp
  · split
    · simp
    · split <;> simp

@[simp] theorem setCycleRequest_only : CyclesOnly s (setCycleRequest body s).2 := by
  unfold setCycleRequest
  split <;> simp

theorem goOnlineRequest_only :
    (goOnlineRequest body s).2.trunk = { s.trunk with hearsFrom := (goOnlineRequest body s).2.trunk.hearsFrom } ∧
    (goOnlineRequest body s).2.sched = s.sched ∧ (goOnlineRequest body s).2.channels = s.channels ∧
    (goOnlineRequest body s).2.tx = s.tx ∧ (goOnlineRequest body s).2.rx = s.rx ∧
    (goOnlineRequest body s).2.notices = s.notices ∧ (goOnlineRequest body s).2.link = s.link ∧
    (goOnlineRequest body s).2.pending = s.pending := by
  unfold goOnlineRequest
  split <;> simp [hearFromNow]

@[simp] theorem goOfflineRequest_only :
    (goOfflineRequest body s).2.sched.active = s.sched.active ∧
    (goOfflineRequest body s).2.sched.lastSwitch = s.sched.lastSwitch ∧
    HostSideKept s (goOfflineRequest body s).2 := by
  unfold goOfflineRequest
  dsimp only
  split <;> simp

@[simp] theorem resetNodeRequest_only : LinkKept s (resetNodeRequest body s).2 := by
  simp [resetNodeRequest, nodeReset]

/-- What the requests that build a bank leave as it was. -/
@[simp] abbrev StagesOnly (s t : State) : Prop :=
  t.trunk = s.trunk ∧ t.cycle = s.cycle ∧
  t.sched = { s.sched with staged := t.sched.staged, adoption := t.sched.adoption } ∧
  t.channels = s.channels ∧ t.tx = s.tx ∧ t.rx = s.rx ∧ t.notices = s.notices ∧ t.link = s.link ∧ t.pending = s.pending

theorem stageBeginRequest_only : StagesOnly s (stageBeginRequest body s).2 := by
  unfold stageBeginRequest
  split
  · simp
  all_goals split <;> simp

theorem stageAddRequest_only : StagesOnly s (stageAddRequest body s).2 := by
  unfold stageAddRequest
  split
  · dsimp only
    split
    · simp
    · split
      · simp
      · split <;> simp [State.withStaged]
  · simp

theorem stageRemoveRequest_only : StagesOnly s (stageRemoveRequest body s).2 := by
  unfold stageRemoveRequest
  split
  · split <;> simp [State.withStaged]
  · simp

theorem stageCloseRequest_only : StagesOnly s (stageCloseRequest body s).2 := by
  unfold stageCloseRequest
  split
  · split
    · simp
    · split <;> simp [State.withStaged]
  · simp

theorem stageDiscardRequest_only : StagesOnly s (stageDiscardRequest body s).2 := by
  unfold stageDiscardRequest
  split <;> simp

/-- What COMMIT and CANCEL leave as it was. -/
@[simp] abbrev ActivatesOnly (s t : State) : Prop :=
  SchedulesOnly s t ∧ t.sched.takeUp = s.sched.takeUp

@[simp] theorem commitRequest_only : ActivatesOnly s (commitRequest body s).2 := by
  unfold commitRequest
  split
  · simp
  · split
    · split <;> simp [armBank]
    all_goals simp

@[simp] theorem cancelRequest_only : ActivatesOnly s (cancelRequest body s).2 := by
  unfold cancelRequest
  split
  · simp
  · split <;> simp [withdraw]

/-- What the requests that change channel records leave as it was. -/
@[simp] abbrev BindsOnly (s t : State) : Prop :=
  t.trunk = s.trunk ∧ t.cycle = s.cycle ∧ t.sched = s.sched ∧ t.tx = s.tx ∧ t.rx = s.rx ∧ t.notices = s.notices ∧
  t.link = s.link ∧ t.pending = s.pending

@[simp] theorem bindRequest_only : BindsOnly s (bindRequest body s).2 := by
  unfold bindRequest
  split
  · simp
  · simp
  · split
    · simp
    · split <;> simp

@[simp] theorem unbindRequest_only : BindsOnly s (unbindRequest body s).2 := by
  unfold unbindRequest
  split <;> simp

@[simp] theorem writeRequest_only : BindsOnly s (writeRequest body s).2 := by
  unfold writeRequest
  split
  · simp
  · simp
  · split
    · simp
    · split <;> simp

/-- What the requests of the transmit message unit leave as it was. -/
@[simp] abbrev SubmitsOnly (s t : State) : Prop :=
  t.trunk = s.trunk ∧ t.cycle = s.cycle ∧ t.sched = s.sched ∧ t.channels = s.channels ∧ t.rx = s.rx ∧ t.link = s.link ∧
  t.pending = s.pending ∧ NoticeRunKept s t ∧ t.tx.onLine = s.tx.onLine

@[simp] theorem sendRequest_only : SubmitsOnly s (sendRequest body s).2 := by
  unfold sendRequest
  dsimp only
  split_ifs <;> simp [refuseNoRoom, acceptMessage]

@[simp] theorem pieceRequest_only : SubmitsOnly s (pieceRequest body s).2 := by
  unfold pieceRequest
  dsimp only
  split
  · simp
  · split_ifs <;> simp [refuseNoRoom, appendPiece]

@[simp] theorem enterAborting_onLine (m : Message) (r : InFlight) (rest : List Message) (reason : FailReason) (s : State) :
    (enterAborting m r rest reason s).tx.onLine = s.tx.onLine := by
  unfold enterAborting
  split
  · exact (failFirst_tx m rest reason false s).2.2.1
  · simp

@[simp] theorem abortRequest_only : SubmitsOnly s (abortRequest body s).2 := by
  unfold abortRequest
  split
  · simp
  · split
    · simp [removeWaiting]
    · unfold abortInFlight
      split <;> simp
    · simp

/-- What the requests of the receive message unit that act leave as it was. -/
@[simp] abbrev TakesOnly (s t : State) : Prop :=
  t.trunk = s.trunk ∧ t.cycle = s.cycle ∧ t.sched = s.sched ∧ t.channels = s.channels ∧ t.tx = s.tx ∧
  t.notices = s.notices ∧ t.link = s.link ∧ t.pending = s.pending ∧ t.rx.places = s.rx.places ∧
  t.rx.handleCounter = s.rx.handleCounter ∧ t.rx.records = s.rx.records ∧ t.rx.orphan = s.rx.orphan ∧
  t.rx.duplicate = s.rx.duplicate

@[simp] theorem setGroupsRequest_only :
    TakesOnly s (setGroupsRequest body s).2 ∧ (setGroupsRequest body s).2.rx.queue = s.rx.queue ∧
    (setGroupsRequest body s).2.rx.free = s.rx.free := by
  unfold setGroupsRequest
  split
  · simp
  · split <;> simp

@[simp] theorem releaseRequest_only :
    TakesOnly s (releaseRequest body s).2 ∧ (releaseRequest body s).2.rx.groups = s.rx.groups := by
  unfold releaseRequest
  split <;> simp

/-- What the requests of the notice unit leave as it was. -/
@[simp] abbrev NotifiesOnly (s t : State) : Prop :=
  t.trunk = s.trunk ∧ t.cycle = s.cycle ∧ t.sched = s.sched ∧ t.channels = s.channels ∧ t.tx = s.tx ∧ t.rx = s.rx ∧
  t.link = s.link ∧ t.pending = s.pending

@[simp] theorem noticeMaskRequest_only :
    NotifiesOnly s (noticeMaskRequest body s).2 ∧
    (noticeMaskRequest body s).2.notices.queue = s.notices.queue ∧
    (noticeMaskRequest body s).2.notices.delivered = s.notices.delivered ∧
    (noticeMaskRequest body s).2.notices.nextSeq = s.notices.nextSeq ∧
    (noticeMaskRequest body s).2.notices.lost = s.notices.lost := by
  unfold noticeMaskRequest
  split
  · simp
  · split <;> simp

@[simp] theorem reportLost_only : NotifiesOnly s (reportLost s) ∧ NoticeRunKept s (reportLost s) := by
  unfold reportLost
  split <;> simp

@[simp] theorem ackRequest_only :
    NotifiesOnly s (ackRequest body s).2 ∧ (ackRequest body s).2.notices.disabled = s.notices.disabled := by
  unfold ackRequest
  split <;> simp

@[simp] theorem readCountsRequest_only :
    (readCountsRequest body s).2.cycle = s.cycle ∧ (readCountsRequest body s).2.sched = s.sched ∧
    (readCountsRequest body s).2.channels = s.channels ∧ (readCountsRequest body s).2.tx = s.tx ∧
    (readCountsRequest body s).2.notices = s.notices ∧ (readCountsRequest body s).2.link = s.link ∧
    (readCountsRequest body s).2.pending = s.pending := by
  unfold readCountsRequest
  split_ifs <;> simp [clearCounters]

/-- R18: what READ_COUNTS leaves of the two units whose counters it clears. -/
theorem readCountsRequest_cases :
    (readCountsRequest body s).2 = s ∨ (readCountsRequest body s).2 = clearCounters s := by
  unfold readCountsRequest
  split_ifs <;> simp

end

/-! ### The events of the host link -/

/-- What the events of the host link leave as it was. -/
@[simp] abbrev LinksOnly (s t : State) : Prop :=
  t.trunk = s.trunk ∧ t.cycle = s.cycle ∧ t.sched = s.sched ∧ t.channels = s.channels ∧ t.tx = s.tx ∧ t.rx = s.rx ∧
  t.pending = s.pending ∧ t.link.straps = s.link.straps ∧ t.notices.disabled = s.notices.disabled

@[simp] theorem linkError_only (reason : LinkReason) (tag : Option Byte) (s : State) :
    LinksOnly s (linkError reason tag s) ∧ (linkError reason tag s).link = s.link := by
  simp [linkError]

@[simp] theorem discardInbound_only (s : State) : LinksOnly s (discardInbound s) := by
  unfold discardInbound
  split <;> simp

@[simp] theorem linkReset_only (s : State) : LinksOnly s (linkReset s) := by
  simp [linkReset]

@[simp] theorem considerRequest_only (tag code : Byte) (body : List Byte) (s : State) :
    LinksOnly s (considerRequest tag code body s) := by
  unfold considerRequest
  split_ifs <;> simp [acceptRequest]

@[simp] theorem judgeHostFrame_only (frame : List Byte) (s : State) : LinksOnly s (judgeHostFrame frame s) := by
  unfold judgeHostFrame
  split_ifs <;> simp

@[simp] theorem inboundByte_only (frame : List Byte) (s : State) : LinksOnly s (inboundByte frame s) := by
  unfold inboundByte
  split_ifs <;> simp [holdInbound]

@[simp] theorem receiveByte_only (b : Byte) (s : State) : LinksOnly s (receiveByte s b) := by
  unfold receiveByte
  split_ifs <;> simp

@[simp] theorem inTransaction_only (s : State) :
    LinksOnly s (inTransaction s) ∧ (inTransaction s).notices = s.notices := by
  simp [inTransaction]

@[simp] theorem foldl_receiveByte_only (bytes : List Byte) (s : State) : LinksOnly s (bytes.foldl receiveByte s) := by
  induction bytes generalizing s with
  | nil => simp
  | cons b rest ih => simpa using ih (receiveByte s b)

@[simp] theorem giveUpInbound_only (s : State) : LinksOnly s (giveUpInbound s) := by
  unfold giveUpInbound
  split <;> simp

@[simp] theorem holdOutbound_only (s : State) :
    LinksOnly s (holdOutbound s) ∧ (holdOutbound s).notices = s.notices := by
  unfold holdOutbound
  split <;> simp

@[simp] theorem selectFrame_only (s : State) : LinksOnly s (selectFrame s) := by
  unfold selectFrame
  split <;> simp [beginOutbound]

@[simp] theorem removeEntry_only (tag : Byte) (s : State) :
    LinksOnly s (removeEntry tag s) ∧ (removeEntry tag s).notices = s.notices := by
  simp [removeEntry]

/-! ### What every effect leaves as it was -/

theorem handler_linkKept {c : Instr} {run : Handler} (h : requestHandler c = some run) (body : List Byte) (s : State) :
    LinkKept s (run body s).2 := by
  cases c <;> cases h
  case stageBegin => exact (stageBeginRequest_only body s).2.2.2.2.2.2.2
  case stageAdd => exact (stageAddRequest_only body s).2.2.2.2.2.2.2
  case stageRemove => exact (stageRemoveRequest_only body s).2.2.2.2.2.2.2
  case stageClose => exact (stageCloseRequest_only body s).2.2.2.2.2.2.2
  case stageDiscard => exact (stageDiscardRequest_only body s).2.2.2.2.2.2.2
  case goOnline => exact (goOnlineRequest_only body s).2.2.2.2.2.2
  all_goals simp

/-- The effects of the trunk and of time leave the host side as it was. -/
theorem Effect.hostSideKept {c : Instr} {s u : State} (h : Effect s c u) (trunk : onTrunk c = true) :
    HostSideKept s u := by
  cases h with
  | handled request => cases c <;> cases request <;> cases trunk
  | wrongLength request => cases c <;> cases request <;> cases trunk
  | cutShort cut => obtain rfl | rfl := cut <;> cases trunk
  | cycleBegun begins current => simp
  | slotEnded ends current due =>
    next start now e =>
    obtain ⟨-, hcycle, -, htx, hrx, hlink, hpending, hrun⟩ :=
      channelSlotEnd_only now.number e.owner e.label e.payload e.frame (releaseSlot start (s.atInstant e.instant))
    simp [handSlotEnd, hcycle, htx, hrx, hlink, hpending, hrun]
  | unknownCode => cases trunk
  | bytesReceived => cases trunk
  | broke => cases trunk
  | breakEnded => cases trunk
  | selNegated => cases trunk
  | selected => cases trunk
  | replySent => cases trunk
  | noticeSent => cases trunk
  | poweredOn => cases trunk
  | _ => simp

/-- No effect touches the queue of commands. -/
theorem Effect.pending {c : Instr} {s u : State} (h : Effect s c u) : u.pending = s.pending := by
  by_cases trunk : onTrunk c = true
  · exact (h.hostSideKept trunk).2.1
  · cases h with
    | handled _ handler => exact (handler_linkKept handler _ s).2
    | slotEnded ends => obtain rfl | rfl := ends <;> exact absurd rfl trunk
    | _ => simp

/-! ### The statements about single steps -/

/-- Settles O2, by the inversion of `exec`. -/
theorem commandsCompleteAndKeepPending : Obligations.CommandsCompleteAndKeepPending := by
  intro c s
  obtain h | ⟨u, effect, h⟩ := exec_acts c s
  · exact ⟨s, h, rfl⟩
  · exact ⟨_, h, effect.pending⟩

/-- R12: a segment that waits for its first bit is sent once the line clock has come to it. -/
theorem TrunkInterface.reach_begins {i : TrunkInterface} {t : Word} {g : OwnSegment} {since : Word}
    (hg : i.segment = some g) (hw : g.way = .waits since) (ht : 0 ≤ (t - since).toInt) :
    i.reach t = { i with lineClock := t, segment := some { g with way := .sends since }, txen := true } := by
  have begun : g.beginsBy t = true := by
    rw [OwnSegment.beginsBy, hw]
    exact decide_eq_true ht
  simp [reach, hg, OwnSegment.asOf, hw, begun]

/-- R1: the line clock moves and nothing else changes while no segment has come to its first bit. -/
theorem TrunkInterface.reach_eq {i : TrunkInterface} {t : Word}
    (h : ∀ g since, i.segment = some g → g.way = .waits since → (t - since).toInt < 0) :
    i.reach t = { i with lineClock := t } := by
  obtain hr | ⟨g, since, hg, hw, ht, -⟩ := i.reach_cases t
  · exact hr
  · exact absurd (h g since hg hw) (not_lt.2 ht)

/-- Settles O1: the step by cases of the queue, `reach` by whether a segment has come to its first bit. -/
theorem stepRunsFrontCommand : Obligations.StepRunsFrontCommand := by
  refine ⟨fun c rest s h => ?_, fun s h => ?_, fun i t => ⟨fun g since hg hw ht => ?_, fun h => ?_⟩⟩
  · simp [step, h]
  · simp [step, h, State.tick, State.atInstant]
  · exact TrunkInterface.reach_begins hg hw ht
  · exact TrunkInterface.reach_eq h

/-- Settles O3: the values of `State.reset`, read off. -/
theorem resetHoldsTheStatedValues : Obligations.ResetHoldsTheStatedValues :=
  ⟨rfl, rfl, rfl, rfl, rfl, rfl, rfl, rfl, rfl, rfl, rfl, rfl, rfl⟩

/-- Settles O14: every effect ends with ATTN set by its test, and a byte time touches nothing that the test reads. -/
theorem attnStaysRight : Obligations.AttnStaysRight := by
  intro s t hs h
  exact step_keeps (P := attnRight) (fun _ _ h => h) (fun _ h => h) (fun _ _ _ _ _ => rfl) hs h

end Sys2Proof.Machine
end

section
/-! PROOFS. What all requests have in common: how they are taken and refused, and which unit each may change. Settles O16,
O21, O22 and O24. -/

namespace Sys2Proof.Machine

set_option Elab.async false

/-! ### Refusals (R162, R102) -/

/-- R162: a refusal leaves the state as it was, but for the room watch that NO_ROOM sets (R102). -/
def RefusesCleanly (a : Reply × State) (s : State) : Prop :=
  a.1.status ≠ .ok → a.2 = s ∨ (a.1.status = .noRoom ∧ a.2 = { s with tx := { s.tx with roomWatch := true } })

@[simp] theorem refusesCleanly_okWith (body : List Byte) (u s : State) : RefusesCleanly (.okWith body, u) s :=
  fun h => absurd rfl h

@[simp] theorem refusesCleanly_same (r : Reply) (s : State) : RefusesCleanly (r, s) s := fun _ => .inl rfl

@[simp] theorem refusesCleanly_noRoom (s : State) : RefusesCleanly (refuseNoRoom s) s := fun _ => .inr ⟨rfl, rfl⟩

section
variable (body : List Byte) (s : State)

theorem setNodeRequest_refuses : RefusesCleanly (setNodeRequest body s) s := by
  unfold setNodeRequest
  repeat' split
  all_goals simp

theorem setCycleRequest_refuses : RefusesCleanly (setCycleRequest body s) s := by
  unfold setCycleRequest
  repeat' split
  all_goals simp

theorem goOnlineRequest_refuses : RefusesCleanly (goOnlineRequest body s) s := by
  unfold goOnlineRequest
  repeat' split
  all_goals simp

theorem readCountsRequest_refuses : RefusesCleanly (readCountsRequest body s) s := by
  unfold readCountsRequest
  repeat' split
  all_goals simp

theorem stageBeginRequest_refuses : RefusesCleanly (stageBeginRequest body s) s := by
  unfold stageBeginRequest
  repeat' split
  all_goals simp

theorem stageAddRequest_refuses : RefusesCleanly (stageAddRequest body s) s := by
  unfold stageAddRequest
  dsimp only
  repeat' split
  all_goals simp

theorem stageRemoveRequest_refuses : RefusesCleanly (stageRemoveRequest body s) s := by
  unfold stageRemoveRequest
  repeat' split
  all_goals simp

theorem stageCloseRequest_refuses : RefusesCleanly (stageCloseRequest body s) s := by
  unfold stageCloseRequest
  repeat' split
  all_goals simp

theorem stageDiscardRequest_refuses : RefusesCleanly (stageDiscardRequest body s) s := by
  unfold stageDiscardRequest
  repeat' split
  all_goals simp

theorem commitRequest_refuses : RefusesCleanly (commitRequest body s) s := by
  unfold commitRequest
  repeat' split
  all_goals simp

theorem cancelRequest_refuses : RefusesCleanly (cancelRequest body s) s := by
  unfold cancelRequest
  repeat' split
  all_goals simp

theorem bindRequest_refuses : RefusesCleanly (bindRequest body s) s := by
  unfold bindRequest
  repeat' split
  all_goals simp

theorem unbindRequest_refuses : RefusesCleanly (unbindRequest body s) s := by
  unfold unbindRequest
  repeat' split
  all_goals simp

theorem writeRequest_refuses : RefusesCleanly (writeRequest body s) s := by
  unfold writeRequest
  repeat' split
  all_goals simp

theorem sendRequest_refuses : RefusesCleanly (sendRequest body s) s := by
  unfold sendRequest
  dsimp only
  repeat' split
  all_goals simp [acceptMessage, suppliedReply]

theorem pieceRequest_refuses : RefusesCleanly (pieceRequest body s) s := by
  unfold pieceRequest
  dsimp only
  repeat' split
  all_goals simp [appendPiece, suppliedReply]

theorem abortRequest_refuses : RefusesCleanly (abortRequest body s) s := by
  unfold abortRequest
  repeat' split
  all_goals simp

theorem setGroupsRequest_refuses : RefusesCleanly (setGroupsRequest body s) s := by
  unfold setGroupsRequest
  repeat' split
  all_goals simp

theorem releaseRequest_refuses : RefusesCleanly (releaseRequest body s) s := by
  unfold releaseRequest
  repeat' split
  all_goals simp

theorem noticeMaskRequest_refuses : RefusesCleanly (noticeMaskRequest body s) s := by
  unfold noticeMaskRequest
  repeat' split
  all_goals simp

theorem ackRequest_refuses : RefusesCleanly (ackRequest body s) s := by
  unfold ackRequest
  repeat' split
  all_goals simp

end

/-- The handlers of the reading requests change nothing. -/
theorem readingHandler_keeps {c : Instr} {run : Handler} (reading : c ∈ readingCommands)
    (h : requestHandler c = some run) (body : List Byte) (s : State) : (run body s).2 = s := by
  cases c <;> cases h
  case identify => rfl
  case readSync => rfl
  case readSchedule => exact readScheduleRequest_keeps body s
  case readChannel => exact readRequest_keeps body s
  case readChannels => exact readManyRequest_keeps body s
  case readOutbound => rfl
  case readMessage => exact readMessageRequest_keeps body s
  case readInbound => rfl
  all_goals exact absurd reading (by decide)

/-- R162: no handler changes anything with a refusal but the room watch. -/
theorem handler_refuses {c : Instr} {run : Handler} (h : requestHandler c = some run) (body : List Byte) (s : State) :
    RefusesCleanly (run body s) s := by
  cases c <;> cases h
  case identify | readSync | readOutbound | readInbound => exact fun _ => .inl rfl
  case readSchedule => exact fun _ => .inl (readScheduleRequest_keeps body s)
  case readChannel => exact fun _ => .inl (readRequest_keeps body s)
  case readChannels => exact fun _ => .inl (readManyRequest_keeps body s)
  case readMessage => exact fun _ => .inl (readMessageRequest_keeps body s)
  case setNode => exact setNodeRequest_refuses body s
  case setCycle => exact setCycleRequest_refuses body s
  case goOnline => exact goOnlineRequest_refuses body s
  case goOffline => exact refusesCleanly_okWith _ _ s
  case resetNode => exact refusesCleanly_okWith _ _ s
  case stageBegin => exact stageBeginRequest_refuses body s
  case stageAdd => exact stageAddRequest_refuses body s
  case stageRemove => exact stageRemoveRequest_refuses body s
  case stageClose => exact stageCloseRequest_refuses body s
  case stageDiscard => exact stageDiscardRequest_refuses body s
  case commit => exact commitRequest_refuses body s
  case cancel => exact cancelRequest_refuses body s
  case bindChannel => exact bindRequest_refuses body s
  case unbindChannel => exact unbindRequest_refuses body s
  case writeChannel => exact writeRequest_refuses body s
  case sendMessage => exact sendRequest_refuses body s
  case messagePiece => exact pieceRequest_refuses body s
  case abortMessage => exact abortRequest_refuses body s
  case setGroups => exact setGroupsRequest_refuses body s
  case releaseMessage => exact releaseRequest_refuses body s
  case noticeMask => exact noticeMaskRequest_refuses body s
  case ackNotices => exact ackRequest_refuses body s
  case readCounts => exact readCountsRequest_refuses body s

/-- Settles O16: a length that is not allowed is refused by the interpreter, any other body is its handler's. -/
theorem refusalsChangeNothing : Obligations.RefusalsChangeNothing := by
  intro c code s q request oldest named
  obtain ⟨run, handler, runs⟩ := exec_request request
  rw [runs]
  by_cases allowed : (bodyShape code).any (fun shape => shape.allows q.body) = true
  · have kept := handler_linkKept handler q.body s
    exact ⟨_, _, takeRequest_run oldest named allowed, kept.1, kept.2, handler_refuses handler q.body s⟩
  · refine ⟨badLength q.body, s, ?_, rfl, rfl, fun _ => .inl rfl⟩
    simp [takeRequest, oldest, named, allowed, finish, replied]

/-! ### Reading (O21) -/

/-- Settles O21: a reading handler leaves the state, so that only the answer and ATTN are new. -/
theorem readingRequestsChangeNothing : Obligations.ReadingRequestsChangeNothing := by
  intro c reading s t h
  obtain rfl | ⟨u, effect, rfl⟩ := effect_of_exec h
  · rfl
  · cases effect with
    | handled _ handler =>
      rw [readingHandler_keeps reading handler]
      rfl
    | wrongLength => rfl
    | unknownCode => rfl
    | cutShort cut => obtain rfl | rfl := cut <;> exact absurd reading (by decide)
    | cycleBegun begins =>
      have disjoint : ∀ c ∈ cycleStartCommands, c ∉ readingCommands := by decide
      exact absurd reading (disjoint c begins)
    | frameHeard received => obtain rfl | rfl := received <;> simp [readingCommands] at reading
    | windowClosed closes =>
      have disjoint : ∀ c ∈ [Instr.cycleStartWindowCloses, .syncLost, .takeover], c ∉ readingCommands := by decide
      exact absurd reading (disjoint c closes)
    | slotEnded ends => obtain rfl | rfl := ends <;> simp [readingCommands] at reading
    | segmentDisturbed disturbs => obtain rfl | rfl := disturbs <;> exact absurd reading (by decide)
    | _ => simp [readingCommands] at reading

/-! ### Acting (O22) -/

/-- A request leaves the state as it was or its handler's, with its entry answered and ATTN set anew. -/
theorem request_leaves {R : State → State → Prop} {c : Instr} {code : Byte} {run : Handler} {s t : State}
    (request : requestCode c = some code) (handler : requestHandler c = some run) (refl : R s s)
    (handled : ∀ body, R s (run body s).2) (h : exec c s = .next t) :
    ∃ u buffer attn, R s u ∧ u.pending = s.pending ∧
      t = { u with link := { s.link with buffer := buffer, attn := attn } } := by
  obtain ⟨run', handler', runs⟩ := exec_request request
  obtain rfl : run' = run := Option.some.inj (handler'.symm.trans handler)
  rw [runs] at h
  obtain h' | ⟨q, -, -, h'⟩ | ⟨q, -, -, -, h'⟩ := takeRequest_cases code run' s
  · obtain rfl := Host.Outcome.next.inj (h.symm.trans h')
    exact ⟨_, _, _, refl, rfl, rfl⟩
  · obtain rfl := Host.Outcome.next.inj (h.symm.trans h')
    exact ⟨s, _, _, refl, rfl, rfl⟩
  · obtain rfl := Host.Outcome.next.inj (h.symm.trans h')
    obtain ⟨link, pending⟩ := handler_linkKept handler q.body s
    refine ⟨(run' q.body s).2, answerOldest (run' q.body s).1 (run' q.body s).2.link.buffer,
      ((run' q.body s).2.answer (run' q.body s).1).attnLevel, handled q.body, pending, ?_⟩
    rw [← link]
    rfl

/-- Two states are equal when they agree in every unit. -/
theorem State.ext_units {s t : State} (trunk : s.trunk = t.trunk) (cycle : s.cycle = t.cycle) (sched : s.sched = t.sched)
    (channels : s.channels = t.channels) (tx : s.tx = t.tx) (rx : s.rx = t.rx) (notices : s.notices = t.notices)
    (link : s.link = t.link) (pending : s.pending = t.pending) : s = t := by
  cases s
  cases t
  simp_all

section
variable {c : Instr} {code : Byte} {run : Handler} {s t : State} (request : requestCode c = some code)
  (handler : requestHandler c = some run) (h : exec c s = .next t)
include request handler h

theorem cycleRequest_keeps (only : ∀ body, CyclesOnly s (run body s).2) :
    t = { s with cycle := t.cycle, link := { s.link with buffer := t.link.buffer, attn := t.link.attn } } := by
  obtain ⟨u, buffer, attn, ⟨trunk, sched, channels, tx, rx, notices, -, -⟩, pending, rfl⟩ :=
    request_leaves (R := CyclesOnly) request handler (by simp) only h
  exact State.ext_units trunk rfl sched channels tx rx notices rfl pending

theorem stageRequest_keeps (only : ∀ body, StagesOnly s (run body s).2) :
    t = { s with sched := { s.sched with staged := t.sched.staged, adoption := t.sched.adoption },
                 link := { s.link with buffer := t.link.buffer, attn := t.link.attn } } := by
  obtain ⟨u, buffer, attn, ⟨trunk, cycle, sched, channels, tx, rx, notices, -, -⟩, pending, rfl⟩ :=
    request_leaves (R := StagesOnly) request handler (by simp) only h
  exact State.ext_units trunk cycle sched channels tx rx notices rfl pending

theorem activationRequest_keeps (only : ∀ body, ActivatesOnly s (run body s).2) :
    t = { s with sched := { s.sched with staged := t.sched.staged, unready := t.sched.unready,
                                         adoption := t.sched.adoption },
                 notices := t.notices, link := { s.link with buffer := t.link.buffer, attn := t.link.attn } } := by
  obtain ⟨u, buffer, attn, ⟨⟨trunk, cycle, active, lastSwitch, channels, tx, rx, -, -, -⟩, takeUp⟩, pending, rfl⟩ :=
    request_leaves (R := ActivatesOnly) request handler (by simp) only h
  refine State.ext_units trunk cycle ?_ channels tx rx rfl rfl pending
  dsimp only
  rw [← active, ← lastSwitch, ← takeUp]

theorem bindingRequest_keeps (only : ∀ body, BindsOnly s (run body s).2) :
    t = { s with channels := t.channels, link := { s.link with buffer := t.link.buffer, attn := t.link.attn } } := by
  obtain ⟨u, buffer, attn, ⟨trunk, cycle, sched, tx, rx, notices, -, -⟩, pending, rfl⟩ :=
    request_leaves (R := BindsOnly) request handler (by simp) only h
  exact State.ext_units trunk cycle sched rfl tx rx notices rfl pending

theorem submittingRequest_keeps (only : ∀ body, SubmitsOnly s (run body s).2) :
    t = { s with tx := { t.tx with onLine := s.tx.onLine }, notices := t.notices,
                 link := { s.link with buffer := t.link.buffer, attn := t.link.attn } } := by
  obtain ⟨u, buffer, attn, ⟨trunk, cycle, sched, channels, rx, -, -, -, onLine⟩, pending, rfl⟩ :=
    request_leaves (R := SubmitsOnly) request handler (by simp) only h
  refine State.ext_units trunk cycle sched channels ?_ rx rfl rfl pending
  dsimp only
  rw [← onLine]

end

theorem goOnline_keeps {s t : State} (h : exec .goOnline s = .next t) :
    t = { s with cycle := t.cycle, trunk := { s.trunk with hearsFrom := t.trunk.hearsFrom },
                 link := { s.link with buffer := t.link.buffer, attn := t.link.attn } } := by
  obtain ⟨u, buffer, attn, ⟨trunk, sched, channels, tx, rx, notices⟩, pending, rfl⟩ :=
    request_leaves (c := .goOnline) (R := fun s u => u.trunk = { s.trunk with hearsFrom := u.trunk.hearsFrom } ∧
      u.sched = s.sched ∧ u.channels = s.channels ∧ u.tx = s.tx ∧ u.rx = s.rx ∧ u.notices = s.notices)
      rfl rfl (by simp) (fun body => by
        obtain ⟨trunk, sched, channels, tx, rx, notices, -⟩ := goOnlineRequest_only body s
        exact ⟨trunk, sched, channels, tx, rx, notices⟩) h
  exact State.ext_units trunk rfl sched channels tx rx notices rfl pending

theorem setGroups_keeps {s t : State} (h : exec .setGroups s = .next t) :
    t = { s with rx := { s.rx with groups := t.rx.groups },
                 link := { s.link with buffer := t.link.buffer, attn := t.link.attn } } := by
  obtain ⟨u, buffer, attn, ⟨only, queue, free⟩, pending, rfl⟩ :=
    request_leaves (c := .setGroups) (R := fun s u => TakesOnly s u ∧ u.rx.queue = s.rx.queue ∧ u.rx.free = s.rx.free)
      rfl rfl (by simp) (fun body => setGroupsRequest_only body s) h
  obtain ⟨trunk, cycle, sched, channels, tx, notices, -, -, places, handle, records, orphan, duplicate⟩ := only
  refine State.ext_units trunk cycle sched channels tx ?_ notices rfl pending
  dsimp only
  rw [← places, ← handle, ← records, ← orphan, ← duplicate, ← queue, ← free]

theorem releaseMessage_keeps {s t : State} (h : exec .releaseMessage s = .next t) :
    t = { s with rx := { s.rx with queue := t.rx.queue, free := t.rx.free },
                 link := { s.link with buffer := t.link.buffer, attn := t.link.attn } } := by
  obtain ⟨u, buffer, attn, ⟨only, groups⟩, pending, rfl⟩ :=
    request_leaves (c := .releaseMessage) (R := fun s u => TakesOnly s u ∧ u.rx.groups = s.rx.groups)
      rfl rfl (by simp) (fun body => releaseRequest_only body s) h
  obtain ⟨trunk, cycle, sched, channels, tx, notices, -, -, places, handle, records, orphan, duplicate⟩ := only
  refine State.ext_units trunk cycle sched channels tx ?_ notices rfl pending
  dsimp only
  rw [← places, ← handle, ← records, ← orphan, ← duplicate, ← groups]

theorem noticeMask_keeps {s t : State} (h : exec .noticeMask s = .next t) :
    t = { s with notices := { s.notices with disabled := t.notices.disabled },
                 link := { s.link with buffer := t.link.buffer, attn := t.link.attn } } := by
  obtain ⟨u, buffer, attn, ⟨⟨trunk, cycle, sched, channels, tx, rx, -, -⟩, queue, delivered, nextSeq, lost⟩, pending, rfl⟩ :=
    request_leaves (c := .noticeMask) (R := fun s u => NotifiesOnly s u ∧ u.notices.queue = s.notices.queue ∧
      u.notices.delivered = s.notices.delivered ∧ u.notices.nextSeq = s.notices.nextSeq ∧
      u.notices.lost = s.notices.lost) rfl rfl (by simp) (fun body => noticeMaskRequest_only body s) h
  refine State.ext_units trunk cycle sched channels tx rx ?_ rfl pending
  dsimp only
  rw [← queue, ← delivered, ← nextSeq, ← lost]

theorem ackNotices_keeps {s t : State} (h : exec .ackNotices s = .next t) :
    t = { s with notices := { t.notices with disabled := s.notices.disabled },
                 link := { s.link with buffer := t.link.buffer, attn := t.link.attn } } := by
  obtain ⟨u, buffer, attn, ⟨⟨trunk, cycle, sched, channels, tx, rx, -, -⟩, disabled⟩, pending, rfl⟩ :=
    request_leaves (c := .ackNotices) (R := fun s u => NotifiesOnly s u ∧ u.notices.disabled = s.notices.disabled)
      rfl rfl (by simp) (fun body => ackRequest_only body s) h
  refine State.ext_units trunk cycle sched channels tx rx ?_ rfl pending
  dsimp only
  rw [← disabled]

theorem readCounts_keeps {s t : State} (h : exec .readCounts s = .next t) :
    t = { s with trunk := { s.trunk with crcErrors := t.trunk.crcErrors, malformed := t.trunk.malformed,
                                         wrongSlot := t.trunk.wrongSlot, stray := t.trunk.stray,
                                         disturbed := t.trunk.disturbed },
                 rx := { s.rx with orphan := t.rx.orphan, duplicate := t.rx.duplicate },
                 link := { s.link with buffer := t.link.buffer, attn := t.link.attn } } := by
  obtain ⟨u, buffer, attn, rfl | rfl, pending, rfl⟩ :=
    request_leaves (c := .readCounts) (R := fun s u => u = s ∨ u = clearCounters s)
      rfl rfl (.inl rfl) (fun body => readCountsRequest_cases body s) h
  · rfl
  · rfl

/-- Settles O22, unit by unit from what each handler leaves as it was. -/
theorem requestsKeepOtherUnits : Obligations.RequestsKeepOtherUnits := by
  intro s t
  refine ⟨fun c hc h => ?_, goOnline_keeps, fun c hc h => ?_, fun c hc h => ?_, fun c hc h => ?_, fun c hc h => ?_,
    setGroups_keeps, releaseMessage_keeps, noticeMask_keeps, ackNotices_keeps, readCounts_keeps⟩
  · fin_cases hc
    · exact cycleRequest_keeps rfl rfl h (setNodeRequest_only · s)
    · exact cycleRequest_keeps rfl rfl h (setCycleRequest_only · s)
  · fin_cases hc
    · exact stageRequest_keeps rfl rfl h (stageBeginRequest_only · s)
    · exact stageRequest_keeps rfl rfl h (stageAddRequest_only · s)
    · exact stageRequest_keeps rfl rfl h (stageRemoveRequest_only · s)
    · exact stageRequest_keeps rfl rfl h (stageCloseRequest_only · s)
    · exact stageRequest_keeps rfl rfl h (stageDiscardRequest_only · s)
  · fin_cases hc
    · exact activationRequest_keeps rfl rfl h (commitRequest_only · s)
    · exact activationRequest_keeps rfl rfl h (cancelRequest_only · s)
  · fin_cases hc
    · exact bindingRequest_keeps rfl rfl h (bindRequest_only · s)
    · exact bindingRequest_keeps rfl rfl h (unbindRequest_only · s)
    · exact bindingRequest_keeps rfl rfl h (writeRequest_only · s)
  · fin_cases hc
    · exact submittingRequest_keeps rfl rfl h (sendRequest_only · s)
    · exact submittingRequest_keeps rfl rfl h (pieceRequest_only · s)
    · exact submittingRequest_keeps rfl rfl h (abortRequest_only · s)

/-! ### Taking in order (O24) -/

/-- R162: the reply joins the first entry that has none, behind entries that have one. -/
theorem answerOldest_append (r : Reply) {before : List Request} (answered : ∀ p ∈ before, p.reply.isSome)
    {q : Request} (unanswered : q.reply = none) (after : List Request) :
    answerOldest r (before ++ q :: after) = before ++ { q with reply := some r } :: after := by
  induction before with
  | nil => simp [answerOldest, unanswered]
  | cons p rest ih =>
    have hp : p.reply.isNone = false := by simpa using answered p (by simp)
    have hrest := ih fun x hx => answered x (List.mem_cons_of_mem p hx)
    simp [answerOldest, hp, hrest]

/-- R162: the oldest ACCEPTED entry stands behind TAKEN ones only. -/
theorem oldestAccepted_eq_some {buffer : List Request} {q : Request} (h : oldestAccepted buffer = some q) :
    ∃ before after, buffer = before ++ q :: after ∧ (∀ p ∈ before, p.reply.isSome) ∧ q.reply = none := by
  obtain ⟨unanswered, before, after, rfl, answered⟩ := List.find?_eq_some_iff_append.1 h
  exact ⟨before, after, rfl, fun p hp => by simpa [Option.isSome_iff_ne_none] using answered p hp, by simpa using unanswered⟩

/-- The commands that are requests. -/
def requestCommands : List Instr :=
  [.identify, .setNode, .setCycle, .goOnline, .goOffline, .resetNode, .readSync, .stageBegin, .stageAdd, .stageRemove,
   .stageClose, .stageDiscard, .readSchedule, .commit, .cancel, .bindChannel, .unbindChannel, .writeChannel,
   .readChannel, .readChannels, .sendMessage, .messagePiece, .abortMessage, .readOutbound, .setGroups, .readMessage,
   .releaseMessage, .readInbound, .noticeMask, .ackNotices, .readCounts]

/-- 10.3: a code with an allowed body length is that of some request. -/
theorem exists_request_of_bodyShape (code : Byte) (h : (bodyShape code).isSome = true) :
    ∃ c ∈ requestCommands, requestCode c = some code := by
  have listed : code.toNat ∈ (requestCommands.filterMap requestCode).map BitVec.toNat := by
    unfold bodyShape at h
    split at h
    case h_32 => cases h
    all_goals
      next same =>
        rw [same]
        decide
  obtain ⟨other, coded, same⟩ := List.mem_map.1 listed
  obtain ⟨c, among, request⟩ := List.mem_filterMap.1 coded
  exact ⟨c, among, request.trans (congrArg some (BitVec.eq_of_toNat_eq same))⟩

/-- 10.3: the code of a request has an allowed body length. -/
theorem bodyShape_of_request {c : Instr} {code : Byte} (h : requestCode c = some code) : (bodyShape code).isSome := by
  cases c <;> cases h <;> rfl

/-- Settles O24: the answer by the place of the oldest ACCEPTED entry, the codes by the table of 10.3. -/
theorem requestsTakenInOrder : Obligations.RequestsTakenInOrder := by
  refine ⟨fun r s q oldest => ?_, fun code => ⟨fun h => ?_, fun ⟨c, h⟩ => bodyShape_of_request h⟩,
    fun c code body s request takes refused => ?_, fun code body s takes unnamed => ?_⟩
  · obtain ⟨before, after, hbuffer, answered, unanswered⟩ := oldestAccepted_eq_some oldest
    refine ⟨before, after, hbuffer, answered, unanswered, ?_⟩
    rw [State.answer, hbuffer, answerOldest_append r answered unanswered]
  · obtain ⟨c, -, request⟩ := exists_request_of_bodyShape code h
    exact ⟨c, request⟩
  · obtain ⟨run, -, runs⟩ := exec_request request
    obtain ⟨q, oldest, rfl, rfl⟩ := (s.takes_iff code body).1 takes
    rw [runs]
    simp [takeRequest, oldest, refused, finish, replied, badLength, Reply.refuse]
  · obtain ⟨q, oldest, rfl, rfl⟩ := (s.takes_iff code body).1 takes
    show execBadRequest s = _
    simp [execBadRequest, oldest, unnamed, finish, replied, Reply.refuse]

end Sys2Proof.Machine
end

section
/-! PROOFS. R150: no operation reads the notice unit, and each writes to it by the same acts whatever it holds. Two states that
differ in the notice unit alone (twins) stay twins under every command but ACK_NOTICES and OUTBOUND_SELECT. -/

namespace Sys2Proof.Machine

set_option Elab.async false

/-! ### What operations do to the notice unit -/

/-- What operations do to the notice unit: a notice is given in the cycle with this number, the delivery point goes back, the
enables are replaced, the unit is reset. -/
inductive NoticeAct where
  | enter (cycle : Option Word) (body : NoticeBody)
  | rewind
  | mask (codes : List Byte)
  | reset (cause : RestartCause)

/-- The notice unit after such an act. -/
def NoticeAct.apply (n : NoticeUnit) : NoticeAct → NoticeUnit
  | .enter cycle body =>
    if n.masked body.kind then n
    else if Config.noticeSize ≤ n.queue.length then { n with lost := min Config.lostMax (n.lost + 1) }
    else { n with queue := n.queue ++ [{ seq := n.nextSeq, cycle := cycle, body := body }], nextSeq := n.nextSeq + 1 }
  | .rewind => { n with delivered := 0 }
  | .mask codes => { n with disabled := disabledBy codes }
  | .reset cause => .reset cause

/-- Two states that have come from `n` and `m` by the same acts and agree in everything but the notice unit. -/
def Twin (n m : NoticeUnit) (s t : State) : Prop :=
  ∃ acts : List NoticeAct, s.notices = acts.foldl NoticeAct.apply n ∧
    t = { s with notices := acts.foldl NoticeAct.apply m }

theorem giveNotice_notices (b : NoticeBody) (s : State) :
    (giveNotice b s).notices = NoticeAct.apply s.notices (.enter s.cycleNumber b) := by
  unfold giveNotice queueNotice
  simp only [NoticeAct.apply]
  split_ifs <;> rfl

section
variable {n m : NoticeUnit} {s t : State}

theorem twin_start (n m : NoticeUnit) (s : State) : Twin n m { s with notices := n } { s with notices := m } :=
  ⟨[], rfl, rfl⟩

theorem Twin.exists_eq (h : Twin n m s t) : ∃ k, t = { s with notices := k } := by
  obtain ⟨_, _, h⟩ := h
  exact ⟨_, h⟩

/-- An update that does not look at the notice unit and leaves it as it was. -/
theorem Twin.update (h : Twin n m s t) (f : State → State)
    (same : ∀ k, f { s with notices := k } = { f s with notices := k }) : Twin n m (f s) (f t) := by
  obtain ⟨acts, hs, rfl⟩ := h
  exact ⟨acts, (congrArg State.notices (same s.notices)).trans hs, same _⟩

/-- An update that is one act on the notice unit, the same whatever it holds. -/
theorem Twin.act (h : Twin n m s t) (f : State → State) (act : NoticeAct)
    (acts : ∀ k, f { s with notices := k } = { f s with notices := act.apply k }) : Twin n m (f s) (f t) := by
  obtain ⟨before, hs, rfl⟩ := h
  refine ⟨before ++ [act], ?_, ?_⟩
  · have := congrArg State.notices (acts s.notices)
    rw [List.foldl_append, ← hs]
    exact this
  · rw [acts, List.foldl_append]
    rfl

theorem giveNotice_twin (b : NoticeBody) (h : Twin n m s t) : Twin n m (giveNotice b s) (giveNotice b t) :=
  h.act (giveNotice b) (.enter s.cycleNumber b) fun k => by
    rw [giveNotice_frame b s, giveNotice_frame, giveNotice_notices]
    rfl

theorem giveNotices_twin (l : List NoticeBody) (h : Twin n m s t) : Twin n m (giveNotices l s) (giveNotices l t) := by
  induction l generalizing s t with
  | nil => exact h
  | cons b rest ih => exact ih (giveNotice_twin b h)

/-! ### The transmit message unit -/

theorem examineRoom_twin (k : Nat) (h : Twin n m s t) : Twin n m (examineRoom k s) (examineRoom k t) := by
  obtain ⟨l, rfl⟩ := h.exists_eq
  unfold examineRoom
  split_ifs
  · exact giveNotice_twin _ (h.update (fun s => { s with tx := { s.tx with roomWatch := false } }) fun _ => rfl)
  · exact h

theorem withQueue_twin (q : List Message) (h : Twin n m s t) : Twin n m (s.withQueue q) (t.withQueue q) :=
  h.update (fun s => s.withQueue q) fun _ => rfl

theorem returnBlocks_twin (k : Nat) (h : Twin n m s t) : Twin n m (returnBlocks k s) (returnBlocks k t) :=
  h.update _ fun _ => rfl

theorem failFirst_twin (x : Message) (rest : List Message) (reason : FailReason) (a : Bool) (h : Twin n m s t) :
    Twin n m (failFirst x rest reason a s) (failFirst x rest reason a t) :=
  examineRoom_twin _ (giveNotice_twin _ (returnBlocks_twin _ (withQueue_twin _ h)))

theorem sentFirst_twin (x : Message) (rest : List Message) (h : Twin n m s t) :
    Twin n m (sentFirst x rest s) (sentFirst x rest t) :=
  examineRoom_twin _ (giveNotice_twin _ (returnBlocks_twin _ (withQueue_twin _ h)))

theorem enterAborting_twin (x : Message) (r : InFlight) (rest : List Message) (reason : FailReason) (h : Twin n m s t) :
    Twin n m (enterAborting x r rest reason s) (enterAborting x r rest reason t) := by
  unfold enterAborting
  split_ifs
  · exact failFirst_twin x rest reason false h
  · exact examineRoom_twin _ (returnBlocks_twin _ (withQueue_twin _ h))

theorem actPending_twin (x : Message) (r : InFlight) (rest : List Message) (h : Twin n m s t) :
    Twin n m (actPending x r rest s) (actPending x r rest t) := by
  unfold actPending
  split_ifs
  · exact enterAborting_twin x r rest .host h
  · exact h

theorem dataWon_twin (x : Message) (r : InFlight) (rest : List Message) (h : Twin n m s t) :
    Twin n m (dataWon x r rest s) (dataWon x r rest t) := by
  unfold dataWon
  split_ifs
  · exact sentFirst_twin x rest h
  · exact actPending_twin _ _ rest (examineRoom_twin _ (returnBlocks_twin _ (withQueue_twin _ h)))

theorem dataDisturbed_twin (x : Message) (r : InFlight) (rest : List Message) (h : Twin n m s t) :
    Twin n m (dataDisturbed x r rest s) (dataDisturbed x r rest t) := by
  unfold dataDisturbed
  split_ifs
  · exact failFirst_twin x rest .trunkFault false h
  · exact actPending_twin _ _ rest (withQueue_twin _ h)

theorem applyOutcome_twin (o : OnLine) (result : SegmentOutcome) (h : Twin n m s t) :
    Twin n m (applyOutcome o result s) (applyOutcome o result t) := by
  obtain ⟨l, rfl⟩ := h.exists_eq
  unfold applyOutcome
  dsimp only
  cases s.tx.queue with
  | nil => exact h
  | cons x rest =>
    dsimp only
    split
    · exact dataWon_twin x _ rest h
    · exact actPending_twin x _ rest h
    · exact dataDisturbed_twin x _ rest h
    · exact failFirst_twin x rest _ true h
    · exact h

theorem clearOnLine_twin (h : Twin n m s t) : Twin n m (clearOnLine s) (clearOnLine t) := h.update _ fun _ => rfl

theorem handOutcome_twin (result : SegmentOutcome) (h : Twin n m s t) :
    Twin n m (handOutcome result s) (handOutcome result t) := by
  obtain ⟨l, rfl⟩ := h.exists_eq
  unfold handOutcome
  dsimp only
  cases s.tx.onLine with
  | none => exact h
  | some o => exact applyOutcome_twin o result (clearOnLine_twin h)

theorem countInFlight_twin (x : Message) (r : InFlight) (rest : List Message) (h : Twin n m s t) :
    Twin n m (countInFlight x r rest s) (countInFlight x r rest t) := by
  unfold countInFlight
  dsimp only
  cases limitReached (r.counted x) with
  | none => exact withQueue_twin _ h
  | some reason => exact enterAborting_twin _ _ rest reason (withQueue_twin _ h)

theorem countAborting_twin (x : Message) (r : InFlight) (reason : FailReason) (k : Nat) (rest : List Message)
    (h : Twin n m s t) : Twin n m (countAborting x r reason k rest s) (countAborting x r reason k rest t) := by
  unfold countAborting
  split_ifs
  · exact failFirst_twin x rest reason false h
  · exact withQueue_twin _ h

theorem transmitCycleStart_twin (h : Twin n m s t) : Twin n m (transmitCycleStart s) (transmitCycleStart t) := by
  obtain ⟨l, rfl⟩ := h.exists_eq
  unfold transmitCycleStart
  dsimp only
  cases s.tx.queue with
  | nil => exact h
  | cons x rest =>
    dsimp only
    cases x.state with
    | waiting => exact h
    | inFlight r => exact countInFlight_twin x r rest h
    | aborting r reason k => exact countAborting_twin x r reason k rest h

theorem transmitDepart_twin (reason : FailReason) (h : Twin n m s t) :
    Twin n m (transmitDepart reason s) (transmitDepart reason t) := by
  have cleared := clearOnLine_twin h
  obtain ⟨l, rfl⟩ := h.exists_eq
  unfold transmitDepart
  dsimp only
  cases s.tx.queue with
  | nil => exact cleared
  | cons x rest =>
    dsimp only
    cases x.state with
    | waiting => exact cleared
    | inFlight r => exact failFirst_twin x rest _ false cleared
    | aborting r own k => exact failFirst_twin x rest own false cleared

theorem abortInFlight_twin (x : Message) (r : InFlight) (h : Twin n m s t) :
    Twin n m (abortInFlight x r s) (abortInFlight x r t) := by
  obtain ⟨l, rfl⟩ := h.exists_eq
  unfold abortInFlight
  split_ifs
  · exact withQueue_twin _ h
  · exact enterAborting_twin x r _ .host h

theorem removeWaiting_twin (x : Message) (h : Twin n m s t) : Twin n m (removeWaiting x s) (removeWaiting x t) := by
  obtain ⟨l, rfl⟩ := h.exists_eq
  exact examineRoom_twin _ (returnBlocks_twin _ (withQueue_twin _ h))

/-! ### The receive message unit -/

theorem setPlace_twin (p : Nat) (c : Option Context) (h : Twin n m s t) : Twin n m (setPlace p c s) (setPlace p c t) :=
  h.update _ fun _ => rfl

theorem setRxFree_twin (k : Nat) (h : Twin n m s t) : Twin n m (setRxFree k s) (setRxFree k t) :=
  h.update _ fun _ => rfl

theorem countOrphan_twin (h : Twin n m s t) : Twin n m (countOrphan s) (countOrphan t) := h.update _ fun _ => rfl

theorem countDuplicate_twin (h : Twin n m s t) : Twin n m (countDuplicate s) (countDuplicate t) :=
  h.update _ fun _ => rfl

theorem breakContext_twin (p : Nat) (c : Context) (reason : DropReason) (h : Twin n m s t) :
    Twin n m (breakContext p c reason s) (breakContext p c reason t) := by
  obtain ⟨l, rfl⟩ := h.exists_eq
  exact giveNotice_twin _ (setRxFree_twin _ (setPlace_twin p none h))

theorem breakWhere_twin (test : Context → Bool) (reason : DropReason) (ps : List Nat) (h : Twin n m s t) :
    Twin n m (breakWhere test reason ps s) (breakWhere test reason ps t) := by
  induction ps generalizing s t with
  | nil => exact h
  | cons p rest ih =>
    obtain ⟨l, rfl⟩ := h.exists_eq
    unfold breakWhere
    dsimp only
    cases s.rx.places[p]? with
    | none => exact ih h
    | some o =>
      cases o with
      | none => exact ih h
      | some c =>
        dsimp only
        split_ifs
        · exact ih (breakContext_twin p c reason h)
        · exact ih h

theorem completeContext_twin (number : Word) (p : Nat) (c : Context) (index : Nat) (h : Twin n m s t) :
    Twin n m (completeContext number p c index s) (completeContext number p c index t) := by
  have freed := (setPlace_twin p none h).update (recordCompletion c index) fun _ => rfl
  obtain ⟨l, rfl⟩ := h.exists_eq
  unfold completeContext
  dsimp only
  split_ifs
  · exact giveNotice_twin _ (freed.update (fun s => { s with rx := { s.rx with
      queue := s.rx.queue ++ [arrivalOf c (freeHandle s.rx.queue 9 s.rx.handleCounter) number],
      handleCounter := nextHandle (freeHandle s.rx.queue 9 s.rx.handleCounter) } }) fun _ => rfl)
  · exact giveNotice_twin _ (setRxFree_twin _ freed)

theorem closeAppended_twin (number : Word) (p : Nat) (c : Context) (f : SegmentFrame) (h : Twin n m s t) :
    Twin n m (closeAppended number p c f s) (closeAppended number p c f t) := by
  unfold closeAppended
  split_ifs
  · exact h
  · exact completeContext_twin number p c f.index h
  · exact breakContext_twin p c .length h

theorem appendSegment_twin (number : Word) (p : Nat) (c : Context) (f : SegmentFrame) (h : Twin n m s t) :
    Twin n m (appendSegment number p c f s) (appendSegment number p c f t) := by
  obtain ⟨l, rfl⟩ := h.exists_eq
  unfold appendSegment
  split_ifs
  · exact breakContext_twin p c .length h
  · exact breakContext_twin p c .noRoom h
  · exact closeAppended_twin number p _ f (setRxFree_twin _ (setPlace_twin p _ h))

theorem openContext_twin (number : Word) (f : SegmentFrame) (h : Twin n m s t) :
    Twin n m (openContext number f s) (openContext number f t) := by
  obtain ⟨l, rfl⟩ := h.exists_eq
  unfold openContext
  dsimp only
  cases freePlace 0 s.rx.places with
  | none => exact giveNotice_twin _ h
  | some p =>
    dsimp only
    split_ifs
    · exact giveNotice_twin _ h
    · exact appendSegment_twin number p _ f h

theorem firstSegment_twin (number : Word) (f : SegmentFrame) (h : Twin n m s t) :
    Twin n m (firstSegment number f s) (firstSegment number f t) := by
  obtain ⟨l, rfl⟩ := h.exists_eq
  unfold firstSegment
  dsimp only [contextOfSource]
  cases findPlace (fun c => c.source == f.source) 0 s.rx.places with
  | none => exact openContext_twin number f h
  | some pc =>
    dsimp only
    split_ifs
    · exact countDuplicate_twin h
    · exact openContext_twin number f (breakContext_twin _ _ .superseded h)

theorem orphanSegment_twin (f : SegmentFrame) (h : Twin n m s t) :
    Twin n m (orphanSegment f s) (orphanSegment f t) := by
  obtain ⟨l, rfl⟩ := h.exists_eq
  unfold orphanSegment
  dsimp only [contextOfSource]
  cases findPlace (fun c => c.source == f.source) 0 s.rx.places with
  | none => exact countOrphan_twin h
  | some pc => exact breakContext_twin _ _ .superseded (countOrphan_twin h)

theorem laterSegment_twin (number : Word) (f : SegmentFrame) (h : Twin n m s t) :
    Twin n m (laterSegment number f s) (laterSegment number f t) := by
  obtain ⟨l, rfl⟩ := h.exists_eq
  unfold laterSegment
  dsimp only [contextOfMessage]
  cases findPlace (fun c => c.source == f.source && c.id == f.id) 0 s.rx.places with
  | none => exact orphanSegment_twin f h
  | some pc =>
    dsimp only
    split_ifs
    · exact appendSegment_twin number _ _ f h
    · exact countDuplicate_twin h
    · exact breakContext_twin _ _ .gap h

theorem abortReceived_twin (f : SegmentFrame) (h : Twin n m s t) :
    Twin n m (abortReceived f s) (abortReceived f t) := by
  obtain ⟨l, rfl⟩ := h.exists_eq
  unfold abortReceived
  dsimp only [contextOfMessage]
  cases findPlace (fun c => c.source == f.source && c.id == f.id) 0 s.rx.places with
  | none => exact h
  | some pc => exact breakContext_twin _ _ .aborted h

theorem contextSegment_twin (number : Word) (f : SegmentFrame) (h : Twin n m s t) :
    Twin n m (contextSegment number f s) (contextSegment number f t) := by
  unfold contextSegment
  split_ifs
  · exact abortReceived_twin f h
  · exact firstSegment_twin number f h
  · exact laterSegment_twin number f h

theorem consistentSegment_twin (number : Word) (f : SegmentFrame) (h : Twin n m s t) :
    Twin n m (consistentSegment number f s) (consistentSegment number f t) := by
  obtain ⟨l, rfl⟩ := h.exists_eq
  unfold consistentSegment
  dsimp only
  cases s.rx.records.find? (fun r => r.source == f.source) with
  | none => exact contextSegment_twin number f h
  | some r =>
    dsimp only
    split_ifs
    · exact countDuplicate_twin h
    · exact contextSegment_twin number f (h.update (fun s => { s with rx := { s.rx with
        records := s.rx.records.filter (fun x => x.source != f.source) } }) fun _ => rfl)

/-- What an operation reads of a state is the same with another notice unit. -/
theorem takenSegment_notices (f : SegmentFrame) (s : State) (k : NoticeUnit) :
    takenSegment f { s with notices := k } = takenSegment f s := rfl

theorem receiveSegment_twin (number : Word) (f : SegmentFrame) (h : Twin n m s t) :
    Twin n m (receiveSegment number f s) (receiveSegment number f t) := by
  obtain ⟨l, rfl⟩ := h.exists_eq
  unfold receiveSegment
  rw [takenSegment_notices f s l]
  split_ifs
  · exact h
  · exact countOrphan_twin h
  · exact consistentSegment_twin number f h

theorem receiveCycleStart_twin (h : Twin n m s t) : Twin n m (receiveCycleStart s) (receiveCycleStart t) :=
  breakWhere_twin _ _ _ (h.update receiveCounts fun _ => rfl)

theorem receiveDepart_twin (reason : DropReason) (h : Twin n m s t) :
    Twin n m (receiveDepart reason s) (receiveDepart reason t) :=
  breakWhere_twin _ _ _ (h.update (fun s => { s with rx := { s.rx with records := [] } }) fun _ => rfl)

/-! ### The channel unit -/

theorem resolutionNotices_congr {s t : State} (same : ∀ c, s.reresolve c = t.reresolve c) (i : Nat)
    (l : List (Option Channel)) : resolutionNotices s i l = resolutionNotices t i l := by
  induction l generalizing i with
  | nil => rfl
  | cons o rest ih => cases o <;> simp [resolutionNotices, same, ih]

theorem reresolveAll_twin (h : Twin n m s t) : Twin n m (reresolveAll s) (reresolveAll t) := by
  obtain ⟨l, rfl⟩ := h.exists_eq
  have told : resolutionNotices { s with notices := l } 0 s.channels = resolutionNotices s 0 s.channels :=
    resolutionNotices_congr (s := { s with notices := l }) (t := s) (fun _ => rfl) 0 s.channels
  unfold reresolveAll
  dsimp only
  rw [told]
  exact giveNotices_twin _ (h.update (fun s => { s with channels := s.channels.map (fun o => o.map s.reresolve) })
    fun _ => rfl)

theorem channelCycleStart_twin (h : Twin n m s t) : Twin n m (channelCycleStart s) (channelCycleStart t) :=
  h.update _ fun _ => rfl

theorem channelDepart_twin (h : Twin n m s t) : Twin n m (channelDepart s) (channelDepart t) :=
  h.update _ fun _ => rfl

theorem evaluateChannel_twin (number : Word) (place : Nat) (c : Channel) (f : Option CyclicFrame) (h : Twin n m s t) :
    Twin n m (evaluateChannel number place c f s) (evaluateChannel number place c f t) := by
  unfold evaluateChannel
  cases c.direction with
  | produce age => exact h
  | consume d =>
    dsimp only
    split_ifs
    · exact giveNotices_twin _ (h.update (fun s => { s with
        channels := s.channels.set place (some (c.evaluated d number (c.takes f))) }) fun _ => rfl)
    · exact h

theorem countWrongSlot_twin (owner label : Byte) (payload : Nat) (f : Option CyclicFrame) (h : Twin n m s t) :
    Twin n m (countWrongSlot owner label payload f s) (countWrongSlot owner label payload f t) := by
  obtain ⟨l, rfl⟩ := h.exists_eq
  have read : (f.any fun f => countsWrongSlot { s with notices := l } f owner label payload) =
      f.any fun f => countsWrongSlot s f owner label payload := rfl
  unfold countWrongSlot
  rw [read]
  split_ifs
  · exact h.update (fun s => { s with trunk := { s.trunk with wrongSlot := bump s.trunk.wrongSlot } }) fun _ => rfl
  · exact h

theorem channelSlotEnd_twin (number : Word) (owner label : Byte) (payload : Nat) (f : Option CyclicFrame)
    (h : Twin n m s t) :
    Twin n m (channelSlotEnd number owner label payload f s) (channelSlotEnd number owner label payload f t) := by
  have counted := countWrongSlot_twin owner label payload f h
  obtain ⟨l, rfl⟩ := h.exists_eq
  unfold channelSlotEnd
  dsimp only
  cases channelOfLabel label 0 s.channels with
  | none => exact counted
  | some pc => exact evaluateChannel_twin number _ _ _ counted

/-! ### The schedule unit -/

theorem makeSwitch_twin (epoch : Half) (length : Nat) (entries : List Entry) (number : Word) (mode : SwitchMode)
    (h : Twin n m s t) :
    Twin n m (makeSwitch epoch length entries number mode s) (makeSwitch epoch length entries number mode t) :=
  reresolveAll_twin (giveNotice_twin _ (h.update (fun s => { s with sched := { s.sched with
    active := { epoch := epoch, cycleLength := some length, entries := entries }, staged := .empty,
    lastSwitch := some { epoch := epoch, cycle := number }, adoption := false, takeUp := mode.takeUp } }) fun _ => rfl))

theorem dropAdoption_twin (h : Twin n m s t) : Twin n m (dropAdoption s) (dropAdoption t) := h.update _ fun _ => rfl

theorem switchBank_twin (number : Word) (h : Twin n m s t) : Twin n m (switchBank number s) (switchBank number t) := by
  obtain ⟨l, rfl⟩ := h.exists_eq
  unfold switchBank
  dsimp only
  cases s.sched.staged with
  | empty => exact dropAdoption_twin h
  | editing length entries => exact dropAdoption_twin h
  | closed epoch length entries =>
    dsimp only
    split_ifs
    · exact makeSwitch_twin epoch length entries number .late h
    · exact dropAdoption_twin h
  | armed epoch length entries cycle =>
    dsimp only
    split_ifs
    · exact makeSwitch_twin epoch length entries number .onTime h
    · exact dropAdoption_twin h

theorem scheduleCycleStart_twin (number : Word) (h : Twin n m s t) :
    Twin n m (scheduleCycleStart number s) (scheduleCycleStart number t) :=
  switchBank_twin number (h.update (fun s => s.withTakeUp s.sched.takeUp.begins) fun _ => rfl)

theorem armBank_twin (epoch : Half) (length : Nat) (entries : List Entry) (cycle : Word) (source : ArmSource)
    (h : Twin n m s t) :
    Twin n m (armBank epoch length entries cycle source s) (armBank epoch length entries cycle source t) :=
  giveNotice_twin _ (h.update (fun s => { s with sched := { s.sched with
    staged := .armed epoch length entries cycle, unready := none, adoption := false } }) fun _ => rfl)

theorem withStaged_twin (g : Staged) (h : Twin n m s t) : Twin n m (s.withStaged g) (t.withStaged g) :=
  h.update (fun s => s.withStaged g) fun _ => rfl

theorem withdraw_twin (epoch : Half) (length : Nat) (entries : List Entry) (cycle : Word) (reason : WithdrawReason)
    (h : Twin n m s t) :
    Twin n m (withdraw epoch length entries cycle reason s) (withdraw epoch length entries cycle reason t) :=
  giveNotice_twin _ (withStaged_twin _ h)

theorem unreadyOnce_twin (epoch : Half) (cycle : Word) (own : Option Half) (h : Twin n m s t) :
    Twin n m (unreadyOnce epoch cycle own s) (unreadyOnce epoch cycle own t) := by
  obtain ⟨l, rfl⟩ := h.exists_eq
  unfold unreadyOnce
  split_ifs
  · exact h
  · exact giveNotice_twin _ (h.update (fun s => { s with sched := { s.sched with
      unready := some { epoch := epoch, cycle := cycle } } }) fun _ => rfl)

theorem disarmUnready_twin (epoch : Half) (cycle : Word) (own : Half) (length : Nat) (entries : List Entry)
    (h : Twin n m s t) :
    Twin n m (disarmUnready epoch cycle own length entries s) (disarmUnready epoch cycle own length entries t) :=
  giveNotice_twin _ (h.update (fun s => { s with sched := { s.sched with
    staged := .closed own length entries, unready := some { epoch := epoch, cycle := cycle } } }) fun _ => rfl)

theorem announced_twin (epoch : Half) (cycle : Word) (h : Twin n m s t) :
    Twin n m (announced epoch cycle s) (announced epoch cycle t) := by
  obtain ⟨l, rfl⟩ := h.exists_eq
  unfold announced
  dsimp only
  cases s.sched.staged with
  | empty => exact unreadyOnce_twin epoch cycle none h
  | editing length entries => exact unreadyOnce_twin epoch cycle none h
  | closed own length entries =>
    dsimp only
    split_ifs
    · exact armBank_twin own length entries cycle .announcement h
    · exact unreadyOnce_twin epoch cycle (some own) h
  | armed own length entries c =>
    dsimp only
    split_ifs
    · exact disarmUnready_twin epoch cycle own length entries h
    · exact h
    · exact giveNotice_twin _ (withStaged_twin _ h)

theorem clearUnready_twin (h : Twin n m s t) : Twin n m (clearUnready s) (clearUnready t) := h.update _ fun _ => rfl

theorem notAnnounced_twin (h : Twin n m s t) : Twin n m (notAnnounced s) (notAnnounced t) := by
  have cleared := clearUnready_twin h
  obtain ⟨l, rfl⟩ := h.exists_eq
  unfold notAnnounced
  dsimp only
  cases s.sched.staged with
  | armed epoch length entries cycle => exact withdraw_twin epoch length entries cycle .notAnnounced cleared
  | empty => exact cleared
  | editing length entries => exact cleared
  | closed epoch length entries => exact cleared

theorem scheduleAccepts_twin (f : CycleStartFrame) (h : Twin n m s t) :
    Twin n m (scheduleAccepts f s) (scheduleAccepts f t) := by
  have evaluated : Twin n m (evaluateAnnouncement f s) (evaluateAnnouncement f t) := by
    unfold evaluateAnnouncement
    split_ifs
    · exact announced_twin _ _ h
    · exact notAnnounced_twin h
  unfold scheduleAccepts
  generalize evaluateAnnouncement f s = u at *
  generalize evaluateAnnouncement f t = v at *
  obtain ⟨l, rfl⟩ := evaluated.exists_eq
  have read : adoptionTest { u with notices := l } f = adoptionTest u f := rfl
  unfold markAdoption
  rw [read]
  split_ifs
  · exact evaluated.update (fun s => { s with sched := { s.sched with adoption := true } }) fun _ => rfl
  · exact evaluated

theorem scheduleDepart_twin (d : Destination) (h : Twin n m s t) :
    Twin n m (scheduleDepart d s) (scheduleDepart d t) := by
  have cleared := h.update clearMarks fun _ => rfl
  obtain ⟨l, rfl⟩ := h.exists_eq
  unfold scheduleDepart
  dsimp only
  cases s.sched.staged with
  | armed epoch length entries cycle => exact withdraw_twin epoch length entries cycle _ cleared
  | empty => exact cleared
  | editing length entries => exact cleared
  | closed epoch length entries => exact cleared

/-! ### The cycle unit -/

theorem atInstant_twin (w : Word) (h : Twin n m s t) : Twin n m (s.atInstant w) (t.atInstant w) :=
  h.update (State.atInstant w) fun _ => rfl

theorem withCycle_twin (c : CycleUnit) (h : Twin n m s t) : Twin n m (s.withCycle c) (t.withCycle c) :=
  h.update (fun s => s.withCycle c) fun _ => rfl

theorem Twin.cycle_eq (h : Twin n m s t) : t.cycle = s.cycle := by
  obtain ⟨l, rfl⟩ := h.exists_eq
  rfl

theorem endWalk_twin (h : Twin n m s t) : Twin n m (endWalk s) (endWalk t) := h.update _ fun _ => rfl

theorem depart_twin (d : Destination) (own : List NoticeBody) (run : Option CandidateRun) (h : Twin n m s t) :
    Twin n m (depart d own run s) (depart d own run t) := by
  have told := giveNotices_twin own ((endWalk_twin h).update (leaveCycle d) fun _ => rfl)
  have settled := told.update (settleCycle d run) fun _ => by cases d <;> rfl
  exact receiveDepart_twin _ (transmitDepart_twin _ (channelDepart_twin (scheduleDepart_twin d settled)))

theorem fixLength_twin (h : Twin n m s t) : Twin n m (fixLength s) (fixLength t) :=
  h.update fixLength fun k => by
    unfold fixLength
    split_ifs <;> rfl

theorem sendCycleStart_twin (h : Twin n m s t) : Twin n m (sendCycleStart s) (sendCycleStart t) :=
  h.update sendCycleStart fun k => by
    unfold sendCycleStart
    dsimp only
    split <;> rfl

theorem advanceQuiet_twin (h : Twin n m s t) : Twin n m (advanceQuiet s) (advanceQuiet t) :=
  h.update advanceQuiet fun k => by
    unfold advanceQuiet
    split_ifs <;> rfl

theorem signalCycleStart_twin (number : Word) (h : Twin n m s t) :
    Twin n m (signalCycleStart number s) (signalCycleStart number t) :=
  receiveCycleStart_twin (transmitCycleStart_twin (channelCycleStart_twin (fixLength_twin
    (scheduleCycleStart_twin number h))))

theorem beginCycle_twin (c : CycleNow) (h : Twin n m s t) : Twin n m (beginCycle c s) (beginCycle c t) :=
  sendCycleStart_twin (signalCycleStart_twin _ (advanceQuiet_twin
    (h.update (fun s => takeUpCycle ((s.withCycle { s.cycle with now := some c }).atInstant c.origin)) fun _ => rfl)))

theorem acceptFields_twin (f : CycleStartFrame) (h : Twin n m s t) :
    Twin n m (acceptFields f s) (acceptFields f t) := by
  refine scheduleAccepts_twin f ?_
  obtain ⟨l, rfl⟩ := h.exists_eq
  have read : scheduleMatches f { s with notices := l } = scheduleMatches f s := rfl
  unfold evaluateListenOnly
  rw [read]
  split_ifs
  · exact giveNotice_twin _ (h.update clearListenOnly fun _ => rfl)
  · exact h
  · exact h
  · exact giveNotice_twin _ (withCycle_twin _ h)

theorem claimExpires_twin (r : ClaimRecord) (h : Twin n m s t) : Twin n m (claimExpires r s) (claimExpires r t) := by
  obtain ⟨l, rfl⟩ := h.exists_eq
  exact beginCycle_twin _ (giveNotice_twin _ (withCycle_twin _ h))

theorem yieldTo_twin (f : CycleStartFrame) (stamp : Word) (h : Twin n m s t) :
    Twin n m (yieldTo f stamp s) (yieldTo f stamp t) := by
  obtain ⟨l, rfl⟩ := h.exists_eq
  exact depart_twin _ _ _ (withCycle_twin _ h)

theorem claimFrame_twin (f : CycleStartFrame) (stamp : Word) (h : Twin n m s t) :
    Twin n m (claimFrame f stamp s) (claimFrame f stamp t) := by
  obtain ⟨l, rfl⟩ := h.exists_eq
  unfold claimFrame
  split_ifs
  · exact yieldTo_twin f stamp h
  · exact withCycle_twin _ h

theorem leadFrame_twin (f : CycleStartFrame) (stamp : Word) (h : Twin n m s t) :
    Twin n m (leadFrame f stamp s) (leadFrame f stamp t) := by
  obtain ⟨l, rfl⟩ := h.exists_eq
  unfold leadFrame
  split_ifs
  · exact yieldTo_twin f stamp h
  · exact giveNotices_twin _ (withCycle_twin _ h)

theorem lockOn_twin (r : CandidateRun) (f : CycleStartFrame) (stamp : Word) (h : Twin n m s t) :
    Twin n m (lockOn r f stamp s) (lockOn r f stamp t) := by
  obtain ⟨l, rfl⟩ := h.exists_eq
  exact acceptFields_twin f (signalCycleStart_twin _ (endWalk_twin (giveNotice_twin _ (withCycle_twin _ h))))

theorem huntFrame_twin (f : CycleStartFrame) (stamp : Word) (h : Twin n m s t) :
    Twin n m (huntFrame f stamp s) (huntFrame f stamp t) := by
  obtain ⟨l, rfl⟩ := h.exists_eq
  unfold huntFrame
  dsimp only
  cases s.cycle.run with
  | none => exact withCycle_twin _ h
  | some r =>
    dsimp only
    split_ifs
    · exact lockOn_twin r f stamp h
    · exact withCycle_twin _ h

theorem jump_twin (reason : JumpReason) (f : CycleStartFrame) (stamp : Word) (h : Twin n m s t) :
    Twin n m (jump reason f stamp s) (jump reason f stamp t) :=
  depart_twin _ _ _ h

theorem missCycleStart_twin (c : CycleNow) (h : Twin n m s t) :
    Twin n m (missCycleStart c s) (missCycleStart c t) := by
  obtain ⟨l, rfl⟩ := h.exists_eq
  unfold missCycleStart giveUpCycle
  dsimp only [withCycle_cycle]
  split_ifs
  · cases s.cycle.role with
    | member => exact depart_twin _ _ _ (withCycle_twin _ h)
    | master => exact giveNotice_twin _ (withCycle_twin _ (withCycle_twin _ h))
  · exact withCycle_twin _ h

theorem windowGood_twin (c : CycleNow) (f : CycleStartFrame) (stamp : Word) (h : Twin n m s t) :
    Twin n m (windowGood c f stamp s) (windowGood c f stamp t) := by
  unfold windowGood
  split_ifs
  · exact missCycleStart_twin c h
  · exact acceptFields_twin f (h.update (fun s => { s with
      cycle := s.cycle.accepts c f stamp,
      trunk := { s.trunk with earlyWalk := judgedBefore s.sched.active.entries c stamp } }) fun _ => rfl)
  · exact jump_twin .number f stamp h

theorem unexpectedFrame_twin (f : CycleStartFrame) (stamp : Word) (h : Twin n m s t) :
    Twin n m (unexpectedFrame f stamp s) (unexpectedFrame f stamp t) := by
  unfold unexpectedFrame
  rw [h.cycle_eq]
  split_ifs
  · exact h
  · cases s.cycle.timing with
    | offline => exact h
    | claiming => exact claimFrame_twin f stamp h
    | leading => exact leadFrame_twin f stamp h
    | hunting => exact huntFrame_twin f stamp h
    | locked => exact jump_twin .phase f stamp h
    | holdover => exact jump_twin .phase f stamp h

theorem settleWindow_twin (h : Twin n m s t) : Twin n m (settleWindow s) (settleWindow t) := h.update _ fun _ => rfl

theorem windowAbsent_twin (c : CycleNow) (h : Twin n m s t) : Twin n m (windowAbsent c s) (windowAbsent c t) :=
  missCycleStart_twin c (settleWindow_twin (atInstant_twin _ h))

/-! ### The trunk interface -/

/-- What an operation reads of a state is the same with another notice unit. -/
theorem entryAt_notices (s : State) (k : NoticeUnit) (c : CycleNow) (pos : Int) :
    entryAt { s with notices := k } c pos = entryAt s c pos := rfl

theorem slotTaken_notices (s : State) (k : NoticeUnit) (start : Nat) (stamp : Word) :
    slotTaken { s with notices := k } start stamp = slotTaken s start stamp := rfl

theorem lateSlotOf_notices (s : State) (k : NoticeUnit) (stamp : Word) :
    lateSlotOf { s with notices := k } stamp = lateSlotOf s stamp := rfl

theorem countCrc_twin (h : Twin n m s t) : Twin n m (countCrc s) (countCrc t) := h.update _ fun _ => rfl

theorem countMalformed_twin (h : Twin n m s t) : Twin n m (countMalformed s) (countMalformed t) := h.update _ fun _ => rfl

theorem countStray_twin (h : Twin n m s t) : Twin n m (countStray s) (countStray t) := h.update _ fun _ => rfl

theorem takeSlot_twin (start : Nat) (held : Option CyclicFrame) (h : Twin n m s t) :
    Twin n m (takeSlot start held s) (takeSlot start held t) :=
  h.update _ fun _ => rfl

theorem takeLate_twin (x : LateSlot) (held : Option CyclicFrame) (h : Twin n m s t) :
    Twin n m (takeLate x held s) (takeLate x held t) :=
  h.update _ fun _ => rfl

theorem noteSlotFrame_twin (c : CycleNow) (stamp : Word) (h : Twin n m s t) :
    Twin n m (noteSlotFrame c stamp s) (noteSlotFrame c stamp t) := by
  obtain ⟨l, rfl⟩ := h.exists_eq
  unfold noteSlotFrame
  rw [entryAt_notices s l]
  cases entryAt s c (offsetFrom c.origin stamp) with
  | none => exact h
  | some e =>
    dsimp only
    rw [slotTaken_notices s l]
    split_ifs
    · exact h
    · exact takeSlot_twin _ _ h

theorem cyclicFrameAt_twin (c : CycleNow) (stamp : Word) (f : CyclicFrame) (h : Twin n m s t) :
    Twin n m (cyclicFrameAt c stamp f s) (cyclicFrameAt c stamp f t) := by
  obtain ⟨l, rfl⟩ := h.exists_eq
  unfold cyclicFrameAt
  rw [entryAt_notices s l]
  cases entryAt s c (offsetFrom c.origin stamp) with
  | none => exact countStray_twin h
  | some e =>
    dsimp only
    rw [slotTaken_notices s l]
    split_ifs
    · exact countStray_twin h
    · cases e.slot with
      | cyclic _ _ _ _ => exact takeSlot_twin _ _ h
      | openSlot _ => exact countStray_twin (takeSlot_twin _ _ h)

theorem segmentFrameAt_twin (c : CycleNow) (stamp : Word) (f : SegmentFrame) (h : Twin n m s t) :
    Twin n m (segmentFrameAt c stamp f s) (segmentFrameAt c stamp f t) := by
  obtain ⟨l, rfl⟩ := h.exists_eq
  unfold segmentFrameAt
  rw [entryAt_notices s l]
  cases entryAt s c (offsetFrom c.origin stamp) with
  | none => exact countStray_twin h
  | some e =>
    dsimp only
    rw [slotTaken_notices s l]
    split_ifs
    · exact countStray_twin h
    · cases e.slot with
      | cyclic _ _ _ _ => exact countStray_twin (takeSlot_twin _ _ h)
      | openSlot _ => exact receiveSegment_twin _ f (takeSlot_twin _ _ h)

theorem windowFrame_twin (c : CycleNow) (stamp : Word) (j : Judgement) (h : Twin n m s t) :
    Twin n m (windowFrame c stamp j s) (windowFrame c stamp j t) := by
  unfold windowFrame
  split
  · exact missCycleStart_twin c (settleWindow_twin (countMalformed_twin h))
  · exact missCycleStart_twin c (settleWindow_twin (countCrc_twin h))
  · exact windowGood_twin c _ stamp (settleWindow_twin h)
  · exact missCycleStart_twin c (settleWindow_twin (countStray_twin h))
  · exact missCycleStart_twin c (settleWindow_twin (countStray_twin h))

theorem cycleFrame_twin (c : CycleNow) (stamp : Word) (j : Judgement) (h : Twin n m s t) :
    Twin n m (cycleFrame c stamp j s) (cycleFrame c stamp j t) := by
  unfold cycleFrame
  split
  · exact noteSlotFrame_twin c stamp (countMalformed_twin h)
  · exact noteSlotFrame_twin c stamp (countCrc_twin h)
  · exact unexpectedFrame_twin _ stamp (noteSlotFrame_twin c stamp h)
  · exact cyclicFrameAt_twin c stamp _ h
  · exact segmentFrameAt_twin c stamp _ h

theorem lateFrame_twin (x : LateSlot) (stamp : Word) (j : Judgement) (h : Twin n m s t) :
    Twin n m (lateFrame x stamp j s) (lateFrame x stamp j t) := by
  unfold lateFrame
  split
  · exact takeLate_twin x none (countMalformed_twin h)
  · exact takeLate_twin x none (countCrc_twin h)
  · exact unexpectedFrame_twin _ stamp (takeLate_twin x none h)
  · exact takeLate_twin x _ h
  · exact takeLate_twin x none (countStray_twin h)

theorem placelessFrame_twin (stamp : Word) (j : Judgement) (h : Twin n m s t) :
    Twin n m (placelessFrame stamp j s) (placelessFrame stamp j t) := by
  unfold placelessFrame
  split
  · exact countMalformed_twin h
  · exact countCrc_twin h
  · exact unexpectedFrame_twin _ stamp h
  · exact h
  · exact h

theorem placedFrame_twin (c : CycleNow) (stamp : Word) (j : Judgement) (h : Twin n m s t) :
    Twin n m (placedFrame c stamp j s) (placedFrame c stamp j t) := by
  obtain ⟨l, rfl⟩ := h.exists_eq
  have read : ({ s with notices := l } : State).openWindow = s.openWindow := rfl
  unfold placedFrame
  rw [lateSlotOf_notices s l, read]
  split_ifs
  · exact windowFrame_twin c stamp j h
  · cases lateSlotOf s stamp with
    | none => exact cycleFrame_twin c stamp j h
    | some x => exact lateFrame_twin x stamp j h

theorem handFrame_twin (stamp : Word) (j : Judgement) (h : Twin n m s t) :
    Twin n m (handFrame stamp j s) (handFrame stamp j t) := by
  have placed : ∀ now : Option CycleNow, Twin n m
      (match now with
        | some c => placedFrame c stamp j s
        | none => s)
      (match now with
        | some c => placedFrame c stamp j t
        | none => t) := by
    rintro (_ | c)
    · exact h
    · exact placedFrame_twin c stamp j h
  unfold handFrame
  rw [h.cycle_eq]
  cases s.cycle.timing with
  | offline => exact h
  | claiming => exact placelessFrame_twin stamp j h
  | hunting => exact placelessFrame_twin stamp j h
  | leading => exact placed s.cycle.now
  | locked => exact placed s.cycle.now
  | holdover => exact placed s.cycle.now

theorem endSegment_twin (h : Twin n m s t) : Twin n m (endSegment s) (endSegment t) := h.update _ fun _ => rfl

theorem segmentOutcome_twin (result : SegmentOutcome) (h : Twin n m s t) :
    Twin n m (segmentOutcome result s) (segmentOutcome result t) :=
  endSegment_twin (handOutcome_twin result h)

theorem countDisturbed_twin (h : Twin n m s t) : Twin n m (countDisturbed s) (countDisturbed t) :=
  h.update countDisturbed fun k => by
    unfold countDisturbed
    split_ifs <;> rfl

theorem endFrame_twin (h : Twin n m s t) : Twin n m (endFrame s) (endFrame t) := h.update _ fun _ => rfl

end

end Sys2Proof.Machine
end

section
/-! PROOFS. R150: twins under every command. Settles O15. -/

namespace Sys2Proof.Machine

set_option Elab.async false

/-! ### Requests, whatever the notice unit holds -/

section
variable {n m : NoticeUnit} {s t : State}

/-- The outcomes of a request at two twins: the same reply, and twins again. -/
def TwinReply (n m : NoticeUnit) (a b : Reply × State) : Prop := a.1 = b.1 ∧ Twin n m a.2 b.2

/-- A state that has the notice unit of the first twin is a twin of itself with that of the second. -/
theorem Twin.leaf {k : NoticeUnit} (h : Twin n m s { s with notices := k }) {u : State} (same : u.notices = s.notices) :
    Twin n m u { u with notices := k } := by
  obtain ⟨acts, hs, ht⟩ := h
  exact ⟨acts, same.trans hs, by rw [show k = acts.foldl NoticeAct.apply m from congrArg State.notices ht]⟩

theorem setNodeRequest_twin (body : List Byte) (h : Twin n m s t) :
    TwinReply n m (setNodeRequest body s) (setNodeRequest body t) := by
  obtain ⟨l, rfl⟩ := h.exists_eq
  have read : ({ s with notices := l } : State).online = s.online := rfl
  unfold setNodeRequest
  dsimp only
  rw [read]
  split_ifs
  · exact ⟨rfl, h⟩
  · exact ⟨rfl, h⟩
  · cases roleOf (byteAt body 1) with
    | none => exact ⟨rfl, h⟩
    | some role => exact ⟨rfl, h.leaf rfl⟩

theorem setCycleRequest_twin (body : List Byte) (h : Twin n m s t) :
    TwinReply n m (setCycleRequest body s) (setCycleRequest body t) := by
  obtain ⟨l, rfl⟩ := h.exists_eq
  unfold setCycleRequest
  split_ifs
  · exact ⟨rfl, h.leaf rfl⟩
  · exact ⟨rfl, h⟩

theorem goOnlineRequest_twin (body : List Byte) (h : Twin n m s t) :
    TwinReply n m (goOnlineRequest body s) (goOnlineRequest body t) := by
  obtain ⟨l, rfl⟩ := h.exists_eq
  have read : ({ s with notices := l } : State).online = s.online := rfl
  unfold goOnlineRequest
  dsimp only
  rw [read]
  split_ifs
  · exact ⟨rfl, h⟩
  · exact ⟨rfl, h.leaf rfl⟩

theorem goOfflineRequest_twin (body : List Byte) (h : Twin n m s t) :
    TwinReply n m (goOfflineRequest body s) (goOfflineRequest body t) := by
  have deferred := h.update deferOffline fun k => by
    unfold deferOffline
    split_ifs <;> rfl
  refine ⟨rfl, ?_⟩
  obtain ⟨l, rfl⟩ := h.exists_eq
  have read : ({ s with notices := l } : State).online = s.online := rfl
  unfold goOfflineRequest
  dsimp only
  rw [read]
  split_ifs
  · exact depart_twin .offline [] none deferred
  · exact h

theorem resetNodeRequest_twin (body : List Byte) (h : Twin n m s t) :
    TwinReply n m (resetNodeRequest body s) (resetNodeRequest body t) :=
  ⟨rfl, h.act nodeReset (.reset .request) fun _ => rfl⟩

theorem stageBeginRequest_twin (body : List Byte) (h : Twin n m s t) :
    TwinReply n m (stageBeginRequest body s) (stageBeginRequest body t) := by
  obtain ⟨l, rfl⟩ := h.exists_eq
  unfold stageBeginRequest
  dsimp only
  cases s.sched.staged with
  | armed epoch length entries cycle => exact ⟨rfl, h⟩
  | _ =>
    dsimp only
    split_ifs
    · exact ⟨rfl, h⟩
    · exact ⟨rfl, h.leaf rfl⟩

theorem stageAddRequest_twin (body : List Byte) (h : Twin n m s t) :
    TwinReply n m (stageAddRequest body s) (stageAddRequest body t) := by
  obtain ⟨l, rfl⟩ := h.exists_eq
  unfold stageAddRequest
  dsimp only
  cases s.sched.staged with
  | editing length entries =>
    dsimp only
    split_ifs
    · exact ⟨rfl, h⟩
    · exact ⟨rfl, h⟩
    · cases addEntries length 1 entries (rawEntries body (byteAt body 0).toNat) with
      | error fault => exact ⟨rfl, h⟩
      | ok bank => exact ⟨rfl, h.leaf rfl⟩
  | _ => exact ⟨rfl, h⟩

theorem stageRemoveRequest_twin (body : List Byte) (h : Twin n m s t) :
    TwinReply n m (stageRemoveRequest body s) (stageRemoveRequest body t) := by
  obtain ⟨l, rfl⟩ := h.exists_eq
  unfold stageRemoveRequest
  dsimp only
  cases s.sched.staged with
  | editing length entries =>
    dsimp only
    split_ifs
    · exact ⟨rfl, h.leaf rfl⟩
    · exact ⟨rfl, h⟩
  | _ => exact ⟨rfl, h⟩

theorem stageCloseRequest_twin (body : List Byte) (h : Twin n m s t) :
    TwinReply n m (stageCloseRequest body s) (stageCloseRequest body t) := by
  obtain ⟨l, rfl⟩ := h.exists_eq
  unfold stageCloseRequest
  dsimp only
  cases s.sched.staged with
  | editing length entries =>
    dsimp only
    cases closeFault [] entries with
    | some fault => exact ⟨rfl, h⟩
    | none =>
      dsimp only
      split_ifs
      · exact ⟨rfl, h⟩
      · exact ⟨rfl, h.leaf rfl⟩
  | _ => exact ⟨rfl, h⟩

theorem stageDiscardRequest_twin (body : List Byte) (h : Twin n m s t) :
    TwinReply n m (stageDiscardRequest body s) (stageDiscardRequest body t) := by
  obtain ⟨l, rfl⟩ := h.exists_eq
  unfold stageDiscardRequest
  dsimp only
  cases s.sched.staged with
  | armed epoch length entries cycle => exact ⟨rfl, h⟩
  | _ => exact ⟨rfl, h.leaf rfl⟩

theorem commitRequest_twin (body : List Byte) (h : Twin n m s t) :
    TwinReply n m (commitRequest body s) (commitRequest body t) := by
  obtain ⟨l, rfl⟩ := h.exists_eq
  have read : ({ s with notices := l } : State).leadingNumber = s.leadingNumber := rfl
  unfold commitRequest
  rw [read]
  cases s.leadingNumber with
  | none => exact ⟨rfl, h⟩
  | some number =>
    dsimp only
    cases s.sched.staged with
    | closed epoch length entries =>
      dsimp only
      split_ifs
      · exact ⟨rfl, h⟩
      · exact ⟨rfl, armBank_twin epoch length entries _ .commit h⟩
    | _ => exact ⟨rfl, h⟩

theorem cancelRequest_twin (body : List Byte) (h : Twin n m s t) :
    TwinReply n m (cancelRequest body s) (cancelRequest body t) := by
  obtain ⟨l, rfl⟩ := h.exists_eq
  have read : ({ s with notices := l } : State).leadingNumber = s.leadingNumber := rfl
  unfold cancelRequest
  rw [read]
  cases s.leadingNumber with
  | none => exact ⟨rfl, h⟩
  | some number =>
    dsimp only
    cases s.sched.staged with
    | armed epoch length entries cycle => exact ⟨rfl, withdraw_twin epoch length entries cycle .cancel h⟩
    | _ => exact ⟨rfl, h⟩

theorem bindRequest_twin (body : List Byte) (h : Twin n m s t) :
    TwinReply n m (bindRequest body s) (bindRequest body t) := by
  obtain ⟨l, rfl⟩ := h.exists_eq
  unfold bindRequest
  dsimp only [State.channel]
  rcases s.channels[(byteAt body 0).toNat]? with _ | _ | c
  · exact ⟨rfl, h⟩
  · dsimp only
    cases bindFields body with
    | none => exact ⟨rfl, h⟩
    | some d =>
      dsimp only
      split_ifs
      · exact ⟨rfl, h⟩
      · exact ⟨rfl, h.leaf rfl⟩
  · exact ⟨rfl, h⟩

theorem unbindRequest_twin (body : List Byte) (h : Twin n m s t) :
    TwinReply n m (unbindRequest body s) (unbindRequest body t) := by
  obtain ⟨l, rfl⟩ := h.exists_eq
  unfold unbindRequest
  dsimp only [State.channel]
  rcases s.channels[(byteAt body 0).toNat]? with _ | _ | c
  · exact ⟨rfl, h⟩
  · exact ⟨rfl, h⟩
  · exact ⟨rfl, h.leaf rfl⟩

theorem writeRequest_twin (body : List Byte) (h : Twin n m s t) :
    TwinReply n m (writeRequest body s) (writeRequest body t) := by
  obtain ⟨l, rfl⟩ := h.exists_eq
  unfold writeRequest
  dsimp only [State.channel]
  rcases s.channels[(byteAt body 0).toNat]? with _ | _ | c
  · exact ⟨rfl, h⟩
  · exact ⟨rfl, h⟩
  · dsimp only
    cases c.direction with
    | consume d => exact ⟨rfl, h⟩
    | produce age =>
      dsimp only
      split_ifs
      · exact ⟨rfl, h⟩
      · exact ⟨rfl, h.leaf rfl⟩

theorem refuseNoRoom_twin (h : Twin n m s t) : TwinReply n m (refuseNoRoom s) (refuseNoRoom t) := by
  obtain ⟨l, rfl⟩ := h.exists_eq
  exact ⟨rfl, h.leaf rfl⟩

theorem sendRequest_twin (body : List Byte) (h : Twin n m s t) :
    TwinReply n m (sendRequest body s) (sendRequest body t) := by
  obtain ⟨l, rfl⟩ := h.exists_eq
  unfold sendRequest
  dsimp only
  split_ifs
  · exact ⟨rfl, h⟩
  · exact ⟨rfl, h⟩
  · exact ⟨rfl, h⟩
  · exact ⟨rfl, h⟩
  · exact ⟨rfl, h⟩
  · exact refuseNoRoom_twin h
  · exact ⟨rfl, h.leaf rfl⟩

theorem pieceRequest_twin (body : List Byte) (h : Twin n m s t) :
    TwinReply n m (pieceRequest body s) (pieceRequest body t) := by
  obtain ⟨l, rfl⟩ := h.exists_eq
  unfold pieceRequest
  dsimp only
  cases messageOf s.tx.queue (byteAt body 0) with
  | none => exact ⟨rfl, h⟩
  | some x =>
    dsimp only
    split_ifs
    · exact ⟨rfl, h⟩
    · exact ⟨rfl, h⟩
    · exact ⟨rfl, h⟩
    · exact refuseNoRoom_twin h
    · exact ⟨rfl, h.leaf rfl⟩

theorem abortRequest_twin (body : List Byte) (h : Twin n m s t) :
    TwinReply n m (abortRequest body s) (abortRequest body t) := by
  obtain ⟨l, rfl⟩ := h.exists_eq
  unfold abortRequest
  dsimp only
  cases messageOf s.tx.queue (byteAt body 0) with
  | none => exact ⟨rfl, h⟩
  | some x =>
    dsimp only
    cases x.state with
    | waiting => exact ⟨rfl, removeWaiting_twin x h⟩
    | inFlight r => exact ⟨rfl, abortInFlight_twin x r h⟩
    | aborting r reason k => exact ⟨rfl, h⟩

theorem setGroupsRequest_twin (body : List Byte) (h : Twin n m s t) :
    TwinReply n m (setGroupsRequest body s) (setGroupsRequest body t) := by
  obtain ⟨l, rfl⟩ := h.exists_eq
  unfold setGroupsRequest
  split_ifs
  · exact ⟨rfl, h⟩
  · cases groupFault [] 1 (body.drop 1) with
    | some place => exact ⟨rfl, h⟩
    | none => exact ⟨rfl, h.leaf rfl⟩

theorem releaseRequest_twin (body : List Byte) (h : Twin n m s t) :
    TwinReply n m (releaseRequest body s) (releaseRequest body t) := by
  obtain ⟨l, rfl⟩ := h.exists_eq
  unfold releaseRequest
  dsimp only
  cases arrivalWith s.rx.queue (byteAt body 0) with
  | none => exact ⟨rfl, h⟩
  | some a => exact ⟨rfl, h.leaf rfl⟩

theorem noticeMaskRequest_twin (body : List Byte) (h : Twin n m s t) :
    TwinReply n m (noticeMaskRequest body s) (noticeMaskRequest body t) := by
  unfold noticeMaskRequest
  split_ifs
  · exact ⟨rfl, h⟩
  · cases firstFailing (fun c => (maskableOf c).isSome) 1 (body.drop 1) with
    | some place => exact ⟨rfl, h⟩
    | none =>
      exact ⟨rfl, h.act (fun s => { s with notices := { s.notices with disabled := disabledBy (body.drop 1) } })
        (.mask (body.drop 1)) fun _ => rfl⟩

theorem readCountsRequest_twin (body : List Byte) (h : Twin n m s t) :
    TwinReply n m (readCountsRequest body s) (readCountsRequest body t) := by
  obtain ⟨l, rfl⟩ := h.exists_eq
  unfold readCountsRequest
  split_ifs
  · exact ⟨rfl, h⟩
  · exact ⟨rfl, h.leaf rfl⟩
  · exact ⟨rfl, h⟩

/-- A handler that changes nothing answers twins the same when its reply does not read the notice unit. -/
theorem readingHandler_twin {run : Handler} {body : List Byte} (h : Twin n m s t) (keeps : ∀ s, (run body s).2 = s)
    (reads : ∀ k, (run body { s with notices := k }).1 = (run body s).1) :
    TwinReply n m (run body s) (run body t) := by
  obtain ⟨l, rfl⟩ := h.exists_eq
  refine ⟨(reads l).symm, ?_⟩
  rw [keeps, keeps]
  exact h

theorem readScheduleRequest_reads (body : List Byte) (s : State) (k : NoticeUnit) :
    (readScheduleRequest body { s with notices := k }).1 = (readScheduleRequest body s).1 := by
  unfold readScheduleRequest
  dsimp only
  split_ifs <;> rfl

theorem readRequest_reads (body : List Byte) (s : State) (k : NoticeUnit) :
    (readRequest body { s with notices := k }).1 = (readRequest body s).1 := by
  unfold readRequest
  dsimp only [State.channel]
  cases s.channels[(byteAt body 0).toNat]? <;> rfl

theorem readManyRequest_reads (body : List Byte) (s : State) (k : NoticeUnit) :
    (readManyRequest body { s with notices := k }).1 = (readManyRequest body s).1 := by
  have bound : (fun x => (({ s with notices := k } : State).channel x).isSome) = fun x => (s.channel x).isSome := rfl
  have fits : fitTotal { s with notices := k } (body.drop 1) = fitTotal s (body.drop 1) := rfl
  have records : recordOf { s with notices := k } = recordOf s := rfl
  unfold readManyRequest
  dsimp only
  rw [bound, fits, records]
  split_ifs
  · rfl
  · cases firstFailing (fun x => (s.channel x).isSome) 1 (body.drop 1) <;> rfl
  · cases firstFailing (fun x => (s.channel x).isSome) 1 (body.drop 1) <;> rfl

theorem readMessageRequest_reads (body : List Byte) (s : State) (k : NoticeUnit) :
    (readMessageRequest body { s with notices := k }).1 = (readMessageRequest body s).1 := by
  unfold readMessageRequest
  dsimp only
  cases arrivalWith s.rx.queue (byteAt body 0) with
  | none => rfl
  | some a =>
    dsimp only
    split_ifs <;> rfl

/-- R150: every request but ACK_NOTICES is answered the same whatever the notice unit holds. -/
theorem handler_twin {c : Instr} {run : Handler} (handler : requestHandler c = some run) (other : c ≠ .ackNotices)
    (body : List Byte) (h : Twin n m s t) : TwinReply n m (run body s) (run body t) := by
  cases c <;> cases handler
  case identify | readSync | readOutbound | readInbound =>
    exact readingHandler_twin h (fun _ => rfl) fun _ => rfl
  case readSchedule => exact readingHandler_twin h (readScheduleRequest_keeps body) (readScheduleRequest_reads body s)
  case readChannel => exact readingHandler_twin h (readRequest_keeps body) (readRequest_reads body s)
  case readChannels => exact readingHandler_twin h (readManyRequest_keeps body) (readManyRequest_reads body s)
  case readMessage => exact readingHandler_twin h (readMessageRequest_keeps body) (readMessageRequest_reads body s)
  case setNode => exact setNodeRequest_twin body h
  case setCycle => exact setCycleRequest_twin body h
  case goOnline => exact goOnlineRequest_twin body h
  case goOffline => exact goOfflineRequest_twin body h
  case resetNode => exact resetNodeRequest_twin body h
  case stageBegin => exact stageBeginRequest_twin body h
  case stageAdd => exact stageAddRequest_twin body h
  case stageRemove => exact stageRemoveRequest_twin body h
  case stageClose => exact stageCloseRequest_twin body h
  case stageDiscard => exact stageDiscardRequest_twin body h
  case commit => exact commitRequest_twin body h
  case cancel => exact cancelRequest_twin body h
  case bindChannel => exact bindRequest_twin body h
  case unbindChannel => exact unbindRequest_twin body h
  case writeChannel => exact writeRequest_twin body h
  case sendMessage => exact sendRequest_twin body h
  case messagePiece => exact pieceRequest_twin body h
  case abortMessage => exact abortRequest_twin body h
  case setGroups => exact setGroupsRequest_twin body h
  case releaseMessage => exact releaseRequest_twin body h
  case noticeMask => exact noticeMaskRequest_twin body h
  case readCounts => exact readCountsRequest_twin body h
  case ackNotices => exact absurd rfl other

/-! ### The events of the host link -/

theorem withLink_twin (l : HostLink) (h : Twin n m s t) : Twin n m (s.withLink l) (t.withLink l) :=
  h.update (fun s => s.withLink l) fun _ => rfl

theorem giveUpInbound_twin (h : Twin n m s t) : Twin n m (giveUpInbound s) (giveUpInbound t) := by
  obtain ⟨l, rfl⟩ := h.exists_eq
  unfold giveUpInbound
  split_ifs
  · exact h
  · exact giveNotice_twin _ (withLink_twin _ h)

theorem linkReset_twin (h : Twin n m s t) : Twin n m (linkReset s) (linkReset t) := by
  have discarded : Twin n m (discardInbound s) (discardInbound t) := giveUpInbound_twin h
  exact (discarded.update clearLink fun _ => rfl).act rewindNotices .rewind fun _ => rfl

theorem considerRequest_twin (tag code : Byte) (body : List Byte) (h : Twin n m s t) :
    Twin n m (considerRequest tag code body s) (considerRequest tag code body t) := by
  obtain ⟨l, rfl⟩ := h.exists_eq
  unfold considerRequest
  split_ifs
  · exact giveNotice_twin _ h
  · exact giveNotice_twin _ h
  · exact giveNotice_twin _ h
  · exact withLink_twin _ h

theorem judgeHostFrame_twin (frame : List Byte) (h : Twin n m s t) :
    Twin n m (judgeHostFrame frame s) (judgeHostFrame frame t) := by
  unfold judgeHostFrame
  split_ifs
  · exact giveNotice_twin _ h
  · exact giveNotice_twin _ h
  · exact considerRequest_twin _ _ _ h
  · exact giveNotice_twin _ h
  · exact linkReset_twin h
  · exact giveNotice_twin _ h

theorem hunt_twin (h : Twin n m s t) : Twin n m (hunt s) (hunt t) := h.update _ fun _ => rfl

theorem inboundByte_twin (frame : List Byte) (h : Twin n m s t) :
    Twin n m (inboundByte frame s) (inboundByte frame t) := by
  have held := h.update (holdInbound frame) fun _ => rfl
  unfold inboundByte
  split_ifs
  · exact held
  · exact giveNotice_twin _ (hunt_twin h)
  · exact held
  · exact judgeHostFrame_twin frame (hunt_twin h)

theorem receiveByte_twin (b : Byte) (h : Twin n m s t) : Twin n m (receiveByte s b) (receiveByte t b) := by
  obtain ⟨l, rfl⟩ := h.exists_eq
  unfold receiveByte
  split_ifs
  · exact h
  · exact h
  · exact inboundByte_twin _ h

theorem foldl_receiveByte_twin (bytes : List Byte) (h : Twin n m s t) :
    Twin n m (bytes.foldl receiveByte s) (bytes.foldl receiveByte t) := by
  induction bytes generalizing s t with
  | nil => exact h
  | cons b rest ih => exact ih (receiveByte_twin b h)

/-! ### O15 -/

/-- The outcomes of a command at two twins: the states left agree but for the notice unit and ATTN. -/
def Agree (n m : NoticeUnit) (a b : Result) : Prop :=
  ∃ u v, Twin n m u v ∧ (a = .next u ∨ a = .next u.setAttn) ∧ (b = .next v ∨ b = .next v.setAttn)

theorem finish_agree (h : Twin n m s t) : Agree n m (finish s) (finish t) := ⟨s, t, h, .inr rfl, .inr rfl⟩

theorem noEvent_agree (h : Twin n m s t) : Agree n m (noEvent s) (noEvent t) := ⟨s, t, h, .inl rfl, .inl rfl⟩

/-- A row that names what comes about inside another event, where the test does not read the notice unit. -/
theorem agree_ite {p q : Prop} [Decidable p] [Decidable q] (same : p ↔ q) {a b a' b' : Result} (yes : Agree n m a a')
    (no : Agree n m b b') : Agree n m (if p then a else b) (if q then a' else b') := by
  by_cases h : p
  · rwa [if_pos h, if_pos (same.1 h)]
  · rwa [if_neg h, if_neg (fun hq => h (same.2 hq))]

theorem takeRequest_agree {code : Byte} {run : Handler} (handled : ∀ body, TwinReply n m (run body s) (run body t))
    (h : Twin n m s t) : Agree n m (takeRequest code run s) (takeRequest code run t) := by
  obtain ⟨l, rfl⟩ := h.exists_eq
  unfold takeRequest
  dsimp only
  cases oldestAccepted s.link.buffer with
  | none => exact noEvent_agree h
  | some q =>
    dsimp only
    split_ifs
    · exact noEvent_agree h
    · obtain ⟨reply, twin⟩ := handled q.body
      rw [← reply]
      exact finish_agree (twin.update (State.answer _) fun _ => rfl)
    · exact finish_agree (h.update (State.answer _) fun _ => rfl)

theorem nextCycle_agree (h : Twin n m s t) : Agree n m (nextCycle s) (nextCycle t) := by
  obtain ⟨l, rfl⟩ := h.exists_eq
  have read : ({ s with notices := l } : State).current = s.current := rfl
  unfold nextCycle
  rw [read]
  cases s.current with
  | none => exact noEvent_agree h
  | some c => exact finish_agree (beginCycle_twin _ (h.update (keepLate c) fun _ => rfl))

theorem closeWindow_agree (h : Twin n m s t) : Agree n m (closeWindow s) (closeWindow t) := by
  obtain ⟨l, rfl⟩ := h.exists_eq
  have read : ({ s with notices := l } : State).pendingWindow = s.pendingWindow := rfl
  unfold closeWindow
  rw [read]
  cases s.pendingWindow with
  | none => exact noEvent_agree h
  | some c => exact finish_agree (windowAbsent_twin c h)

theorem receiveFrame_agree (stamp : Word) (bytes : List Byte) (h : Twin n m s t) :
    Agree n m (receiveFrame stamp bytes s) (receiveFrame stamp bytes t) := by
  have arrived := (atInstant_twin (readInstant stamp bytes) h).update heard fun _ => rfl
  obtain ⟨l, rfl⟩ := h.exists_eq
  exact agree_ite Iff.rfl (noEvent_agree h) (finish_agree (handFrame_twin stamp (judge bytes) arrived))

theorem cyclicSlotEnds_agree (start : Nat) (h : Twin n m s t) :
    Agree n m (cyclicSlotEnds start s) (cyclicSlotEnds start t) := by
  obtain ⟨l, rfl⟩ := h.exists_eq
  have read : ({ s with notices := l } : State).current = s.current := rfl
  unfold cyclicSlotEnds
  rw [read]
  cases s.current with
  | none => exact noEvent_agree h
  | some c =>
    have due : slotEndDue c start { s with notices := l } = slotEndDue c start s := rfl
    dsimp only
    rw [due]
    cases slotEndDue c start s with
    | none => exact noEvent_agree h
    | some e =>
      refine finish_agree (channelSlotEnd_twin _ _ _ _ _ ((atInstant_twin e.instant h).update (releaseSlot start) ?_))
      intro k
      have same : lateSlotDue start { s.atInstant e.instant with notices := k } =
          lateSlotDue start (s.atInstant e.instant) := rfl
      unfold releaseSlot
      rw [same]
      cases lateSlotDue start (s.atInstant e.instant) <;> rfl

theorem segmentBegun_twin (h : Twin n m s t) : Twin n m s.segmentBegun t.segmentBegun := by
  obtain ⟨l, rfl⟩ := h.exists_eq
  unfold State.segmentBegun
  dsimp only
  rcases s.trunk.segment.map OwnSegment.way with _ | since | since | since
  · exact h
  · exact atInstant_twin since h
  · exact h
  · exact h

theorem yieldSlot_twin (g : OwnSegment) (h : Twin n m s t) : Twin n m (yieldSlot g s) (yieldSlot g t) := by
  obtain ⟨l, rfl⟩ := h.exists_eq
  unfold yieldSlot
  cases g.way with
  | silent lostAt => exact atInstant_twin lostAt h
  | _ => exact h.leaf rfl

theorem segmentDisturbs_agree (h : Twin n m s t) : Agree n m (segmentDisturbs s) (segmentDisturbs t) := by
  have disturbed := segmentOutcome_twin .disturbed (countDisturbed_twin (segmentBegun_twin h))
  obtain ⟨l, rfl⟩ := h.exists_eq
  exact agree_ite Iff.rfl (finish_agree disturbed) (noEvent_agree h)

theorem badRequest_agree (h : Twin n m s t) : Agree n m (execBadRequest s) (execBadRequest t) := by
  obtain ⟨l, rfl⟩ := h.exists_eq
  unfold execBadRequest
  dsimp only
  cases oldestAccepted s.link.buffer with
  | none => exact noEvent_agree h
  | some q => exact agree_ite Iff.rfl (noEvent_agree h) (finish_agree (h.update (State.answer _) fun _ => rfl))

theorem inTransaction_twin (h : Twin n m s t) : Twin n m (inTransaction s) (inTransaction t) := h.update _ fun _ => rfl

theorem break_agree (h : Twin n m s t) : Agree n m (execBreak s) (execBreak t) := by
  have broken := (linkReset_twin h).update (fun s => s.withLink { s.link with breakLow := true }) fun _ => rfl
  obtain ⟨l, rfl⟩ := h.exists_eq
  exact agree_ite Iff.rfl (noEvent_agree h) (finish_agree broken)

theorem breakEnd_agree (h : Twin n m s t) : Agree n m (execBreakEnd s) (execBreakEnd t) := by
  obtain ⟨l, rfl⟩ := h.exists_eq
  exact agree_ite Iff.rfl (finish_agree (h.leaf rfl)) (noEvent_agree h)

theorem cutShort_agree (h : Twin n m s t) : Agree n m (execGap s) (execGap t) := by
  have given := giveUpInbound_twin h
  obtain ⟨l, rfl⟩ := h.exists_eq
  exact agree_ite Iff.rfl (noEvent_agree h) (finish_agree given)

theorem holdOutbound_twin (h : Twin n m s t) : Twin n m (holdOutbound s) (holdOutbound t) := by
  obtain ⟨l, rfl⟩ := h.exists_eq
  unfold holdOutbound
  dsimp only
  cases s.link.outbound with
  | none => exact h
  | some f => exact h.leaf rfl

theorem selNegated_agree (h : Twin n m s t) : Agree n m (execSelNegated s) (execSelNegated t) := by
  have ended := (holdOutbound_twin (giveUpInbound_twin h)).update dropSel fun _ => rfl
  obtain ⟨l, rfl⟩ := h.exists_eq
  exact agree_ite Iff.rfl (finish_agree ended) (noEvent_agree h)

theorem replySent_agree (h : Twin n m s t) : Agree n m (execReplySent s) (execReplySent t) := by
  obtain ⟨l, rfl⟩ := h.exists_eq
  unfold execReplySent
  dsimp only
  cases s.link.outbound.bind OutFrame.replyTag with
  | none => exact noEvent_agree h
  | some tag => exact finish_agree (h.leaf rfl)

theorem noticeFrameSent_agree (h : Twin n m s t) : Agree n m (execNoticeFrameSent s) (execNoticeFrameSent t) := by
  obtain ⟨l, rfl⟩ := h.exists_eq
  unfold execNoticeFrameSent
  dsimp only
  rcases s.link.outbound with _ | ⟨tag | record, bytes⟩
  · exact noEvent_agree h
  · exact noEvent_agree h
  · exact finish_agree (h.leaf rfl)

theorem powerOnReset_agree (mode rate1 rate0 : Bool) (h : Twin n m s t) :
    Agree n m (execPowerOnReset mode rate1 rate0 s) (execPowerOnReset mode rate1 rate0 t) := by
  obtain ⟨l, rfl⟩ := h.exists_eq
  exact finish_agree ⟨[.reset .powerOn], rfl, rfl⟩

theorem claimWindowExpires_agree (h : Twin n m s t) :
    Agree n m (execClaimWindowExpires s) (execClaimWindowExpires t) := by
  obtain ⟨l, rfl⟩ := h.exists_eq
  unfold execClaimWindowExpires
  dsimp only
  cases s.cycle.timing with
  | claiming =>
    cases s.cycle.claim with
    | none => exact noEvent_agree h
    | some r => exact finish_agree (claimExpires_twin r h)
  | _ => exact noEvent_agree h

theorem startCyclicSlot_twin (start : Nat) (label : Byte) (since : Word) (h : Twin n m s t) :
    Twin n m (startCyclicSlot start label since s) (startCyclicSlot start label since t) := by
  obtain ⟨l, rfl⟩ := h.exists_eq
  have may : ({ s with notices := l } : State).maySendCyclic = s.maySendCyclic := rfl
  have answers : produceAnswer label { s with notices := l } = produceAnswer label s := rfl
  unfold startCyclicSlot
  rw [may, answers]
  split_ifs
  · cases produceAnswer label s with
    | none => exact h
    | some a => exact h.leaf rfl
  · exact h

theorem cyclicSlotStart_agree (start : Nat) (h : Twin n m s t) :
    Agree n m (execCyclicSlotStart start s) (execCyclicSlotStart start t) := by
  obtain ⟨l, rfl⟩ := h.exists_eq
  have read : ({ s with notices := l } : State).current = s.current := rfl
  unfold execCyclicSlotStart
  rw [read]
  cases s.current with
  | none => exact noEvent_agree h
  | some c =>
    have entry : walkedEntry { s with notices := l } c start = walkedEntry s c start := rfl
    dsimp only
    rw [entry]
    rcases walkedEntry s c start with _ | ⟨at', (⟨length, owner, label, payload⟩ | floor)⟩
    · exact noEvent_agree h
    · exact agree_ite Iff.rfl (finish_agree (startCyclicSlot_twin start label _ (atInstant_twin _ h))) (noEvent_agree h)
    · exact noEvent_agree h

theorem offerFirst_twin (o : OnLine) (h : Twin n m s t) : Twin n m (offerFirst o s) (offerFirst o t) := by
  obtain ⟨l, rfl⟩ := h.exists_eq
  unfold offerFirst
  dsimp only
  cases s.tx.queue with
  | nil => exact h
  | cons x rest => exact h.leaf rfl

theorem openWindow_twin (start floor : Nat) (way : Contention) (h : Twin n m s t) :
    Twin n m (openWindow start floor way s) (openWindow start floor way t) := by
  obtain ⟨l, rfl⟩ := h.exists_eq
  have may : ({ s with notices := l } : State).maySendSegment = s.maySendSegment := rfl
  unfold openWindow
  rw [may]
  dsimp only
  rcases candidate s.tx.queue s.maySendSegment floor s.cycle.address with _ | ⟨f, o⟩
  · exact h
  · refine (offerFirst_twin o h).update (contend _) ?_
    intro k
    unfold contend
    cases OwnSegment.firstBit { bytes := f.bytes, start := start, way := way } <;> rfl

theorem openSlotWindowOpens_agree (slot : OpenSlotWindow) (h : Twin n m s t) :
    Agree n m (execOpenSlotWindowOpens slot s) (execOpenSlotWindowOpens slot t) := by
  obtain ⟨l, rfl⟩ := h.exists_eq
  have read : ({ s with notices := l } : State).current = s.current := rfl
  unfold execOpenSlotWindowOpens
  rw [read]
  cases s.current with
  | none => exact noEvent_agree h
  | some c =>
    have entry : walkedEntry { s with notices := l } c slot.start = walkedEntry s c slot.start := rfl
    dsimp only
    rw [entry]
    rcases walkedEntry s c slot.start with _ | ⟨at', (⟨length, owner, label, payload⟩ | floor)⟩
    · exact noEvent_agree h
    · exact noEvent_agree h
    · exact agree_ite Iff.rfl (noEvent_agree h)
        (finish_agree (atInstant_twin _ (openWindow_twin slot.start floor _ h)))

theorem segmentWon_agree (h : Twin n m s t) : Agree n m (execSegmentWon s) (execSegmentWon t) := by
  obtain ⟨l, rfl⟩ := h.exists_eq
  unfold execSegmentWon
  dsimp only
  cases s.trunk.segment.bind OwnSegment.ends with
  | none => exact noEvent_agree h
  | some ends => exact finish_agree (segmentOutcome_twin .won (atInstant_twin ends h))

theorem segmentLost_agree (h : Twin n m s t) : Agree n m (execSegmentLost s) (execSegmentLost t) := by
  obtain ⟨l, rfl⟩ := h.exists_eq
  unfold execSegmentLost
  dsimp only
  cases s.trunk.segment with
  | none => exact noEvent_agree h
  | some g => exact finish_agree (segmentOutcome_twin .lost (yieldSlot_twin g (segmentBegun_twin h)))

theorem ownFrameMismatch_agree (h : Twin n m s t) : Agree n m (execOwnFrameMismatch s) (execOwnFrameMismatch t) := by
  obtain ⟨l, rfl⟩ := h.exists_eq
  unfold execOwnFrameMismatch
  dsimp only
  cases s.trunk.sending with
  | none => exact noEvent_agree h
  | some f => exact finish_agree (endFrame_twin (countDisturbed_twin h))

theorem ownFrameSent_agree (h : Twin n m s t) : Agree n m (execOwnFrameSent s) (execOwnFrameSent t) := by
  obtain ⟨l, rfl⟩ := h.exists_eq
  unfold execOwnFrameSent
  dsimp only
  cases s.trunk.sending with
  | none => exact noEvent_agree h
  | some f => exact finish_agree (endFrame_twin (atInstant_twin f.ends h))

/-- R150: a command that is no request, other than OUTBOUND_SELECT, does the same whatever the notice unit holds. -/
theorem event_agree {c : Instr} (event : requestCode c = none) (notSelect : c ≠ .outboundSelect) (h : Twin n m s t) :
    Agree n m (exec c s) (exec c t) := by
  have same := h.exists_eq
  cases c <;> cases event
  case badRequest.refl => exact badRequest_agree h
  case hostFrameReceived.refl bytes => exact finish_agree (foldl_receiveByte_twin bytes (inTransaction_twin h))
  case lineBreak.refl => exact break_agree h
  case breakEnd.refl => exact breakEnd_agree h
  case framingFault.refl => exact cutShort_agree h
  case gap.refl => exact cutShort_agree h
  case selNegated.refl => exact selNegated_agree h
  case outboundSelect.refl => exact absurd rfl notSelect
  case replySent.refl => exact replySent_agree h
  case noticeFrameSent.refl => exact noticeFrameSent_agree h
  case powerOnReset.refl mode rate1 rate0 => exact powerOnReset_agree mode rate1 rate0 h
  case claimWindowExpires.refl => exact claimWindowExpires_agree h
  case cycleStart.refl => exact nextCycle_agree h
  case conflictEpisodeEnd.refl | messageStarved.refl | messageContention.refl | abortAttemptsExhausted.refl | contextTimeout.refl |
      completionRecordLapse.refl =>
    obtain ⟨l, rfl⟩ := same
    exact agree_ite Iff.rfl (nextCycle_agree h) (noEvent_agree h)
  case trunkFrameReceived.refl stamp bytes => exact receiveFrame_agree stamp bytes h
  case syncLocked.refl stamp bytes =>
    obtain ⟨l, rfl⟩ := same
    exact agree_ite Iff.rfl (receiveFrame_agree stamp bytes h) (noEvent_agree h)
  case cycleStartWindowCloses.refl => exact closeWindow_agree h
  case syncLost.refl | takeover.refl =>
    obtain ⟨l, rfl⟩ := same
    exact agree_ite Iff.rfl (closeWindow_agree h) (noEvent_agree h)
  case cyclicSlotStart.refl start => exact cyclicSlotStart_agree start h
  case cyclicSlotEnd.refl start => exact cyclicSlotEnds_agree start h
  case channelLost.refl start =>
    obtain ⟨l, rfl⟩ := same
    exact agree_ite Iff.rfl (cyclicSlotEnds_agree start h) (noEvent_agree h)
  case openSlotWindowOpens.refl slot => exact openSlotWindowOpens_agree slot h
  case segmentWon.refl => exact segmentWon_agree h
  case segmentLost.refl => exact segmentLost_agree h
  case segmentDisturbed.refl => exact segmentDisturbs_agree h
  case messageTrunkFault.refl =>
    obtain ⟨l, rfl⟩ := same
    exact agree_ite Iff.rfl (segmentDisturbs_agree h) (noEvent_agree h)
  case ownFrameMismatch.refl => exact ownFrameMismatch_agree h
  case ownFrameSent.refl => exact ownFrameSent_agree h

/-- R150: a command other than ACK_NOTICES and OUTBOUND_SELECT does the same whatever the notice unit holds. -/
theorem exec_agree {c : Instr} (notAck : c ≠ .ackNotices) (notSelect : c ≠ .outboundSelect) (h : Twin n m s t) :
    Agree n m (exec c s) (exec c t) := by
  cases request : requestCode c with
  | some code =>
    obtain ⟨run, handler, runs⟩ := exec_request request
    rw [runs, runs]
    exact takeRequest_agree (fun body => handler_twin handler notAck body h) h
  | none => exact event_agree request notSelect h

end

/-- Settles O15: a command acts alike on two states that differ in the notice unit alone. -/
theorem noticesNeverSteer : Obligations.NoticesNeverSteer := by
  intro c s n notAck notSelect
  obtain ⟨u, v, twin, first, second⟩ := exec_agree notAck notSelect (twin_start s.notices n s)
  obtain ⟨k, rfl⟩ := twin.exists_eq
  obtain first | first := first <;> obtain second | second := second <;> exact ⟨_, _, first, second, rfl⟩

end Sys2Proof.Machine
end

section
/-! PROOFS. R146 to R153: the notice queue, its numbers and its requests. Settles O10, O25, O43 and O48. -/

namespace Sys2Proof.Machine

set_option Elab.async false

/-! ### O25: giving a notice -/

theorem State.cycleNumber_eq_ite (s : State) : s.cycleNumber =
    if s.cycle.timing = .leading ∨ s.cycle.timing = .locked ∨ s.cycle.timing = .holdover then
      s.cycle.now.map (·.number) else none := by
  unfold State.cycleNumber State.current
  cases s.cycle.timing <;> rfl

theorem NoticeUnit.masked_iff (n : NoticeUnit) (k : NoticeKind) :
    n.masked k = true ↔ k ∈ maskableKinds ∧ k ∈ n.disabled := by
  simp [NoticeUnit.masked]

/-- R148: one more lost notice, to 255. -/
theorem min_lostMax_succ (n : Nat) : min Config.lostMax (n + 1) = if n < 255 then n + 1 else 255 := by
  show min 255 (n + 1) = _
  split_ifs <;> omega

/-- Settles O25: the three outcomes of R146 to R149, in this order. -/
theorem noticeQueuedOrLost : Obligations.NoticeQueuedOrLost := by
  intro b s
  unfold giveNotice
  simp only [NoticeUnit.masked_iff]
  refine if_congr Iff.rfl rfl ?_
  unfold queueNotice
  rw [min_lostMax_succ, s.cycleNumber_eq_ite]
  rfl

/-! ### O43: a message that fails -/

/-- R102: the room watch is examined after blocks have gone back. -/
theorem examineRoom_eq (k : Nat) (s : State) : examineRoom k s =
    if 0 < k ∧ s.tx.roomWatch = true ∧ 4 ≤ s.tx.free then
      giveNotice (.txRoom s.tx.free) { s with tx := { s.tx with roomWatch := false } }
    else s := by
  unfold examineRoom
  simp only [Bool.and_eq_true, decide_eq_true_eq, and_assoc]
  rfl

/-- Settles O43: the notice leaves the room watch and the free blocks as they were. -/
theorem failedMessageLeaves : Obligations.FailedMessageLeaves := by
  intro m rest reason abortSent s
  dsimp only
  unfold failFirst
  rw [examineRoom_eq, giveNotice_tx, giveNotice_tx]
  rfl

/-! ### O10: the notice queue stays sound -/

theorem expectedSeqs_succ (next : Half) (length : Nat) :
    expectedSeqs (next + 1) (length + 1) = expectedSeqs next length ++ [next] := by
  unfold expectedSeqs
  rw [List.range_succ, List.map_append]
  congr 1
  · refine List.map_congr_left fun i hi => ?_
    have hi : i < length := List.mem_range.1 hi
    rw [show length + 1 - i = (length - i) + 1 by omega, BitVec.ofNat_add]
    exact add_sub_add_right_eq_sub next _ 1
  · simp

theorem expectedSeqs_drop (next : Half) (length k : Nat) :
    (expectedSeqs next length).drop k = expectedSeqs next (length - k) := by
  refine List.ext_getElem (by simp [expectedSeqs]) fun i _ _ => ?_
  simp only [expectedSeqs, List.getElem_drop, List.getElem_map, List.getElem_range]
  rw [Nat.sub_sub]

theorem NoticeUnit.reset_sound (cause : RestartCause) : (NoticeUnit.reset cause).sound := by
  cases cause <;> exact ⟨by decide, by decide, by decide, by decide, nofun⟩

/-- Each act on the notice unit keeps it sound. -/
theorem NoticeAct.apply_sound {n : NoticeUnit} (act : NoticeAct) (h : n.sound) : (NoticeAct.apply n act).sound := by
  obtain ⟨size, delivered, lost, seqs, disabled⟩ := h
  cases act with
  | enter cycle body =>
    simp only [NoticeAct.apply]
    split_ifs
    · exact ⟨size, delivered, lost, seqs, disabled⟩
    · exact ⟨size, delivered, Nat.min_le_left _ _, seqs, disabled⟩
    · refine ⟨?_, ?_, lost, ?_, disabled⟩
      · simp only [List.length_append, List.length_singleton]
        omega
      · simp only [List.length_append, List.length_singleton]
        omega
      · simp only [List.map_append, List.length_append, List.length_singleton, expectedSeqs_succ, seqs]
        rfl
  | rewind => exact ⟨size, Nat.zero_le _, lost, seqs, disabled⟩
  | mask codes => exact ⟨size, delivered, lost, seqs, fun k hk => (List.mem_filter.1 (show k ∈ disabledBy codes from hk)).1⟩
  | reset cause => exact NoticeUnit.reset_sound cause

theorem NoticeAct.foldl_sound {n : NoticeUnit} (acts : List NoticeAct) (h : n.sound) :
    (acts.foldl NoticeAct.apply n).sound := by
  induction acts generalizing n with
  | nil => exact h
  | cons act rest ih => exact ih (act.apply_sound h)

theorem giveNotice_sound {s : State} (b : NoticeBody) (h : s.notices.sound) : (giveNotice b s).notices.sound := by
  rw [giveNotice_notices]
  exact NoticeAct.apply_sound _ h

/-- R152: the oldest notices leave, and the rest keeps its numbers. -/
theorem removeNotices_sound {s : State} (k : Nat) (h : s.notices.sound) : (removeNotices k s).notices.sound := by
  obtain ⟨size, delivered, lost, seqs, disabled⟩ := h
  refine ⟨?_, ?_, lost, ?_, disabled⟩
  · simp only [removeNotices, List.length_drop]
    omega
  · simp only [removeNotices, List.length_drop]
    omega
  · simp only [removeNotices, List.length_drop, List.map_drop, seqs, expectedSeqs_drop]

theorem reportLost_sound {s : State} (h : s.notices.sound) : (reportLost s).notices.sound := by
  obtain ⟨size, delivered, lost, seqs, disabled⟩ := h
  unfold reportLost
  split_ifs
  · exact ⟨size, delivered, lost, seqs, disabled⟩
  · exact giveNotice_sound _ ⟨size, delivered, Nat.zero_le _, seqs, disabled⟩

theorem ackRequest_sound {s : State} (body : List Byte) (h : s.notices.sound) :
    (ackRequest body s).2.notices.sound := by
  unfold ackRequest
  split
  · exact h
  · exact reportLost_sound (removeNotices_sound _ h)

theorem takeNotice_sound {s : State} {n : Notice} (h : s.notices.sound) (waits : s.notices.deliveryPoint = some n) :
    (takeNotice s).notices.sound := by
  obtain ⟨size, -, lost, seqs, disabled⟩ := h
  obtain ⟨within, -⟩ := List.getElem?_eq_some_iff.1 waits
  exact ⟨size, within, lost, seqs, disabled⟩

theorem selectFrame_sound {s : State} (h : s.notices.sound) : (selectFrame s).notices.sound := by
  unfold selectFrame
  split
  · exact h
  · exact h
  · next waits => exact takeNotice_sound h waits
  · exact h

/-- A command other than the two about the queue itself acts on the notice unit by notice acts. -/
theorem exec_notices_sound {c : Instr} {s t : State} (h : s.notices.sound) (notAck : c ≠ .ackNotices)
    (notSelect : c ≠ .outboundSelect) (runs : exec c s = .next t) : t.notices.sound := by
  obtain ⟨u, v, ⟨acts, reached, -⟩, left, -⟩ := exec_agree notAck notSelect (twin_start s.notices s.notices s)
  have reached : u.notices.sound := by
    rw [reached]
    exact NoticeAct.foldl_sound acts h
  rw [show exec c { s with notices := s.notices } = .next t from runs] at left
  obtain left | left := left <;> cases left <;> exact reached

theorem execAckNotices_sound {s t : State} (h : s.notices.sound) (runs : execAckNotices s = .next t) :
    t.notices.sound := by
  obtain left | ⟨q, -, -, left⟩ | ⟨q, -, -, -, left⟩ := takeRequest_cases 0x51 ackRequest s <;>
    cases runs.symm.trans left
  · exact h
  · exact h
  · exact ackRequest_sound q.body h

theorem execOutboundSelect_sound {s t : State} (h : s.notices.sound) (runs : execOutboundSelect s = .next t) :
    t.notices.sound := by
  unfold execOutboundSelect at runs
  split at runs <;> cases runs
  · exact h
  · exact selectFrame_sound h

/-- Settles O10: by notice acts, or by ACK_NOTICES and OUTBOUND_SELECT. -/
theorem noticeQueueStaysSound : Obligations.NoticeQueueStaysSound := by
  intro s t h runs
  unfold step at runs
  split at runs
  · cases runs
    exact h
  · next c rest _ =>
    by_cases ack : c = .ackNotices
    · subst ack
      exact execAckNotices_sound (s := { s with pending := rest }) h runs
    by_cases select : c = .outboundSelect
    · subst select
      exact execOutboundSelect_sound (s := { s with pending := rest }) h runs
    · exact exec_notices_sound (s := { s with pending := rest }) h ack select runs

/-! ### O48: NOTICE_MASK and ACK_NOTICES -/

/-- R162: the lengths of a counted list. -/
theorem counted_allows {size : Nat} {k : Byte} {items : List Byte} (h : items.length = size * k.toNat) :
    (BodyShape.counted size).allows (k :: items) = true := by
  simp [BodyShape.allows, byteAt, h, Nat.add_comm]

theorem firstFailing_none {ok : Byte → Bool} {l : List Byte} (h : ∀ b ∈ l, ok b = true) (place : Nat) :
    firstFailing ok place l = none := by
  induction l generalizing place with
  | nil => rfl
  | cons b rest ih =>
    obtain ⟨head, tail⟩ := List.forall_mem_cons.1 h
    rw [firstFailing, if_pos head, ih tail]

theorem firstFailing_some {ok : Byte → Bool} {before after : List Byte} {bad : Byte} (good : ∀ b ∈ before, ok b = true)
    (fails : ok bad = false) (place : Nat) :
    firstFailing ok place (before ++ bad :: after) = some (place + before.length) := by
  induction before generalizing place with
  | nil => simp [firstFailing, fails]
  | cons b rest ih =>
    obtain ⟨head, tail⟩ := List.forall_mem_cons.1 good
    rw [List.cons_append, firstFailing, if_pos head, ih tail, List.length_cons]
    congr 1
    omega

/-- R149: the codes that name a maskable kind. -/
theorem maskableOf_isSome (c : Byte) : (maskableOf c).isSome = decide (4 ≤ c.toNat ∧ c.toNat ≤ 21) := by
  have coded : ∀ k ∈ maskableKinds, 4 ≤ k.code.toNat ∧ k.code.toNat ≤ 21 := by decide
  have named : ∀ n < 22, 4 ≤ n → ∃ k ∈ maskableKinds, k.code = BitVec.ofNat 8 n := by decide
  unfold maskableOf
  rw [Bool.eq_iff_iff, List.find?_isSome, decide_eq_true_iff]
  constructor
  · rintro ⟨k, listed, same⟩
    exact eq_of_beq same ▸ coded k listed
  · rintro ⟨low, high⟩
    obtain ⟨k, listed, same⟩ := named c.toNat (by omega) low
    exact ⟨k, listed, beq_iff_eq.2 (same.trans ((BitVec.ofNat_toNat 8 c).trans (BitVec.setWidth_eq c)))⟩

theorem exec_noticeMask {k : Byte} {codes : List Byte} {s : State} (h : s.takes 0x50 (k :: codes))
    (counted : codes.length = k.toNat) :
    exec .noticeMask s = replied (noticeMaskRequest (k :: codes) s).1 (noticeMaskRequest (k :: codes) s).2 :=
  takeRequest_takes h (counted_allows (by simpa using counted))

theorem noticeMaskRequest_small {k : Byte} {codes : List Byte} {s : State} (h : k.toNat ≤ 21) :
    noticeMaskRequest (k :: codes) s =
      match firstFailing (fun c => decide (4 ≤ c.toNat ∧ c.toNat ≤ 21)) 1 codes with
      | some place => (.refuse .badValue [byteOf place], s)
      | none => (.okWith (byteOf (disabledBy codes).length :: (disabledBy codes).map NoticeKind.code),
          { s with notices := { s.notices with disabled := disabledBy codes } }) := by
  have small : ¬ 21 < k := by
    rw [BitVec.lt_def]
    exact Nat.not_lt.2 h
  unfold noticeMaskRequest
  simp only [maskableOf_isSome]
  exact if_neg small

theorem ackRequest_absent {b0 b1 : Byte} {s : State} (h : ∀ n ∈ s.notices.queue, n.seq ≠ b0 ++ b1) :
    ackRequest [b0, b1] s = (.refuse .badValue (oldestBytes s.notices), s) := by
  have absent : s.notices.queue.findIdx? (fun n => n.seq == halfAt [b0, b1] 0) = none :=
    List.findIdx?_eq_none_iff.2 fun n hn => beq_eq_false_iff_ne.2 (h n hn)
  unfold ackRequest
  rw [absent]

theorem ackRequest_found {b0 b1 : Byte} {s : State} {before after : List Notice} {n : Notice}
    (queue : s.notices.queue = before ++ n :: after) (named : n.seq = b0 ++ b1) (first : ∀ m ∈ before, m.seq ≠ b0 ++ b1) :
    ackRequest [b0, b1] s =
      let u := reportLost { s with notices := { s.notices with
        queue := after, delivered := s.notices.delivered - (before.length + 1) } }
      (.okWith (ackReply (before.length + 1) u.notices), u) := by
  have found : s.notices.queue.findIdx? (fun n => n.seq == halfAt [b0, b1] 0) = some before.length := by
    have passed : before.findIdx? (fun n => n.seq == halfAt [b0, b1] 0) = none :=
      List.findIdx?_eq_none_iff.2 fun m hm => beq_eq_false_iff_ne.2 (first m hm)
    have hit : (n.seq == halfAt [b0, b1] 0) = true := beq_iff_eq.2 named
    rw [queue, List.findIdx?_append, passed, List.findIdx?_cons, hit]
    simp
  have remains : s.notices.queue.drop (before.length + 1) = after := by simp [queue]
  unfold ackRequest
  rw [found]
  dsimp only
  rw [removeNotices, remains]

/-- R153: the OVERFLOW of a lost count other than 0 finds room in a queue of fewer than 32. -/
theorem reportLost_eq {s : State} (room : s.notices.queue.length < 32) :
    reportLost s =
      let report : List Notice := if s.notices.lost = 0 then [] else
        [{ seq := s.notices.nextSeq, cycle := s.cycleNumber, body := .overflow s.notices.lost }]
      { s with notices := { s.notices with
          queue := s.notices.queue ++ report, lost := 0,
          nextSeq := s.notices.nextSeq + BitVec.ofNat 16 report.length } } := by
  unfold reportLost
  split_ifs with none
  · simp only [List.append_nil, List.length_nil, BitVec.add_zero]
    rw [← none]
  · have unmasked : ({ s.notices with lost := 0 } : NoticeUnit).masked .overflow = false := rfl
    have fits : ¬ Config.noticeSize ≤ s.notices.queue.length := Nat.not_le.2 room
    unfold giveNotice queueNotice
    rw [show (NoticeBody.overflow s.notices.lost).kind = .overflow from rfl, unmasked]
    simp only [fits, if_false]
    rfl

/-- 10.4: the oldest sequence number with its presence byte, as O48 writes it. -/
theorem oldestBytes_eq (n : NoticeUnit) :
    oldestBytes n = match n.queue with
      | [] => [0, 0, 0]
      | oldest :: _ => 1 :: halfBytes oldest.seq := by
  unfold oldestBytes NoticeUnit.oldest
  cases n.queue <;> rfl

/-- Settles O48. -/
theorem noticeRequestsResult : Obligations.NoticeRequestsResult := by
  refine ⟨fun k codes s h counted => ?_, fun b0 b1 s h => ?_⟩
  · rw [exec_noticeMask h counted]
    refine ⟨fun large => ?_, fun small before bad after split good fails => ?_, fun small good => ?_⟩
    · have large : 21 < k := BitVec.lt_def.2 large
      rw [noticeMaskRequest, if_pos (show 21 < byteAt (k :: codes) 0 from large)]
      rfl
    · rw [noticeMaskRequest_small small, split,
        firstFailing_some (by simpa using good) (decide_eq_false fails), Nat.add_comm]
      rfl
    · rw [noticeMaskRequest_small small, firstFailing_none (by simpa using good)]
      rfl
  · have run : exec .ackNotices s = replied (ackRequest [b0, b1] s).1 (ackRequest [b0, b1] s).2 :=
      takeRequest_takes h rfl
    dsimp only
    rw [run]
    refine ⟨fun absent => ?_, fun before n after queue named first room => ?_⟩
    · rw [ackRequest_absent absent, oldestBytes_eq]
      rfl
    · rw [ackRequest_found queue named first, reportLost_eq room]
      dsimp only
      rw [ackReply, oldestBytes_eq]
      rfl

end Sys2Proof.Machine
end

section
/-! PROOFS. What a received frame can come to, said once: one constructor of `Heard` for each outcome. The invariants and the
frames of the trunk's events are case analyses on it. -/

namespace Sys2Proof.Machine

set_option Elab.async false

/-! ### The interface's own part in a received frame -/

/-- What the trunk interface does with a received frame before the cycle unit is told: it counts, it settles the window, it
notes the frame in its slot. In CLAIMING and HUNTING it only counts. -/
structure Interim (s v : State) : Prop where
  same : v = { s with trunk := { s.trunk with
    crcErrors := v.trunk.crcErrors, malformed := v.trunk.malformed, stray := v.trunk.stray, window := v.trunk.window,
    slots := v.trunk.slots, late := v.trunk.late } }
  walk : s.cycle.timing.synchronised = false →
    v.trunk.window = s.trunk.window ∧ v.trunk.slots = s.trunk.slots ∧ v.trunk.late = s.trunk.late
  crc : v.trunk.crcErrors = s.trunk.crcErrors ∨ v.trunk.crcErrors = bump s.trunk.crcErrors
  malformed : v.trunk.malformed = s.trunk.malformed ∨ v.trunk.malformed = bump s.trunk.malformed
  stray : v.trunk.stray = s.trunk.stray ∨ v.trunk.stray = bump s.trunk.stray

section
variable {s v : State}

theorem Interim.refl (s : State) : Interim s s := ⟨rfl, fun _ => ⟨rfl, rfl, rfl⟩, .inl rfl, .inl rfl, .inl rfl⟩

theorem Interim.countCrc (s : State) : Interim s (countCrc s) :=
  ⟨rfl, fun _ => ⟨rfl, rfl, rfl⟩, .inr rfl, .inl rfl, .inl rfl⟩

theorem Interim.countMalformed (s : State) : Interim s (countMalformed s) :=
  ⟨rfl, fun _ => ⟨rfl, rfl, rfl⟩, .inl rfl, .inr rfl, .inl rfl⟩

theorem Interim.countStray (s : State) : Interim s (countStray s) :=
  ⟨rfl, fun _ => ⟨rfl, rfl, rfl⟩, .inl rfl, .inl rfl, .inr rfl⟩

/-- A change of the walk, at a synchronised node. -/
theorem Interim.walked (h : Interim s v) (synchronised : s.cycle.timing.synchronised = true) (window : Window)
    (slots : List SlotRecord) (late : List LateSlot) :
    Interim s { v with trunk := { v.trunk with window := window, slots := slots, late := late } } := by
  obtain ⟨same, -, crc, malformed, stray⟩ := h
  refine ⟨?_, fun h => ?_, crc, malformed, stray⟩
  · rw [same]
  · rw [synchronised] at h
    cases h

theorem Interim.settle (h : Interim s v) (synchronised : s.cycle.timing.synchronised = true) :
    Interim s (settleWindow v) :=
  h.walked synchronised .settled v.trunk.slots v.trunk.late

theorem Interim.takeSlot (h : Interim s v) (synchronised : s.cycle.timing.synchronised = true) (start : Nat)
    (held : Option CyclicFrame) : Interim s (takeSlot start held v) :=
  h.walked synchronised v.trunk.window _ v.trunk.late

theorem Interim.takeLate (h : Interim s v) (synchronised : s.cycle.timing.synchronised = true) (l : LateSlot)
    (held : Option CyclicFrame) : Interim s (takeLate l held v) :=
  h.walked synchronised v.trunk.window v.trunk.slots _

theorem Interim.noteSlotFrame (h : Interim s v) (synchronised : s.cycle.timing.synchronised = true) (c : CycleNow)
    (stamp : Word) : Interim s (noteSlotFrame c stamp v) := by
  unfold Machine.noteSlotFrame
  split
  · split
    · exact h
    · exact h.takeSlot synchronised _ _
  · exact h

theorem Interim.thenStray (h : Interim s v) (stray : v.trunk.stray = s.trunk.stray) : Interim s (Machine.countStray v) := by
  obtain ⟨same, walk, crc, malformed, -⟩ := h
  refine ⟨?_, walk, crc, malformed, .inr (congrArg bump stray)⟩
  conv_lhs => rw [same]
  rfl

theorem Interim.cycle_eq (h : Interim s v) : v.cycle = s.cycle := by rw [h.same]
theorem Interim.sched_eq (h : Interim s v) : v.sched = s.sched := by rw [h.same]
theorem Interim.channels_eq (h : Interim s v) : v.channels = s.channels := by rw [h.same]
theorem Interim.tx_eq (h : Interim s v) : v.tx = s.tx := by rw [h.same]
theorem Interim.rx_eq (h : Interim s v) : v.rx = s.rx := by rw [h.same]
theorem Interim.notices_eq (h : Interim s v) : v.notices = s.notices := by rw [h.same]
theorem Interim.link_eq (h : Interim s v) : v.link = s.link := by rw [h.same]
theorem Interim.pending_eq (h : Interim s v) : v.pending = s.pending := by rw [h.same]

end

/-! ### Missed cycle starts -/

/-- R32: a miss is one more, or the eighth, by role. -/
inductive Missed (c : CycleNow) (s : State) : State → Prop
  | counted (few : s.cycle.missCount + 1 < Config.missLimit) :
      Missed c s (s.withCycle { s.cycle with timing := .holdover, missCount := s.cycle.missCount + 1 })
  | lost (eighth : Config.missLimit ≤ s.cycle.missCount + 1) (role : s.cycle.role = .member) :
      Missed c s (depart .hunting [.syncLost s.cycle.lastMaster] none
        (s.withCycle { s.cycle with timing := .holdover, missCount := s.cycle.missCount + 1 }))
  | tookOver (eighth : Config.missLimit ≤ s.cycle.missCount + 1) (role : s.cycle.role = .master) :
      Missed c s (takeOver c (s.withCycle { s.cycle with timing := .holdover, missCount := s.cycle.missCount + 1 }))

theorem missCycleStart_missed (c : CycleNow) (s : State) : Missed c s (missCycleStart c s) := by
  unfold missCycleStart
  dsimp only
  split
  · next eighth =>
    unfold giveUpCycle
    cases role : s.cycle.role with
    | member => simpa [State.withCycle, role] using Missed.lost eighth role
    | master => simpa [State.withCycle, role] using Missed.tookOver eighth role
  · next few => exact .counted (Nat.lt_of_not_le few)

/-! ### Received frames -/

/-- What a received and judged frame comes to. `v` is the part after the interface's own doing. -/
inductive Heard (stamp : Word) (s : State) : State → Prop
  | noted {v : State} (interim : Interim s v) : Heard stamp s v
  | segment {v : State} {c : CycleNow} (f : SegmentFrame) (interim : Interim s v) (current : s.current = some c) :
      Heard stamp s (receiveSegment c.number f v)
  | missed {v u : State} {c : CycleNow} (interim : Interim s v) (following : s.cycle.timing.following = true)
      (now : s.cycle.now = some c) (missed : Missed c v u) : Heard stamp s u
  | accepted {v : State} {c : CycleNow} {f : CycleStartFrame} (interim : Interim s v)
      (following : s.cycle.timing.following = true) (now : s.cycle.now = some c) (usable : f.usable = true)
      (number : f.number = c.number) (inWindow : inStartWindow (offsetFrom c.origin stamp) = true) :
      Heard stamp s (acceptFrame c f stamp v)
  | jumped {v : State} (reason : JumpReason) {f : CycleStartFrame} (interim : Interim s v)
      (following : s.cycle.timing.following = true) (usable : f.usable = true) : Heard stamp s (jump reason f stamp v)
  | yielded {v : State} {f : CycleStartFrame} (interim : Interim s v)
      (mastering : s.cycle.timing = .claiming ∨ s.cycle.timing = .leading) (usable : f.usable = true)
      (lower : f.source < s.cycle.address) : Heard stamp s (yieldTo f stamp v)
  | claimed {v : State} {f : CycleStartFrame} (interim : Interim s v) (claiming : s.cycle.timing = .claiming)
      (usable : f.usable = true) (higher : ¬ f.source < s.cycle.address) :
      Heard stamp s (v.withCycle { v.cycle with
        claim := v.cycle.claim.map (fun r => { r with lastHigher := some f.number }) })
  | conflicted {v : State} {f : CycleStartFrame} (interim : Interim s v) (leading : s.cycle.timing = .leading)
      (usable : f.usable = true) (higher : ¬ f.source < s.cycle.address) : Heard stamp s (conflictFrame f v)
  | candidate {v : State} {r : CandidateRun} (interim : Interim s v) (hunting : s.cycle.timing = .hunting)
      (count : r.count = 1 ∨ ∃ r', s.cycle.run = some r' ∧ r'.count < 2 ∧ r.count = r'.count + 1) :
      Heard stamp s (v.withCycle { v.cycle with run := some r })
  | locked {v : State} {r : CandidateRun} {f : CycleStartFrame} (interim : Interim s v)
      (hunting : s.cycle.timing = .hunting) (run : s.cycle.run = some r) (usable : f.usable = true)
      (third : r.completedBy f stamp = true) : Heard stamp s (lockOn r f stamp v)

section
variable {s v : State} {stamp : Word}

theorem huntFrame_heard {f : CycleStartFrame} (interim : Interim s v) (hunting : s.cycle.timing = .hunting)
    (usable : f.usable = true) : Heard stamp s (huntFrame f stamp v) := by
  unfold huntFrame
  rw [interim.cycle_eq]
  cases run : s.cycle.run with
  | none => simpa [interim.cycle_eq] using Heard.candidate (stamp := stamp) (r := firstCandidate f stamp) interim hunting (.inl rfl)
  | some r =>
    dsimp only
    split
    · next third => exact .locked interim hunting run usable third
    · next few =>
      have count : (nextRun r f stamp).count = 1 ∨
          ∃ r', s.cycle.run = some r' ∧ r'.count < 2 ∧ (nextRun r f stamp).count = r'.count + 1 := by
        unfold nextRun
        split
        · next continued =>
          simp only [CandidateRun.completedBy, continued, Bool.and_true, decide_eq_true_eq, not_le] at few
          exact .inr ⟨r, run, few, rfl⟩
        · exact .inl rfl
      simpa [interim.cycle_eq] using Heard.candidate (stamp := stamp) interim hunting count

theorem unexpectedFrame_heard (f : CycleStartFrame) (interim : Interim s v) :
    Heard stamp s (unexpectedFrame f stamp v) := by
  unfold unexpectedFrame
  split
  · exact .noted interim
  · next usable =>
    have usable : f.usable = true := by simpa using usable
    rw [interim.cycle_eq]
    cases timing : s.cycle.timing with
    | offline => exact .noted interim
    | claiming =>
      dsimp only [claimFrame]
      rw [interim.cycle_eq]
      split
      · next lower => exact .yielded interim (.inl timing) usable lower
      · next higher => simpa [interim.cycle_eq] using Heard.claimed (stamp := stamp) interim timing usable higher
    | leading =>
      dsimp only [leadFrame]
      rw [interim.cycle_eq]
      split
      · next lower => exact .yielded interim (.inr timing) usable lower
      · next higher => exact .conflicted interim timing usable higher
    | hunting => exact huntFrame_heard interim timing usable
    | locked => exact .jumped .phase interim (by simp [timing, Timing.following]) usable
    | holdover => exact .jumped .phase interim (by simp [timing, Timing.following]) usable

theorem windowFrame_heard {c : CycleNow} (j : Judgement) (following : s.cycle.timing.following = true)
    (now : s.cycle.now = some c) (inWindow : inStartWindow (offsetFrom c.origin stamp) = true) :
    Heard stamp s (windowFrame c stamp j s) := by
  have synchronised : s.cycle.timing.synchronised = true := by
    cases h : s.cycle.timing <;> simp [h, Timing.following] at following <;> rfl
  have missed {v : State} (interim : Interim s v) : Heard stamp s (missCycleStart c (settleWindow v)) :=
    .missed (interim.settle synchronised) following now (missCycleStart_missed c _)
  unfold windowFrame
  split
  · exact missed (.countMalformed s)
  · exact missed (.countCrc s)
  · next f =>
    have settled := (Interim.refl s).settle synchronised
    unfold windowGood
    split_ifs with unusable number
    · exact .missed settled following now (missCycleStart_missed c _)
    · exact .accepted settled following now (by simpa using unusable) number inWindow
    · exact .jumped .number settled following (by simpa using unusable)
  · exact missed (.countStray s)
  · exact missed (.countStray s)

theorem cycleFrame_heard {c : CycleNow} (j : Judgement) (synchronised : s.cycle.timing.synchronised = true)
    (current : s.current = some c) : Heard stamp s (cycleFrame c stamp j s) := by
  have took (start : Nat) (held : Option CyclicFrame) := (Interim.refl s).takeSlot synchronised start held
  unfold cycleFrame
  split
  · exact .noted ((Interim.countMalformed s).noteSlotFrame synchronised c stamp)
  · exact .noted ((Interim.countCrc s).noteSlotFrame synchronised c stamp)
  · next f => exact unexpectedFrame_heard f ((Interim.refl s).noteSlotFrame synchronised c stamp)
  · next f =>
    unfold cyclicFrameAt
    split
    · exact .noted (.countStray s)
    · split
      · exact .noted (.countStray s)
      · split
        · exact .noted (took _ _)
        · exact .noted ((took _ _).thenStray rfl)
  · next f =>
    unfold segmentFrameAt
    split
    · exact .noted (.countStray s)
    · split
      · exact .noted (.countStray s)
      · split
        · exact .noted ((took _ _).thenStray rfl)
        · exact .segment f (took _ _) current

theorem lateFrame_heard (l : LateSlot) (j : Judgement) (synchronised : s.cycle.timing.synchronised = true) :
    Heard stamp s (lateFrame l stamp j s) := by
  unfold lateFrame
  split
  · exact .noted ((Interim.countMalformed s).takeLate synchronised l none)
  · exact .noted ((Interim.countCrc s).takeLate synchronised l none)
  · next f => exact unexpectedFrame_heard f ((Interim.refl s).takeLate synchronised l none)
  · next f => exact .noted ((Interim.refl s).takeLate synchronised l (some f))
  · exact .noted ((Interim.countStray s).takeLate synchronised l none)

theorem placelessFrame_heard (j : Judgement) : Heard stamp s (placelessFrame stamp j s) := by
  unfold placelessFrame
  split
  · exact .noted (.countMalformed s)
  · exact .noted (.countCrc s)
  · next f => exact unexpectedFrame_heard f (.refl s)
  · exact .noted (.refl s)
  · exact .noted (.refl s)

theorem State.openWindow_some {s : State} (h : s.openWindow.isSome = true) : s.cycle.timing.following = true := by
  unfold State.openWindow at h
  split at h
  · next open' =>
    simp only [Bool.and_eq_true] at open'
    exact open'.1
  · cases h

theorem placedFrame_heard {c : CycleNow} (j : Judgement) (synchronised : s.cycle.timing.synchronised = true)
    (now : s.cycle.now = some c) : Heard stamp s (placedFrame c stamp j s) := by
  have current : s.current = some c := by simp [State.current, synchronised, now]
  unfold placedFrame
  split
  · next window =>
    simp only [Bool.and_eq_true] at window
    exact windowFrame_heard j (State.openWindow_some window.1) now window.2
  · split
    · next l _ => exact lateFrame_heard l j synchronised
    · exact cycleFrame_heard j synchronised current

/-- Every received and judged frame comes to one of the outcomes of `Heard`. -/
theorem handFrame_heard (stamp : Word) (j : Judgement) (s : State) : Heard stamp s (handFrame stamp j s) := by
  unfold handFrame
  split
  · exact .noted (.refl s)
  · exact placelessFrame_heard j
  · exact placelessFrame_heard j
  all_goals
    next timing =>
      split
      · next c now => exact placedFrame_heard j (by simp [timing, Timing.synchronised]) now
      · exact .noted (.refl s)

end

end Sys2Proof.Machine
end

section
/-! PROOFS. The units under every command. A property of the schedule, channel and message units that each operation of these
units keeps is kept by every step: commands are made of those operations. -/

namespace Sys2Proof.Machine

set_option Elab.async false

/-- A property of the schedule, channel and message units that their operations keep. -/
structure UnitLaw (P : State → Prop) : Prop where
  untouched : ∀ {s u : State}, P s → u.sched = s.sched → u.channels = s.channels → u.tx = s.tx → u.rx = s.rx → P u
  poweredOn : ∀ straps, P (State.powerOn straps)
  handled : ∀ {c run} body s, requestHandler c = some run →
    (∃ code, requestCode c = some code ∧ (bodyShape code).any (fun shape => shape.allows body) = true) → P s →
    P (run body s).2
  switches : ∀ number s, P s → P (scheduleCycleStart number s)
  accepts : ∀ f s, P s → P (acceptFields f s)
  scheduleDeparts : ∀ d s, P s → P (scheduleDepart d s)
  channelStarts : ∀ s, P s → P (channelCycleStart s)
  channelDeparts : ∀ s, P s → P (channelDepart s)
  slotEnds : ∀ number owner label payload f s, P s → P (channelSlotEnd number owner label payload f s)
  transmitStarts : ∀ s, P s → P (transmitCycleStart s)
  transmitDeparts : ∀ reason s, P s → P (transmitDepart reason s)
  windowOpens : ∀ start floor way s, P s → P (openWindow start floor way s)
  outcome : ∀ result s, P s → P (handOutcome result s)
  receiveStarts : ∀ s, P s → P (receiveCycleStart s)
  receiveDeparts : ∀ reason s, P s → P (receiveDepart reason s)
  segment : ∀ number f s, P s → P (receiveSegment number f s)

namespace UnitLaw
variable {P : State → Prop} (law : UnitLaw P)
include law

theorem depart {s : State} (d : Destination) (own : List NoticeBody) (run : Option CandidateRun) (h : P s) :
    P (depart d own run s) :=
  law.receiveDeparts _ _ (law.transmitDeparts _ _ (law.channelDeparts _ (law.scheduleDeparts _ _
    (law.untouched h (by simp [endWalk]) (by simp [endWalk]) (by simp [endWalk]) (by simp [endWalk])))))

theorem signalCycleStart {s : State} (number : Word) (h : P s) : P (signalCycleStart number s) :=
  law.receiveStarts _ (law.transmitStarts _ (law.channelStarts _
    (law.untouched (law.switches number s h) (by simp) (by simp) (by simp) (by simp))))

theorem sendCycleStart {s : State} (h : P s) : P (sendCycleStart s) :=
  law.untouched h (by simp) (by simp) (by simp) (by simp)

theorem beginCycle {s : State} (c : CycleNow) (h : P s) : P (beginCycle c s) := by
  have taken : P (advanceQuiet (takeUpCycle ((s.withCycle { s.cycle with now := some c }).atInstant c.origin))) :=
    law.untouched h (by simp) (by simp) (by simp) (by simp)
  exact law.sendCycleStart (law.signalCycleStart c.number taken)

theorem interim {s v : State} (i : Interim s v) (h : P s) : P v :=
  law.untouched h i.sched_eq i.channels_eq i.tx_eq i.rx_eq

theorem missed {c : CycleNow} {s u : State} (m : Missed c s u) (h : P s) : P u := by
  cases m with
  | counted => exact law.untouched h rfl rfl rfl rfl
  | lost => exact law.depart _ _ _ (law.untouched h rfl rfl rfl rfl)
  | tookOver => exact law.untouched h (by simp) (by simp) (by simp) (by simp)

theorem heard {stamp : Word} {s u : State} (e : Heard stamp s u) (h : P s) : P u := by
  cases e with
  | noted i => exact law.interim i h
  | segment f i => exact law.segment _ _ _ (law.interim i h)
  | missed i _ _ m => exact law.missed m (law.interim i h)
  | accepted i => exact law.accepts _ _ (law.untouched (law.interim i h) rfl rfl rfl rfl)
  | jumped _ i => exact law.depart _ _ _ (law.interim i h)
  | yielded i => exact law.depart _ _ _ (law.untouched (law.interim i h) rfl rfl rfl rfl)
  | claimed i => exact law.untouched (law.interim i h) rfl rfl rfl rfl
  | conflicted i => exact law.untouched (law.interim i h) (by simp) (by simp) (by simp) (by simp)
  | candidate i => exact law.untouched (law.interim i h) rfl rfl rfl rfl
  | locked i =>
    exact law.accepts _ _ (law.signalCycleStart _
      (law.untouched (law.interim i h) (by simp [endWalk]) (by simp [endWalk]) (by simp [endWalk]) (by simp [endWalk])))

theorem segmentOutcome {s : State} (result : SegmentOutcome) (h : P s) : P (segmentOutcome result s) := by
  have handed : P (handOutcome result s) := law.outcome result s h
  have ended : P (endSegment (handOutcome result s)) :=
    law.untouched handed (by simp) (by simp) (by simp) (by simp)
  exact ended

theorem effect {c : Instr} {s u : State} (e : Effect s c u) (h : P s) : P u := by
  cases e with
  | handled request handler _ _ allowed =>
    exact law.untouched (law.handled _ _ handler ⟨_, request, allowed⟩ h) rfl rfl rfl rfl
  | wrongLength | unknownCode | breakEnded | replySent | noticeSent => exact law.untouched h rfl rfl rfl rfl
  | bytesReceived | broke | cutShort | selNegated | selected =>
    exact law.untouched h (by simp) (by simp) (by simp) (by simp)
  | poweredOn mode rate1 rate0 =>
    exact law.untouched (law.poweredOn { mode := mode, rate1 := rate1, rate0 := rate0 }) rfl rfl rfl rfl
  | claimed => exact law.beginCycle _ (law.untouched h (by simp) (by simp) (by simp) (by simp))
  | cycleBegun => exact law.beginCycle _ (law.untouched h rfl rfl rfl rfl)
  | frameHeard => exact law.heard (handFrame_heard _ _ _) (law.untouched h rfl rfl rfl rfl)
  | windowClosed => exact law.missed (missCycleStart_missed _ _) (law.untouched h rfl rfl rfl rfl)
  | slotStarted => exact law.untouched h (by simp) (by simp) (by simp) (by simp)
  | slotEnded => exact law.slotEnds _ _ _ _ _ _ (law.untouched h (by simp) (by simp) (by simp) (by simp))
  | windowOpened => exact law.untouched (law.windowOpens _ _ _ _ h) rfl rfl rfl rfl
  | segmentWon => exact law.segmentOutcome _ (law.untouched h rfl rfl rfl rfl)
  | segmentLost => exact law.segmentOutcome _ (law.untouched h (by simp) (by simp) (by simp) (by simp))
  | segmentDisturbed => exact law.segmentOutcome _ (law.untouched h (by simp) (by simp) (by simp) (by simp))
  | ownFrameMismatch | ownFrameSent => exact law.untouched h (by simp) (by simp) (by simp) (by simp)

/-- Every step keeps a property that each operation of the units keeps. -/
theorem step {s t : State} (h : P s) (runs : step s = .next t) : P t :=
  step_keeps (P := P) (fun _ _ h => law.untouched h rfl rfl rfl rfl) (fun _ h => law.untouched h rfl rfl rfl rfl)
    (fun _ _ _ h e => law.untouched (law.effect e h) rfl rfl rfl rfl) h runs

end UnitLaw

end Sys2Proof.Machine
end

section
/-! PROOFS. R42 to R52: lists of schedule entries as STAGE_ADD builds them and STAGE_CLOSE checks them. -/

namespace Sys2Proof.Machine

set_option Elab.async false

/-! ### Insertion in start order -/

/-- R42: the entries stand in ascending order of start. -/
abbrev startOrdered (entries : List Entry) : Prop := entries.Pairwise (fun a b => a.start < b.start)

theorem insertEntry_perm (e : Entry) (bank : List Entry) : (insertEntry e bank).Perm (e :: bank) := by
  induction bank with
  | nil => exact .refl _
  | cons f rest ih =>
    unfold insertEntry
    split
    · exact .refl _
    · exact (ih.cons f).trans (.swap e f rest)

theorem insertEntry_ordered {e : Entry} {bank : List Entry} (unused : ∀ f ∈ bank, f.start ≠ e.start)
    (ordered : startOrdered bank) : startOrdered (insertEntry e bank) := by
  induction bank with
  | nil => exact List.pairwise_singleton _ _
  | cons f rest ih =>
    obtain ⟨head, tail⟩ := List.pairwise_cons.1 ordered
    obtain ⟨headUnused, tailUnused⟩ := List.forall_mem_cons.1 unused
    unfold insertEntry
    split
    · next before =>
      exact List.pairwise_cons.2 ⟨List.forall_mem_cons.2 ⟨before, fun g hg => before.trans (head g hg)⟩, ordered⟩
    · next notBefore =>
      refine List.pairwise_cons.2 ⟨fun g hg => ?_, ih tailUnused tail⟩
      obtain rfl | hg := List.mem_cons.1 ((insertEntry_perm e rest).mem_iff.1 hg)
      · exact lt_of_le_of_ne (Nat.le_of_not_lt notBefore) headUnused
      · exact head g hg

/-! ### The checks of an entry -/

theorem Entry.placed_iff (e : Entry) (length : Nat) : e.placed length = true ↔ 24 ≤ e.start ∧ e.finish + 8 ≤ length := by
  unfold Entry.placed
  rw [Bool.and_eq_true, decide_eq_true_iff, decide_eq_true_iff]
  rfl

theorem startUsed_iff (bank : List Entry) (e : Entry) :
    bank.any (fun f => f.start == e.start) = true ↔ ¬ ∀ f ∈ bank, f.start ≠ e.start := by
  simp

/-- R48, R49: the three checks in order. -/
theorem checkEntry_eq (length : Nat) (bank : List Entry) (r : RawEntry) :
    checkEntry length bank r = match r.inRange with
      | none => .error 1
      | some e =>
        if ¬ (24 ≤ e.start ∧ e.finish + 8 ≤ length) then .error 2
        else if ¬ ∀ f ∈ bank, f.start ≠ e.start then .error 3
        else .ok e := by
  unfold checkEntry
  cases r.inRange with
  | none => rfl
  | some e =>
    dsimp only
    simp only [Bool.not_eq_true', ← Bool.not_eq_true, Entry.placed_iff, startUsed_iff]

/-- R48: what RANGE lets pass is in range for its kind. -/
theorem RawEntry.inRange_ranged {r : RawEntry} {e : Entry} (h : r.inRange = some e) : e.ranged := by
  unfold RawEntry.inRange at h
  split at h
  · split at h
    · next passes =>
      cases h
      simpa [Entry.ranged, and_assoc] using passes
    · cases h
  · split at h
    · split at h
      · next passes =>
        cases h
        simp only [Bool.and_eq_true, decide_eq_true_eq] at passes
        exact passes.2
      · cases h
    · cases h

theorem entriesAdmitted_cons {length : Nat} {bank added : List Entry} {e : Entry} :
    entriesAdmitted length bank (e :: added) ↔
      (24 ≤ e.start ∧ e.finish + 8 ≤ length) ∧ (∀ f ∈ bank, f.start ≠ e.start) ∧
      entriesAdmitted length (insertEntry e bank) added := by
  unfold entriesAdmitted
  simp only [List.map_cons, List.nodup_cons, List.mem_map, (insertEntry_perm e bank).mem_iff,
    List.mem_cons, forall_eq_or_imp]
  constructor
  · rintro ⟨⟨placed, restPlaced⟩, ⟨fresh, distinct⟩, unused, restUnused⟩
    exact ⟨placed, unused, restPlaced, distinct, fun f hf => ⟨fun same => fresh ⟨f, hf, same.symm⟩, restUnused f hf⟩⟩
  · rintro ⟨placed, unused, restPlaced, distinct, restUnused⟩
    exact ⟨⟨placed, restPlaced⟩, ⟨fun ⟨f, hf, same⟩ => (restUnused f hf).1 same.symm, distinct⟩, unused,
      fun f hf => (restUnused f hf).2⟩

theorem checkEntry_ok {length : Nat} {bank : List Entry} {r : RawEntry} {e : Entry} (ranged : r.inRange = some e)
    (placed : 24 ≤ e.start ∧ e.finish + 8 ≤ length) (unused : ∀ f ∈ bank, f.start ≠ e.start) :
    checkEntry length bank r = .ok e := by
  rw [checkEntry_eq, ranged]
  dsimp only
  rw [if_neg (not_not.2 placed), if_neg (not_not.2 unused)]

/-! ### Several entries at once -/

/-- R47: entries that may all join the bank join it, whatever follows them in the request. -/
theorem addEntries_admitted {length : Nat} {bank added : List Entry} {raws : List RawEntry}
    (ranged : raws.map RawEntry.inRange = added.map some) (admitted : entriesAdmitted length bank added) (place : Nat)
    (rest : List RawEntry) :
    ∃ new, addEntries length place bank (raws ++ rest) = addEntries length (place + raws.length) new rest ∧
      new.Perm (bank ++ added) ∧ (startOrdered bank → startOrdered new) := by
  induction raws generalizing bank added place with
  | nil =>
    cases added with
    | nil => exact ⟨bank, rfl, by simp, id⟩
    | cons e added => cases ranged
  | cons r raws ih =>
    cases added with
    | nil => cases ranged
    | cons e added =>
      obtain ⟨rangedHead, rangedTail⟩ := List.cons_eq_cons.1 ranged
      obtain ⟨placed, unused, admittedTail⟩ := entriesAdmitted_cons.1 admitted
      obtain ⟨new, adds, perm, ordered⟩ := ih rangedTail admittedTail (place + 1)
      refine ⟨new, ?_, ?_, fun h => ordered (insertEntry_ordered unused h)⟩
      · rw [List.cons_append, addEntries, checkEntry_ok rangedHead placed unused]
        dsimp only
        rw [adds, List.length_cons]
        congr 1
        omega
      · exact (perm.trans ((insertEntry_perm e bank).append_right added)).trans List.perm_middle.symm

/-- R47: the place and the check of the first entry that fails. -/
theorem addEntries_failed {length : Nat} {bank : List Entry} {r : RawEntry}
    (fails : ∀ e, r.inRange = some e → ¬ entriesAdmitted length bank [e]) (place : Nat) (rest : List RawEntry) :
    addEntries length place bank (r :: rest) = .error (place, match r.inRange with
      | none => 1
      | some e => if e.start < 24 ∨ length < e.finish + 8 then 2 else 3) := by
  rw [addEntries, checkEntry_eq]
  cases ranged : r.inRange with
  | none => rfl
  | some e =>
    dsimp only
    by_cases placed : 24 ≤ e.start ∧ e.finish + 8 ≤ length
    · have used : ¬ ∀ f ∈ bank, f.start ≠ e.start := fun unused =>
        fails e ranged ⟨by simpa using placed, by simp, by simpa using unused⟩
      have within : ¬ (e.start < 24 ∨ length < e.finish + 8) := by omega
      rw [if_neg (not_not.2 placed), if_pos used, if_neg within]
    · have outside : e.start < 24 ∨ length < e.finish + 8 := by omega
      rw [if_pos placed, if_pos outside]

/-- The bank that STAGE_ADD leaves is sound, if there is room for the entries. -/
theorem addEntries_sound {length place : Nat} {bank new : List Entry} {raws : List RawEntry}
    (adds : addEntries length place bank raws = .ok new) (sound : entriesSound length bank)
    (room : bank.length + raws.length ≤ Config.bankSize) : entriesSound length new := by
  induction raws generalizing bank place with
  | nil =>
    cases adds
    exact sound
  | cons r raws ih =>
    obtain ⟨-, ordered, each⟩ := sound
    rw [addEntries, checkEntry_eq] at adds
    cases ranged : r.inRange with
    | none => simp [ranged] at adds
    | some e =>
      simp only [ranged] at adds
      split_ifs at adds with unplaced used
      have unused : ∀ f ∈ bank, f.start ≠ e.start := used
      have grown : (insertEntry e bank).length = bank.length + 1 := (insertEntry_perm e bank).length_eq
      rw [List.length_cons] at room
      refine ih adds ⟨by omega, insertEntry_ordered unused ordered, fun f hf => ?_⟩ (by omega)
      obtain rfl | hf := List.mem_cons.1 ((insertEntry_perm e bank).mem_iff.1 hf)
      · exact ⟨RawEntry.inRange_ranged ranged, (f.placed_iff length).2 unplaced⟩
      · exact each f hf

/-! ### Closing -/

theorem closeFault_passes {before after : List Entry} {seen : List Byte}
    (separate : ∀ a ∈ before, ∀ b ∈ after.head?, a.finish ≤ b.start)
    (overlapFree : before.Pairwise (fun a b => a.finish ≤ b.start))
    (distinct : (before.filterMap Entry.label?).Nodup) (unseen : ∀ l ∈ before.filterMap Entry.label?, l ∉ seen) :
    closeFault seen (before ++ after) =
      closeFault ((before.filterMap Entry.label?).reverse ++ seen) after := by
  induction before generalizing seen with
  | nil => rfl
  | cons e before ih =>
    obtain ⟨headFree, tailFree⟩ := List.pairwise_cons.1 overlapFree
    obtain ⟨headSeparate, tailSeparate⟩ := List.forall_mem_cons.1 separate
    have next : overlapsNext e (before ++ after) = false := by
      rcases before with _ | ⟨f, before⟩
      · rcases after with _ | ⟨g, after⟩
        · rfl
        · simpa [overlapsNext] using headSeparate g rfl
      · simpa [overlapsNext] using headFree f List.mem_cons_self
    rw [List.cons_append, closeFault, next]
    cases label : e.label? with
    | none =>
      rw [List.filterMap_cons_none label] at distinct unseen ⊢
      exact ih tailSeparate tailFree distinct unseen
    | some l =>
      rw [List.filterMap_cons_some label] at distinct unseen ⊢
      obtain ⟨fresh, distinctTail⟩ := List.nodup_cons.1 distinct
      obtain ⟨unseenHead, unseenTail⟩ := List.forall_mem_cons.1 unseen
      rw [if_neg (by simpa using unseenHead), if_neg Bool.false_ne_true]
      rw [show (some l).toList ++ seen = l :: seen from rfl, ih tailSeparate tailFree distinctTail]
      · simp
      · intro m hm
        rw [List.mem_cons, not_or]
        exact ⟨fun same => fresh (same ▸ hm), unseenTail m hm⟩

theorem closeFault_of_closed {entries : List Entry} (h : entriesClosed entries) : closeFault [] entries = none := by
  have passes := closeFault_passes (before := entries) (after := []) (seen := []) (by simp) h.1 h.2 (by simp)
  simpa [closeFault] using passes

/-- R51: a bank that passes the walk is closed, if its entries stand in start order and end after they start. -/
theorem closed_of_closeFault {seen : List Byte} {entries : List Entry} (passes : closeFault seen entries = none)
    (ordered : startOrdered entries) :
    entries.Pairwise (fun a b => a.finish ≤ b.start) ∧
      (entries.filterMap Entry.label?).Nodup ∧ ∀ l ∈ entries.filterMap Entry.label?, l ∉ seen := by
  induction entries generalizing seen with
  | nil => simp
  | cons e rest ih =>
    obtain ⟨head, tail⟩ := List.pairwise_cons.1 ordered
    rw [closeFault] at passes
    split_ifs at passes with repeated overlaps
    obtain ⟨free, distinct, unseen⟩ := ih passes tail
    have separate : ∀ f ∈ rest, e.finish ≤ f.start := by
      rcases rest with _ | ⟨g, rest⟩
      · simp
      · have first : e.finish ≤ g.start := by simpa [overlapsNext] using overlaps
        refine List.forall_mem_cons.2 ⟨first, fun f hf => ?_⟩
        exact first.trans (Nat.le_of_lt ((List.pairwise_cons.1 tail).1 f hf))
    refine ⟨List.pairwise_cons.2 ⟨separate, free⟩, ?_⟩
    cases label : e.label? with
    | none =>
      rw [List.filterMap_cons_none label]
      exact ⟨distinct, fun l hl => by simpa [label] using unseen l hl⟩
    | some l =>
      rw [List.filterMap_cons_some label]
      simp only [label, Option.toList_some, List.singleton_append, List.mem_cons, not_or] at unseen
      refine ⟨List.nodup_cons.2 ⟨fun hl => (unseen l hl).1 rfl, distinct⟩, ?_⟩
      exact List.forall_mem_cons.2 ⟨by simpa [label] using repeated, fun m hm => (unseen m hm).2⟩

end Sys2Proof.Machine
end

section
/-! PROOFS. R42 to R60: the two banks stay sound. Settles O6. -/

namespace Sys2Proof.Machine

set_option Elab.async false

/-! ### The schedule unit's fields, as its rules change them -/

/-- R44: what a bank that is CLOSED or ARMED holds; both states hold the same. -/
abbrev closedBankSound (active epoch : Half) (length : Nat) (entries : List Entry) : Prop :=
  usableLength length = true ∧ entriesSound length entries ∧ entriesClosed entries ∧ epoch ≠ 0 ∧ epoch ≠ active

/-- R75: the staged bank, and an adoption mark only while it is CLOSED. -/
abbrev stagedSound (active : Half) (staged : Staged) (adoption : Bool) : Prop :=
  staged.sound active ∧ (adoption → staged.state = .closed)

/-- R44, R60: an operation that leaves the ACTIVE bank keeps the unit sound when it keeps the staged bank so. -/
theorem ScheduleUnit.sound.of_staged {u v : ScheduleUnit} (h : u.sound) (active : v.active = u.active)
    (lastSwitch : v.lastSwitch = u.lastSwitch) (staged : stagedSound u.active.epoch v.staged v.adoption) : v.sound := by
  obtain ⟨activeSound, -, -, switched⟩ := h
  unfold ScheduleUnit.sound
  rw [active, lastSwitch]
  exact ⟨activeSound, staged.1, staged.2, switched⟩

theorem ScheduleUnit.reset_sound : ScheduleUnit.reset.sound := ⟨⟨rfl, rfl⟩, trivial, nofun, rfl⟩

section
variable {s : State}

/-- R60: whatever becomes of the mark, an unmarked staged bank is as sound as it was. -/
theorem unmarked_sound {u v : ScheduleUnit} (h : u.sound) (active : v.active = u.active)
    (lastSwitch : v.lastSwitch = u.lastSwitch) (staged : v.staged = u.staged) (mark : v.adoption = false) : v.sound := by
  obtain ⟨-, stagedSound, -, -⟩ := id h
  refine h.of_staged active lastSwitch ⟨?_, ?_⟩
  · rw [staged]
    exact stagedSound
  · rw [mark]
    exact nofun

/-- R54: the bank that is switched in is closed, and its epoch is the one of the last switch. -/
theorem makeSwitch_sound {epoch : Half} {length : Nat} {entries : List Entry} {active : Half}
    (h : closedBankSound active epoch length entries) (number : Word) (mode : SwitchMode) :
    (makeSwitch epoch length entries number mode s).sched.sound := by
  obtain ⟨usable, sound, closed, nonzero, -⟩ := h
  unfold makeSwitch
  rw [(reresolveAll_only _).2.2.1, giveNotice_sched]
  refine ⟨⟨nonzero, usable, sound, closed⟩, trivial, nofun, ?_⟩
  exact (if_neg nonzero).symm

theorem switchBank_sound (number : Word) (h : s.sched.sound) : (switchBank number s).sched.sound := by
  have dropped : (dropAdoption s).sched.sound := unmarked_sound h rfl rfl rfl rfl
  obtain ⟨-, staged, -, -⟩ := h
  unfold switchBank
  split
  · next epoch length entries cycle armed =>
    rw [armed] at staged
    split
    · exact makeSwitch_sound staged _ _
    · exact dropped
  · next epoch length entries closed =>
    rw [closed] at staged
    split
    · exact makeSwitch_sound staged _ _
    · exact dropped
  · exact dropped
  · exact dropped

theorem scheduleCycleStart_sound (number : Word) (h : s.sched.sound) : (scheduleCycleStart number s).sched.sound :=
  switchBank_sound number (s := s.withTakeUp s.sched.takeUp.begins) h

theorem armBank_sound {epoch : Half} {length : Nat} {entries : List Entry} (h : s.sched.sound)
    (bank : closedBankSound s.sched.active.epoch epoch length entries) (cycle : Word) (source : ArmSource) :
    (armBank epoch length entries cycle source s).sched.sound := by
  unfold armBank
  rw [giveNotice_sched]
  exact h.of_staged rfl rfl ⟨bank, nofun⟩

theorem withdraw_sound {epoch : Half} {length : Nat} {entries : List Entry} (h : s.sched.sound)
    (bank : closedBankSound s.sched.active.epoch epoch length entries) (cycle : Word) (reason : WithdrawReason) :
    (withdraw epoch length entries cycle reason s).sched.sound := by
  unfold withdraw
  rw [giveNotice_sched]
  exact h.of_staged rfl rfl ⟨bank, fun _ => rfl⟩

theorem unreadyOnce_sound (h : s.sched.sound) (epoch : Half) (cycle : Word) (own : Option Half) :
    (unreadyOnce epoch cycle own s).sched.sound := by
  unfold unreadyOnce
  split
  · exact h
  · rw [giveNotice_sched]
    exact h

theorem announced_sound (h : s.sched.sound) (epoch : Half) (cycle : Word) : (announced epoch cycle s).sched.sound := by
  obtain ⟨-, staged, -, -⟩ := id h
  unfold announced
  split
  · next own length entries closed =>
    rw [closed] at staged
    split
    · exact armBank_sound h staged _ _
    · exact unreadyOnce_sound h _ _ _
  · next own length entries c armed =>
    rw [armed] at staged
    split_ifs
    · rw [disarmUnready, giveNotice_sched]
      exact h.of_staged rfl rfl ⟨staged, fun _ => rfl⟩
    · exact h
    · rw [giveNotice_sched]
      refine h.of_staged rfl rfl ⟨staged, fun mark => ?_⟩
      have closed := h.2.2.1 mark
      rw [armed] at closed
      cases closed
  · exact unreadyOnce_sound h _ _ _
  · exact unreadyOnce_sound h _ _ _

theorem notAnnounced_sound (h : s.sched.sound) : (notAnnounced s).sched.sound := by
  have cleared : (clearUnready s).sched.sound := h
  obtain ⟨-, staged, -, -⟩ := h
  unfold notAnnounced
  split
  · next epoch length entries cycle armed =>
    rw [armed] at staged
    exact withdraw_sound cleared staged _ _
  all_goals exact cleared

theorem markAdoption_sound (f : CycleStartFrame) (h : s.sched.sound) : (markAdoption f s).sched.sound := by
  obtain ⟨-, staged, -, -⟩ := id h
  unfold markAdoption
  split
  · next test =>
    refine h.of_staged rfl rfl ⟨staged, fun _ => ?_⟩
    show s.sched.staged.state = .closed
    unfold adoptionTest at test
    cases bank : s.sched.staged with
    | closed => rfl
    | _ => simp [bank] at test
  · exact h

theorem acceptFields_sound (f : CycleStartFrame) (h : s.sched.sound) : (acceptFields f s).sched.sound := by
  have evaluated : (evaluateListenOnly f s).sched.sound := by
    obtain ⟨active, staged, mark, switched⟩ := h
    unfold ScheduleUnit.sound
    simpa using ⟨active, staged, mark, switched⟩
  unfold acceptFields scheduleAccepts
  refine markAdoption_sound f ?_
  unfold evaluateAnnouncement
  split
  · exact announced_sound evaluated _ _
  · exact notAnnounced_sound evaluated

theorem scheduleDepart_sound (d : Destination) (h : s.sched.sound) : (scheduleDepart d s).sched.sound := by
  have cleared : (clearMarks s).sched.sound := unmarked_sound h rfl rfl rfl rfl
  obtain ⟨-, staged, -, -⟩ := h
  unfold scheduleDepart
  split
  · next epoch length entries cycle armed =>
    rw [armed] at staged
    exact withdraw_sound cleared staged _ _
  all_goals exact cleared

/-! ### The requests -/

theorem stageBeginRequest_sound (body : List Byte) (h : s.sched.sound) : (stageBeginRequest body s).2.sched.sound := by
  unfold stageBeginRequest
  split
  · exact h
  all_goals
    split_ifs with unusable
    · exact h
    · refine h.of_staged rfl rfl ⟨⟨by simpa using unusable, ?_⟩, nofun⟩
      simp [entriesSound]

theorem rawEntries_length (body : List Byte) (n : Nat) : (rawEntries body n).length = n := by
  simp [rawEntries]

/-- R42: while the bank is EDITING it has no adoption mark. -/
theorem editing_unmarked {u : ScheduleUnit} (h : u.sound) {length : Nat} {entries : List Entry}
    (editing : u.staged = .editing length entries) : u.adoption = false := by
  obtain ⟨-, -, mark, -⟩ := h
  rw [editing] at mark
  cases adoption : u.adoption with
  | false => rfl
  | true => cases mark adoption

theorem stageAddRequest_sound (body : List Byte) (h : s.sched.sound) : (stageAddRequest body s).2.sched.sound := by
  obtain ⟨-, staged, -, -⟩ := id h
  unfold stageAddRequest
  split
  · next length entries editing =>
    rw [editing] at staged
    dsimp only
    split_ifs with count full
    · exact h
    · exact h
    · split
      · exact h
      · next bank adds =>
        have grown := addEntries_sound adds staged.2 (by rw [rawEntries_length]; exact Nat.le_of_not_lt full)
        refine h.of_staged rfl rfl ⟨⟨staged.1, grown⟩, fun mark => ?_⟩
        exact absurd mark (by simp [State.withStaged, editing_unmarked h editing])
  · exact h

theorem stageRemoveRequest_sound (body : List Byte) (h : s.sched.sound) :
    (stageRemoveRequest body s).2.sched.sound := by
  obtain ⟨-, staged, -, -⟩ := id h
  unfold stageRemoveRequest
  split
  · next length entries editing =>
    rw [editing] at staged
    split
    · obtain ⟨usable, size, ordered, each⟩ := staged
      refine h.of_staged rfl rfl ⟨⟨usable, ?_, ?_, ?_⟩, fun mark => ?_⟩
      · exact (List.length_filter_le _ _).trans size
      · exact ordered.filter _
      · exact fun e he => each e (List.mem_of_mem_filter he)
      · exact absurd mark (by simp [State.withStaged, editing_unmarked h editing])
    · exact h
  · exact h

theorem stageCloseRequest_sound (body : List Byte) (h : s.sched.sound) : (stageCloseRequest body s).2.sched.sound := by
  obtain ⟨-, staged, -, -⟩ := id h
  unfold stageCloseRequest
  split
  · next length entries editing =>
    rw [editing] at staged
    split
    · exact h
    · next passes =>
      split_ifs with epoch
      · exact h
      · obtain ⟨free, distinct, -⟩ := closed_of_closeFault passes staged.2.2.1
        obtain ⟨nonzero, fresh⟩ : halfAt body 0 ≠ 0 ∧ halfAt body 0 ≠ s.sched.active.epoch := by simpa using epoch
        exact h.of_staged rfl rfl ⟨⟨staged.1, staged.2, ⟨free, distinct⟩, nonzero, fresh⟩, fun _ => rfl⟩
  · exact h

theorem stageDiscardRequest_sound (body : List Byte) (h : s.sched.sound) :
    (stageDiscardRequest body s).2.sched.sound := by
  unfold stageDiscardRequest
  split
  · exact h
  all_goals exact h.of_staged rfl rfl ⟨trivial, nofun⟩

theorem commitRequest_sound (body : List Byte) (h : s.sched.sound) : (commitRequest body s).2.sched.sound := by
  obtain ⟨-, staged, -, -⟩ := id h
  unfold commitRequest
  split
  · exact h
  · split
    · next epoch length entries closed =>
      rw [closed] at staged
      split_ifs
      · exact h
      · exact armBank_sound h staged _ _
    all_goals exact h

theorem cancelRequest_sound (body : List Byte) (h : s.sched.sound) : (cancelRequest body s).2.sched.sound := by
  obtain ⟨-, staged, -, -⟩ := id h
  unfold cancelRequest
  split
  · exact h
  · split
    · next epoch length entries cycle armed =>
      rw [armed] at staged
      exact withdraw_sound h staged _ _
    all_goals exact h

/-- R22: a departure, if the node is online, keeps the banks sound. -/
theorem signalDeparture_sched_sound (d : Destination) (h : s.sched.sound) : (signalDeparture d s).sched.sound := by
  have departed := scheduleDepart_sound d h
  simpa [signalDeparture] using departed

theorem goOfflineRequest_sched_sound (body : List Byte) (h : s.sched.sound) :
    (goOfflineRequest body s).2.sched.sound := by
  unfold goOfflineRequest
  dsimp only
  split
  · exact signalDeparture_sched_sound .offline (by simpa [endWalk] using h)
  · exact h

end

/-- R42 to R60: every operation keeps the banks sound. -/
theorem banksLaw : UnitLaw (fun s => s.sched.sound) where
  untouched h sched _ _ _ := by
    rw [sched]
    exact h
  poweredOn _ := ScheduleUnit.reset_sound
  handled {c run} body s handler _ h := by
    cases c <;> cases handler
    case stageBegin => exact stageBeginRequest_sound body h
    case stageAdd => exact stageAddRequest_sound body h
    case stageRemove => exact stageRemoveRequest_sound body h
    case stageClose => exact stageCloseRequest_sound body h
    case stageDiscard => exact stageDiscardRequest_sound body h
    case commit => exact commitRequest_sound body h
    case cancel => exact cancelRequest_sound body h
    case goOnline => simpa [goOnlineRequest_only] using h
    case goOffline => exact goOfflineRequest_sched_sound body h
    case resetNode => exact ScheduleUnit.reset_sound
    all_goals simpa using h
  switches number _ h := scheduleCycleStart_sound number h
  accepts f _ h := acceptFields_sound f h
  scheduleDeparts d _ h := scheduleDepart_sound d h
  channelStarts _ h := by simpa using h
  channelDeparts _ h := by simpa using h
  slotEnds number owner label payload f s h := by
    rw [(channelSlotEnd_only number owner label payload f s).2.2.1]
    exact h
  transmitStarts _ h := by simpa using h
  transmitDeparts _ _ h := by simpa using h
  windowOpens _ _ _ _ h := by simpa using h
  outcome _ _ h := by simpa using h
  receiveStarts _ h := by simpa using h
  receiveDeparts _ _ h := by simpa using h
  segment _ _ _ h := by simpa using h

/-- Settles O6. -/
theorem banksStaySound : Obligations.BanksStaySound := fun _ _ h runs => banksLaw.step h runs

end Sys2Proof.Machine
end

section
/-! PROOFS. R79 to R93: the channel table stays sound. Settles O7. -/

namespace Sys2Proof.Machine

set_option Elab.async false

/-! ### The labels of a table -/

/-- R79: the labels that the bound channels hold, as O7 writes them. -/
abbrev labelsOf (channels : List (Option Channel)) : List Byte := channels.filterMap (fun o => o.map (·.label))

theorem labelsOf_eq (channels : List (Option Channel)) :
    labelsOf channels = (channels.map (Option.map Channel.label)).filterMap id := by
  rw [List.filterMap_map]
  rfl

theorem mem_labelsOf {channels : List (Option Channel)} {label : Byte} :
    label ∈ labelsOf channels ↔ ∃ c, some c ∈ channels ∧ c.label = label := by
  simp [labelsOf]

/-- An update of each record that leaves its label. -/
theorem labelsOf_map {f : Channel → Channel} (label : ∀ c, (f c).label = c.label) (channels : List (Option Channel)) :
    labelsOf (channels.map (fun o => o.map f)) = labelsOf channels := by
  have same : ∀ o : Option Channel, (o.map f).map Channel.label = o.map Channel.label := fun o => by
    cases o <;> simp [label]
  rw [labelsOf_eq, labelsOf_eq, List.map_map]
  simp [Function.comp_def, same]

/-- An update of one bound record that leaves its label. -/
theorem labelsOf_set_same {channels : List (Option Channel)} {place : Nat} {old new : Channel}
    (held : channels[place]? = some (some old)) (label : new.label = old.label) :
    labelsOf (channels.set place (some new)) = labelsOf channels := by
  obtain ⟨within, held⟩ := List.getElem?_eq_some_iff.1 held
  rw [labelsOf_eq, labelsOf_eq, List.map_set]
  have unchanged : Option.map Channel.label (some new) = (channels.map (Option.map Channel.label))[place]'(by simpa using within) := by
    simp [held, label]
  rw [unchanged, List.set_getElem_self]

/-- The table around one of its places. -/
theorem labelsOf_set {channels : List (Option Channel)} {place : Nat} (within : place < channels.length)
    (o : Option Channel) :
    labelsOf (channels.set place o) =
      labelsOf (channels.take place) ++ (o.map (·.label)).toList ++ labelsOf (channels.drop (place + 1)) := by
  rw [List.set_eq_take_append_cons_drop, if_pos within, labelsOf, List.filterMap_append]
  cases o <;> simp

theorem labelsOf_split {channels : List (Option Channel)} {place : Nat} {o : Option Channel}
    (held : channels[place]? = some o) :
    labelsOf channels =
      labelsOf (channels.take place) ++ (o.map (·.label)).toList ++ labelsOf (channels.drop (place + 1)) := by
  obtain ⟨within, rfl⟩ := List.getElem?_eq_some_iff.1 held
  rw [← labelsOf_set within, List.set_getElem_self]

/-! ### The channel that holds a label -/

theorem channelOfLabel_some {label : Byte} {channels : List (Option Channel)} {number place : Nat} {c : Channel}
    (h : channelOfLabel label number channels = some (place, c)) :
    number ≤ place ∧ channels[place - number]? = some (some c) ∧ c.label = label := by
  induction channels generalizing number with
  | nil => cases h
  | cons o rest ih =>
    have later (h : channelOfLabel label (number + 1) rest = some (place, c)) :
        number ≤ place ∧ (o :: rest)[place - number]? = some (some c) ∧ c.label = label := by
      obtain ⟨after, held, named⟩ := ih h
      refine ⟨by omega, ?_, named⟩
      rw [show place - number = (place - (number + 1)) + 1 by omega]
      exact held
    cases o with
    | none => exact later h
    | some d =>
      unfold channelOfLabel at h
      split at h
      · next named =>
        cases h
        exact ⟨le_rfl, by simp, named⟩
      · exact later h

theorem channelOfLabel_none {label : Byte} {channels : List (Option Channel)} {number : Nat} :
    channelOfLabel label number channels = none ↔ label ∉ labelsOf channels := by
  induction channels generalizing number with
  | nil => simp [channelOfLabel]
  | cons o rest ih =>
    cases o with
    | none => simpa [channelOfLabel] using ih
    | some d =>
      unfold channelOfLabel
      split
      · next named => simp [named]
      · next other =>
        rw [ih]
        simp [labelsOf, Ne.symm other]

/-! ### One record -/

/-- R79: the ranges that hold of a bound record whatever its direction does. -/
abbrev Channel.formed (c : Channel) : Prop :=
  c.label ≠ 0 ∧ 1 ≤ c.length ∧ c.length ≤ 64 ∧ ∀ v ∈ c.value.toList, v.length = c.length

/-- R79: the direction's fields beside the value and the resolution. -/
def Direction.sound (d : Direction) (r : Resolution) (valued : Bool) : Prop :=
  match d with
  | .produce age => age.isSome = valued ∧ ∀ a ∈ age.toList, a ≤ Config.ageMax
  | .consume d => d.sound r ∧ d.received.isSome = valued

theorem Channel.sound_iff (c : Channel) :
    c.sound ↔ c.formed ∧ c.direction.sound c.resolution c.value.isSome := by
  obtain ⟨label, length, report, value, resolution, direction⟩ := c
  cases direction <;> simp [Channel.sound, Direction.sound, and_assoc]

/-- R91, R93: a RESOLVED consume channel that waits. -/
theorem Consume.sound.waiting {d : Consume} {r : Resolution} (h : d.sound r) :
    ({ d with state := .waiting, missCount := 0 } : Consume).sound .resolved := by
  obtain ⟨-, least, most, -⟩ := h
  exact ⟨by simp, least, most, rfl⟩

theorem Consume.sound.unscheduled {d : Consume} {r after : Resolution} (h : d.sound r) (unresolved : after ≠ .resolved) :
    ({ d with state := .unscheduled, missCount := 0 } : Consume).sound after := by
  obtain ⟨-, least, most, -⟩ := h
  exact ⟨by simpa using unresolved, least, most, rfl⟩

/-- R84: a direction follows a new resolution. -/
theorem Direction.sound.follow {d : Direction} {before after : Resolution} {valued : Bool}
    (h : d.sound before valued) : (d.follow before after).sound after valued := by
  cases d with
  | produce age => exact h
  | consume d =>
    obtain ⟨sound, received⟩ := h
    unfold Direction.follow
    split_ifs with unresolved was
    · exact ⟨sound.unscheduled unresolved, received⟩
    · obtain rfl : after = .resolved := not_not.1 unresolved
      rw [was] at sound
      exact ⟨sound, received⟩
    · obtain rfl : after = .resolved := not_not.1 unresolved
      exact ⟨sound.waiting, received⟩

theorem reresolve_sound {c : Channel} (s : State) (h : c.sound) : (s.reresolve c).sound := by
  rw [Channel.sound_iff] at h ⊢
  exact ⟨h.1, h.2.follow⟩

theorem Channel.sound.aged {c : Channel} (h : c.sound) : c.aged.sound := by
  rw [Channel.sound_iff] at h ⊢
  obtain ⟨label, length, report, value, resolution, direction⟩ := c
  rcases direction with (_ | age) | d
  · exact h
  · obtain ⟨formed, valued, -⟩ := h
    exact ⟨formed, valued, by simp⟩
  · exact h

theorem Channel.sound.departed {c : Channel} (h : c.sound) : c.departed.sound := by
  rw [Channel.sound_iff] at h ⊢
  obtain ⟨label, length, report, value, resolution, direction⟩ := c
  cases direction with
  | produce age => exact h
  | consume d =>
    dsimp only [Channel.departed]
    split
    · next resolved =>
      obtain ⟨formed, sound, received⟩ := h
      obtain rfl : resolution = .resolved := resolved
      exact ⟨formed, sound.waiting, received⟩
    · exact h

/-- R91: a miss leaves the count at the limit exactly when the channel is LOST. -/
theorem Consume.sound.missedBy {d : Consume} {count : Nat} (h : d.sound .resolved) (counted : 1 ≤ count)
    (most : count ≤ d.missLimit) : (d.missedBy count).sound .resolved := by
  obtain ⟨-, leastLimit, mostLimit, -⟩ := h
  unfold Consume.missedBy
  split_ifs with limit
  · exact ⟨by simp, leastLimit, mostLimit, Nat.le_antisymm most limit⟩
  · exact ⟨by simp, leastLimit, mostLimit, counted, Nat.lt_of_not_le limit⟩

theorem Consume.sound.miss {d : Consume} (h : d.sound .resolved) : d.miss.sound .resolved := by
  obtain ⟨-, leastLimit, -, counts⟩ := id h
  unfold Consume.miss
  split
  · exact h.missedBy le_rfl leastLimit
  · exact h.missedBy le_rfl leastLimit
  · next missed =>
    simp only [missed] at counts
    exact h.missedBy (Nat.le_add_left _ _) counts.2
  all_goals exact h

theorem Consume.sound.accept {d : Consume} (number : Word) (age : Byte) (h : d.sound .resolved) :
    (d.accept number age).sound .resolved := by
  obtain ⟨-, leastLimit, mostLimit, -⟩ := h
  unfold Consume.accept freshness
  split
  · exact ⟨by simp, leastLimit, mostLimit, rfl, rfl⟩
  · exact ⟨by simp, leastLimit, mostLimit, rfl, rfl⟩

theorem Consume.miss_received (d : Consume) : d.miss.received = d.received := by
  unfold Consume.miss
  split <;> rfl

/-- R89 to R91: the record after its slot end, an accepted frame having the channel's length. -/
theorem Channel.sound.evaluated {c : Channel} {d : Consume} (number : Word) (f : Option CyclicFrame) (h : c.sound)
    (consumes : c.direction = .consume d) (resolved : c.resolution = .resolved) :
    (c.evaluated d number (c.takes f)).sound := by
  rw [Channel.sound_iff, consumes, resolved] at h
  obtain ⟨⟨label, least, most, value⟩, sound, received⟩ := h
  rw [Channel.sound_iff]
  unfold Channel.evaluated
  split
  · next g taken =>
    have length : g.payload.length = c.length := by
      have taken := (Option.filter_eq_some_iff.1 taken).2
      simpa using taken
    exact ⟨⟨label, least, most, by simpa using length⟩, by rw [resolved]; exact sound.accept number g.age, rfl⟩
  · exact ⟨⟨label, least, most, value⟩, by rw [resolved]; exact sound.miss, by rw [d.miss_received]; exact received⟩

theorem Channel.evaluated_label (c : Channel) (d : Consume) (number : Word) (f : Option CyclicFrame) :
    (c.evaluated d number f).label = c.label := by
  unfold Channel.evaluated
  split <;> rfl

/-! ### The whole table -/

section
variable {s : State}

/-- R77, R84, R87, R93: an update of every bound record. -/
theorem channelsSound_map {channels : List (Option Channel)} {f : Channel → Channel} (h : channelsSound channels)
    (label : ∀ c, (f c).label = c.label) (sound : ∀ c, c.sound → (f c).sound) :
    channelsSound (channels.map (fun o => o.map f)) := by
  obtain ⟨size, distinct, each⟩ := h
  refine ⟨by simpa using size, ?_, ?_⟩
  · exact (congrArg List.Nodup (labelsOf_map label channels)).mpr distinct
  · intro o ho c hc
    obtain ⟨o', ho', rfl⟩ := List.mem_map.1 ho
    obtain ⟨c', hc', rfl⟩ := Option.map_eq_some_iff.1 (Option.mem_toList.1 hc)
    exact sound c' (each o' ho' c' (Option.mem_toList.2 hc'))

/-- One record is given other contents: the labels stay distinct, and the record is sound. -/
theorem channelsSound_set {channels : List (Option Channel)} {place : Nat} {o : Option Channel}
    (h : channelsSound channels) (distinct : (labelsOf (channels.set place o)).Nodup) (sound : ∀ c ∈ o.toList, c.sound) :
    channelsSound (channels.set place o) := by
  obtain ⟨size, -, each⟩ := h
  refine ⟨by simpa using size, distinct, fun p hp => ?_⟩
  obtain hp | rfl := List.mem_or_eq_of_mem_set hp
  · exact each p hp
  · exact sound

theorem channelsSound_at {channels : List (Option Channel)} {place : Nat} {c : Channel} (h : channelsSound channels)
    (held : channels[place]? = some (some c)) : c.sound :=
  h.2.2 _ (List.mem_of_getElem? held) c (by simp)

theorem reresolveAll_sound (h : channelsSound s.channels) : channelsSound (reresolveAll s).channels := by
  unfold reresolveAll
  rw [giveNotices_channels]
  exact channelsSound_map h (fun _ => rfl) fun c hc => reresolve_sound s hc

theorem makeSwitch_channelsSound (epoch : Half) (length : Nat) (entries : List Entry) (number : Word) (mode : SwitchMode)
    (h : channelsSound s.channels) : channelsSound (makeSwitch epoch length entries number mode s).channels := by
  unfold makeSwitch
  exact reresolveAll_sound (by rw [giveNotice_channels]; exact h)

theorem scheduleCycleStart_channelsSound (number : Word) (h : channelsSound s.channels) :
    channelsSound (scheduleCycleStart number s).channels := by
  unfold scheduleCycleStart switchBank
  split
  · split
    · exact makeSwitch_channelsSound _ _ _ _ _ h
    · exact h
  · split
    · exact makeSwitch_channelsSound _ _ _ _ _ h
    · exact h
  all_goals exact h

theorem evaluateChannel_sound {place : Nat} {c : Channel} (number : Word) (f : Option CyclicFrame)
    (h : channelsSound s.channels) (held : s.channels[place]? = some (some c)) :
    channelsSound (evaluateChannel number place c f s).channels := by
  unfold evaluateChannel
  split
  · next d consumes =>
    split
    · next resolved =>
      rw [giveNotices_channels]
      refine channelsSound_set h ?_ ?_
      · rw [labelsOf_set_same held (c.evaluated_label d number _)]
        exact h.2.1
      · simpa using (channelsSound_at h held).evaluated number f consumes resolved
    · exact h
  · exact h

theorem channelSlotEnd_sound (number : Word) (owner label : Byte) (payload : Nat) (f : Option CyclicFrame)
    (h : channelsSound s.channels) : channelsSound (channelSlotEnd number owner label payload f s).channels := by
  have counted := (countWrongSlot_only owner label payload f s).2.1
  unfold channelSlotEnd
  dsimp only
  split
  · next place c found =>
    obtain ⟨-, held, -⟩ := channelOfLabel_some found
    refine evaluateChannel_sound number _ ?_ ?_
    · rw [counted]
      exact h
    · rw [counted]
      exact held
  · rw [counted]
    exact h

/-! ### The requests -/

/-- R80: the ranges that let a binding pass. -/
theorem bindFields_some {body : List Byte} {d : Direction} (h : bindFields body = some d) :
    (byteAt body 1 ≠ 0 ∧ 1 ≤ byteAt body 3 ∧ byteAt body 3 ≤ 64 ∧ byteAt body 4 ≤ 1) ∧
      directionOf (byteAt body 2) (byteAt body 5) (byteAt body 6) = some d := by
  unfold bindFields at h
  split at h
  · next ranges => exact ⟨by simpa [and_assoc] using ranges, h⟩
  · cases h

/-- R81: a direction as it is bound, before it is resolved. -/
theorem directionOf_sound {code miss stale : Byte} {d : Direction} (h : directionOf code miss stale = some d) :
    d.sound .absent false := by
  unfold directionOf at h
  split_ifs at h with produce consume default
  · cases h
    exact ⟨rfl, nofun⟩
  · cases h
    exact ⟨⟨by simp, (by decide : 1 ≤ 3), (by decide : 3 ≤ 255), rfl⟩, rfl⟩
  · cases h
    have nonzero : 1 ≤ miss.toNat := Nat.pos_of_ne_zero fun zero => default (BitVec.eq_of_toNat_eq zero)
    exact ⟨⟨by simp, nonzero, Nat.le_of_lt_succ miss.isLt, rfl⟩, rfl⟩

theorem bindRequest_sound (body : List Byte) (h : channelsSound s.channels) :
    channelsSound (bindRequest body s).2.channels := by
  unfold bindRequest
  split
  · exact h
  · exact h
  · next free =>
    split
    · exact h
    · next d fields =>
      split_ifs with used
      · exact h
      · obtain ⟨⟨label, least, most, -⟩, direction⟩ := bindFields_some fields
        have fresh : byteAt body 1 ∉ labelsOf s.channels := channelOfLabel_none.1 (by simpa using used)
        have within : (byteAt body 0).toNat < s.channels.length := (List.getElem?_eq_some_iff.1 free).1
        refine channelsSound_set h ?_ ?_
        · have distinct := h.2.1
          change (labelsOf s.channels).Nodup at distinct
          rw [labelsOf_split free] at distinct fresh
          rw [labelsOf_set within]
          simp only [Option.map_none, Option.toList_none, List.append_nil] at distinct fresh
          simp only [Option.map_some, Option.toList_some, List.append_assoc, List.singleton_append]
          exact List.nodup_middle.2 (List.nodup_cons.2 ⟨fresh, distinct⟩)
        · simp only [Option.toList_some, List.mem_singleton, forall_eq]
          exact (Channel.sound_iff _).2 ⟨⟨label, least, most, nofun⟩, (directionOf_sound direction).follow⟩

theorem unbindRequest_sound (body : List Byte) (h : channelsSound s.channels) :
    channelsSound (unbindRequest body s).2.channels := by
  unfold unbindRequest
  split
  · exact h
  · exact h
  · next c bound =>
    have within : (byteAt body 0).toNat < s.channels.length := (List.getElem?_eq_some_iff.1 bound).1
    refine channelsSound_set h ?_ (by simp)
    have distinct := h.2.1
    change (labelsOf s.channels).Nodup at distinct
    rw [labelsOf_split bound] at distinct
    rw [labelsOf_set within]
    refine distinct.sublist (List.Sublist.append_right (List.Sublist.append_left ?_ _) _)
    exact List.nil_sublist _

theorem writeRequest_sound (body : List Byte) (h : channelsSound s.channels) :
    channelsSound (writeRequest body s).2.channels := by
  unfold writeRequest
  split
  · exact h
  · exact h
  · next c bound =>
    split
    · exact h
    · split_ifs with length
      · exact h
      · refine channelsSound_set h ?_ ?_
        · exact (congrArg List.Nodup (labelsOf_set_same bound (by rfl))).mpr h.2.1
        · obtain ⟨⟨label, least, most, -⟩, -⟩ := (Channel.sound_iff c).1 (channelsSound_at h bound)
          simp only [Option.toList_some, List.mem_singleton, forall_eq]
          exact (Channel.sound_iff _).2 ⟨⟨label, least, most, by simpa using length⟩, rfl, by simp⟩

theorem channelDepart_sound (h : channelsSound s.channels) : channelsSound (channelDepart s).channels := by
  refine channelsSound_map h (fun c => ?_) fun c hc => hc.departed
  unfold Channel.departed
  split
  · split <;> rfl
  · rfl

theorem channelCycleStart_sound (h : channelsSound s.channels) : channelsSound (channelCycleStart s).channels := by
  refine channelsSound_map h (fun c => ?_) fun c hc => hc.aged
  unfold Channel.aged
  split <;> rfl

theorem goOfflineRequest_channelsSound (body : List Byte) (h : channelsSound s.channels) :
    channelsSound (goOfflineRequest body s).2.channels := by
  unfold goOfflineRequest
  dsimp only
  split
  · have departed := channelDepart_sound (s := scheduleDepart .offline
      (settleCycle .offline none (giveNotices [] (leaveCycle .offline (endWalk (deferOffline s)))))) (by simpa [endWalk] using h)
    simpa [depart, signalDeparture] using departed
  · exact h

end

theorem channelsSound_unbound : channelsSound (List.replicate Config.channelCount none) :=
  ⟨by simp, by decide, fun o ho c hc => by cases List.eq_of_mem_replicate ho; cases hc⟩

/-- R79 to R93: every operation keeps the channel table sound. -/
theorem channelsLaw : UnitLaw (fun s => channelsSound s.channels) where
  untouched h _ channels _ _ := by
    rw [channels]
    exact h
  poweredOn _ := channelsSound_unbound
  handled {c run} body s handler _ h := by
    cases c <;> cases handler
    case bindChannel => exact bindRequest_sound body h
    case unbindChannel => exact unbindRequest_sound body h
    case writeChannel => exact writeRequest_sound body h
    case goOnline => simpa [goOnlineRequest_only] using h
    case goOffline => exact goOfflineRequest_channelsSound body h
    case resetNode => exact channelsSound_unbound
    case stageBegin => simpa [stageBeginRequest_only] using h
    case stageAdd => simpa [stageAddRequest_only] using h
    case stageRemove => simpa [stageRemoveRequest_only] using h
    case stageClose => simpa [stageCloseRequest_only] using h
    case stageDiscard => simpa [stageDiscardRequest_only] using h
    all_goals simpa using h
  switches number _ h := scheduleCycleStart_channelsSound number h
  accepts _ _ h := by simpa using h
  scheduleDeparts _ _ h := by simpa using h
  channelStarts _ h := channelCycleStart_sound h
  channelDeparts _ h := channelDepart_sound h
  slotEnds number owner label payload f _ h := channelSlotEnd_sound number owner label payload f h
  transmitStarts _ h := by simpa using h
  transmitDeparts _ _ h := by simpa using h
  windowOpens _ _ _ _ h := by simpa using h
  outcome _ _ h := by simpa using h
  receiveStarts _ h := by simpa using h
  receiveDeparts _ _ h := by simpa using h
  segment _ _ _ h := by simpa using h

/-- Settles O7. -/
theorem channelsStaySound : Obligations.ChannelsStaySound := fun _ _ h runs => channelsLaw.step h runs

end Sys2Proof.Machine
end

section
/-! PROOFS. R98 to R107: blocks, ids and places in the outbound queue. -/

namespace Sys2Proof.Machine

set_option Elab.async false

/-! ### Blocks (R101) -/

theorem blockHeld_iff {total supplied sent k : Nat} :
    blockHeld total supplied sent k = true ↔ 64 * k < supplied ∧ sent < 64 * k + 64 ∧ sent < total := by
  unfold blockHeld
  rw [Bool.and_eq_true, decide_eq_true_iff, decide_eq_true_iff, lt_min_iff]
  rfl

/-- R101: the multiples of 64 below a number, among the first n. -/
theorem countP_multiples (p n : Nat) : (List.range n).countP (fun k => decide (64 * k < p)) = min n ((p + 63) / 64) := by
  induction n with
  | zero => simp
  | succ n ih =>
    rw [List.range_succ, List.countP_append, ih, List.countP_singleton]
    by_cases below : 64 * n < p
    · rw [if_pos (decide_eq_true below), min_eq_left (by omega), min_eq_left (by omega)]
    · rw [if_neg (by simpa using below), min_eq_right (by omega), min_eq_right (by omega), Nat.add_zero]

/-- R101: a further piece holds the blocks of the multiples of 64 within it, besides those that its message held. -/
theorem countP_blockHeld_append {total sent o p : Nat} (kept : sent ≤ o) (fits : o + p ≤ total) (n : Nat) :
    (List.range n).countP (fun k => blockHeld total (o + p) sent k) +
        (List.range n).countP (fun k => decide (64 * k < o)) =
      (List.range n).countP (fun k => blockHeld total o sent k) +
        (List.range n).countP (fun k => decide (64 * k < o + p)) := by
  induction n with
  | zero => rfl
  | succ n ih =>
    have one : (if blockHeld total (o + p) sent n then 1 else 0) + (if decide (64 * n < o) then 1 else 0) =
        (if blockHeld total o sent n then 1 else 0) + (if decide (64 * n < o + p) then 1 else 0) := by
      simp only [blockHeld_iff, decide_eq_true_eq]
      split_ifs <;> omega
    simp only [List.range_succ, List.countP_append, List.countP_singleton]
    omega

/-- R101: what a further piece adds to the blocks of a message, which is not longer than 1,024 bytes. -/
theorem heldBlocks_append {total sent o p : Nat} (kept : sent ≤ o) (fits : o + p ≤ total) (most : total ≤ 1024) :
    (List.range 16).countP (fun k => blockHeld total (o + p) sent k) =
      (List.range 16).countP (fun k => blockHeld total o sent k) + piecesBlocks o p := by
  have added := countP_blockHeld_append kept fits 16
  rw [countP_multiples, countP_multiples, min_eq_right (by omega), min_eq_right (by omega)] at added
  unfold piecesBlocks
  simp only [Config.blockSize]
  omega

theorem Message.blocks_of_kept {m : Message} (h : m.abortingNow = false) :
    m.blocks = (List.range 16).countP (fun k => blockHeld m.total m.data.length m.sent k) := by
  unfold Message.blocks
  unfold Message.abortingNow at h
  split
  · next aborting =>
    rw [aborting] at h
    cases h
  · rfl
  · rfl

theorem Message.abortingNow_of_waiting {m : Message} (h : m.waiting = true) : m.abortingNow = false := by
  unfold Message.waiting at h
  unfold Message.abortingNow
  split at h <;> simp_all

/-- R105: the blocks of a message that is taken. -/
theorem newMessage_blocks {id dest : Byte} {cls total : Nat} {piece : List Byte} (fits : piece.length ≤ total)
    (most : total ≤ 1024) : (newMessage id dest cls total piece).blocks = piecesBlocks 0 piece.length := by
  have none : (List.range 16).countP (fun k => blockHeld total 0 0 k) = 0 := by
    simp [blockHeld]
  have added := heldBlocks_append (Nat.zero_le 0) (o := 0) (p := piece.length) (by omega) most
  rw [none, Nat.zero_add, Nat.zero_add] at added
  exact added

/-- R106: the blocks of a message that a piece has joined. -/
theorem Message.blocks_append {m : Message} {piece : List Byte} (kept : m.abortingNow = false)
    (sent : m.sent ≤ m.data.length) (fits : m.data.length + piece.length ≤ m.total) (most : m.total ≤ 1024) :
    ({ m with data := m.data ++ piece } : Message).blocks = m.blocks + piecesBlocks m.data.length piece.length := by
  rw [Message.blocks_of_kept kept, Message.blocks_of_kept (show Message.abortingNow { m with data := m.data ++ piece } = false from kept)]
  simp only [List.length_append]
  exact heldBlocks_append sent fits most

/-- R112: sending more gives blocks back, never takes any. -/
theorem heldBlocks_mono {total supplied a b : Nat} (more : a ≤ b) :
    (List.range 16).countP (fun k => blockHeld total supplied b k) ≤
      (List.range 16).countP (fun k => blockHeld total supplied a k) := by
  refine List.countP_mono_left fun k _ held => ?_
  rw [blockHeld_iff] at held ⊢
  exact ⟨held.1, more.trans_lt held.2.1, more.trans_lt held.2.2⟩

/-! ### Ids (R100) -/

/-- R100: the id found is the first, from the counter on, that no message holds, unless the search is spent. -/
theorem freeId_spec (q : List Message) (fuel : Nat) (n : Byte) :
    ∃ k ≤ fuel, freeId q fuel n = n + BitVec.ofNat 8 k ∧ (∀ j < k, ∃ m ∈ q, m.id = n + BitVec.ofNat 8 j) ∧
      (k < fuel → ∀ m ∈ q, m.id ≠ n + BitVec.ofNat 8 k) := by
  induction fuel generalizing n with
  | zero => exact ⟨0, le_rfl, by simp [freeId], by simp, by simp⟩
  | succ fuel ih =>
    unfold freeId
    split
    · next used =>
      obtain ⟨m, hm, held⟩ := List.any_eq_true.1 used
      obtain ⟨k, small, found, before, fresh⟩ := ih (n + 1)
      have shift (j : Nat) : n + 1 + BitVec.ofNat 8 j = n + BitVec.ofNat 8 (j + 1) := by
        rw [BitVec.ofNat_add, BitVec.add_assoc, BitVec.add_comm (BitVec.ofNat 8 j)]
        rfl
      refine ⟨k + 1, by omega, by rw [found, shift], fun j hj => ?_, fun hk => ?_⟩
      · cases j with
        | zero => exact ⟨m, hm, by simpa using held⟩
        | succ j =>
          rw [← shift]
          exact before j (by omega)
      · rw [← shift]
        exact fresh (by omega)
    · next unused =>
      refine ⟨0, Nat.zero_le _, by simp, by simp, fun _ m hm held => unused ?_⟩
      exact List.any_eq_true.2 ⟨m, hm, by simpa using held⟩

/-- R100: fewer than 9 messages leave one of 9 ids in a row free. -/
theorem freeId_free {q : List Message} (size : q.length < 9) (n : Byte) :
    ∃ k < 9, freeId q 9 n = n + BitVec.ofNat 8 k ∧ (∀ j < k, ∃ m ∈ q, m.id = n + BitVec.ofNat 8 j) ∧
      ∀ m ∈ q, m.id ≠ freeId q 9 n := by
  obtain ⟨k, small, found, before, fresh⟩ := freeId_spec q 9 n
  have short : k < 9 := by
    by_contra full
    obtain rfl : k = 9 := by omega
    have held : (List.range 9).map (fun j => n + BitVec.ofNat 8 j) ⊆ q.map (·.id) := by
      intro id hid
      obtain ⟨j, hj, rfl⟩ := List.mem_map.1 hid
      obtain ⟨m, hm, same⟩ := before j (List.mem_range.1 hj)
      exact List.mem_map.2 ⟨m, hm, same⟩
    have distinct : ((List.range 9).map (fun j => n + BitVec.ofNat 8 j)).Nodup := by
      refine List.Nodup.map_on (fun i hi j hj same => ?_) List.nodup_range
      have same := congrArg BitVec.toNat (add_left_cancel same)
      rw [List.mem_range] at hi hj
      simp only [BitVec.toNat_ofNat] at same
      omega
    have bound := (distinct.subperm held).length_le
    simp only [List.length_map, List.length_range] at bound
    omega
  exact ⟨k, short, found, before, by rw [found]; exact fresh short⟩

/-! ### Places (R99) -/

/-- R99: a new message stands behind every message in flight and every WAITING one of its own or a higher class. -/
theorem insertWaiting_split (m : Message) (q : List Message) :
    ∃ before after, q = before ++ after ∧ insertWaiting m q = before ++ m :: after ∧
      (∀ x ∈ before, x.waiting = true → m.cls ≤ x.cls) ∧
      ∀ x ∈ after.head?, x.waiting = true ∧ x.cls < m.cls := by
  induction q with
  | nil => exact ⟨[], [], rfl, rfl, by simp, by simp⟩
  | cons x rest ih =>
    unfold insertWaiting
    split
    · next lower => exact ⟨[], x :: rest, rfl, rfl, by simp, by simpa using lower⟩
    · next notLower =>
      obtain ⟨before, after, split, inserted, passed, next⟩ := ih
      refine ⟨x :: before, after, by rw [split]; rfl, by rw [inserted]; rfl, ?_, next⟩
      refine List.forall_mem_cons.2 ⟨fun waits => ?_, passed⟩
      simpa [waits] using notLower

/-! ### The message that holds an id -/

theorem messageOf_none {q : List Message} {id : Byte} : messageOf q id = none ↔ ∀ m ∈ q, m.id ≠ id := by
  simp [messageOf]

theorem messageOf_some {q : List Message} {id : Byte} {m : Message} (h : messageOf q id = some m) :
    m.id = id ∧ ∃ before after, q = before ++ m :: after := by
  unfold messageOf at h
  obtain ⟨named, before, after, split, -⟩ := List.find?_eq_some_iff_append.1 h
  exact ⟨by simpa using named, before, after, split⟩

section
variable {before after : List Message} {m : Message}

/-- R100: no other message of the queue holds the id. -/
theorem others_of_nodup (distinct : ((before ++ m :: after).map (·.id)).Nodup) :
    (∀ x ∈ before, x.id ≠ m.id) ∧ ∀ x ∈ after, x.id ≠ m.id := by
  rw [List.map_append, List.map_cons] at distinct
  obtain ⟨fresh, -⟩ := List.nodup_cons.1 (List.nodup_middle.1 distinct)
  rw [← List.map_append, List.mem_map] at fresh
  exact ⟨fun x hx same => fresh ⟨x, List.mem_append_left _ hx, same⟩,
    fun x hx same => fresh ⟨x, List.mem_append_right _ hx, same⟩⟩

theorem messageOf_middle (distinct : ((before ++ m :: after).map (·.id)).Nodup) :
    messageOf (before ++ m :: after) m.id = some m := by
  obtain ⟨passed, -⟩ := others_of_nodup distinct
  exact List.find?_eq_some_iff_append.2 ⟨by simp, before, after, rfl, by simpa using passed⟩

theorem replaceMessage_middle (distinct : ((before ++ m :: after).map (·.id)).Nodup) (m' : Message) :
    replaceMessage (before ++ m :: after) m.id m' = before ++ m' :: after := by
  obtain ⟨passed, later⟩ := others_of_nodup distinct
  have same (l : List Message) (others : ∀ x ∈ l, x.id ≠ m.id) : l.map (fun x => if x.id = m.id then m' else x) = l :=
    (List.map_congr_left fun x hx => if_neg (others x hx)).trans (List.map_id' l)
  unfold replaceMessage
  rw [List.map_append, List.map_cons, same before passed, same after later, if_pos rfl]

theorem removeMessage_middle (distinct : ((before ++ m :: after).map (·.id)).Nodup) :
    (before ++ m :: after).filter (fun x => x.id != m.id) = before ++ after := by
  obtain ⟨passed, later⟩ := others_of_nodup distinct
  have same (l : List Message) (others : ∀ x ∈ l, x.id ≠ m.id) : l.filter (fun x => x.id != m.id) = l :=
    List.filter_eq_self.2 fun x hx => by simpa using others x hx
  rw [List.filter_append, same before passed, List.filter_cons_of_neg (by simp), same after later]

end

end Sys2Proof.Machine
end

section
/-! PROOFS. R98 to R119: the outbound queue and the transmit store stay sound. Settles O8. -/

namespace Sys2Proof.Machine

set_option Elab.async false

/-! ### Soundness in pieces -/

/-- R98 to R100: the messages of the queue and their order. -/
abbrev queueSound (q : List Message) : Prop :=
  q.length ≤ Config.queueSize ∧ (q.map (·.id)).Nodup ∧ queueOrdered q ∧ ∀ m ∈ q, m.sound

/-- R109: the first message backs the frame on the line. -/
abbrev headBacks (q : List Message) (o : Option OnLine) : Prop := ∀ m ∈ q.head?.toList, ∀ f ∈ o.toList, m.backs f

/-- R101: free and held blocks total 24. -/
abbrev blocksTotal (free : Nat) (q : List Message) : Prop := free + (q.map Message.blocks).sum = Config.txBlocks

theorem TransmitUnit.sound_iff (u : TransmitUnit) :
    u.sound ↔ queueSound u.queue ∧ headBacks u.queue u.onLine ∧ blocksTotal u.free u.queue := by
  simp only [TransmitUnit.sound, and_assoc]

/-- Soundness does not look at the id counter and the room watch. -/
theorem TransmitUnit.sound_congr {u v : TransmitUnit} (h : u.sound) (queue : v.queue = u.queue) (free : v.free = u.free)
    (onLine : v.onLine = u.onLine) : v.sound := by
  rw [TransmitUnit.sound_iff] at h ⊢
  rw [queue, free, onLine]
  exact h

theorem TransmitUnit.reset_sound : TransmitUnit.reset.sound :=
  ⟨by decide, by decide, List.Pairwise.nil, nofun, nofun, rfl⟩

section
variable {m : Message} {rest : List Message}

/-- R99: behind the first message all are WAITING. -/
theorem rest_waiting (h : queueSound (m :: rest)) : ∀ x ∈ rest, x.waiting = true := by
  obtain ⟨-, -, ordered, -⟩ := h
  exact fun x hx => ((List.pairwise_cons.1 ordered).1 x hx).1

theorem queueSound_tail (h : queueSound (m :: rest)) : queueSound rest := by
  obtain ⟨size, distinct, ordered, each⟩ := h
  exact ⟨(Nat.le_succ _).trans size, (List.nodup_cons.1 distinct).2, ordered.of_cons,
    fun x hx => each x (List.mem_cons_of_mem _ hx)⟩

theorem queueSound_head (h : queueSound (m :: rest)) : m.sound := h.2.2.2 m List.mem_cons_self

theorem waiting_backs (h : m.waiting = true) (o : OnLine) : m.backs o := by
  unfold Message.waiting at h
  unfold Message.backs
  split at h <;> simp_all

theorem waiting_headBacks {q : List Message} (h : ∀ x ∈ q, x.waiting = true) (o : Option OnLine) : headBacks q o :=
  fun x hx f _ => waiting_backs (h x (List.mem_of_mem_head? (Option.mem_toList.1 hx))) f

theorem headBacks_none (q : List Message) : headBacks q none := nofun

/-- The first message in another state, under its id and of its class, keeps the queue in order. -/
theorem queueSound_replace {m' : Message} (h : queueSound (m :: rest)) (id : m'.id = m.id) (cls : m'.cls = m.cls)
    (waiting : m'.waiting = true → m.waiting = true) (sound : m'.sound) : queueSound (m' :: rest) := by
  obtain ⟨size, distinct, ordered, each⟩ := h
  refine ⟨size, ?_, ?_, ?_⟩
  · rw [List.map_cons, id]
    exact distinct
  · obtain ⟨head, tail⟩ := List.pairwise_cons.1 ordered
    refine List.pairwise_cons.2 ⟨fun x hx => ⟨(head x hx).1, fun waits => ?_⟩, tail⟩
    rw [cls]
    exact (head x hx).2 (waiting waits)
  · exact List.forall_mem_cons.2 ⟨sound, fun x hx => each x (List.mem_cons_of_mem _ hx)⟩

end

/-! ### The first message leaves, or becomes ABORTING -/

section
variable {s : State} {m m₀ : Message} {r : InFlight} {rest : List Message}

theorem examineRoom_sound (n : Nat) (h : s.tx.sound) : (examineRoom n s).tx.sound :=
  TransmitUnit.sound_congr h (examineRoom_queue n s) (examineRoom_free n s) (examineRoom_onLine n s)

/-- R101: the first message leaves and its blocks go back. -/
theorem removeFirst_sound (q : queueSound (m₀ :: rest)) (total : blocksTotal s.tx.free (m :: rest)) :
    (returnBlocks m.blocks (s.withQueue rest)).tx.sound := by
  refine (TransmitUnit.sound_iff _).2 ⟨queueSound_tail q, waiting_headBacks (rest_waiting q) _, ?_⟩
  simpa [blocksTotal, returnBlocks, State.withQueue, Nat.add_assoc] using total

theorem failFirst_sound (q : queueSound (m₀ :: rest)) (total : blocksTotal s.tx.free (m :: rest)) (reason : FailReason)
    (a : Bool) : (failFirst m rest reason a s).tx.sound :=
  examineRoom_sound _ (by rw [giveNotice_tx]; exact removeFirst_sound q total)

theorem sentFirst_sound (q : queueSound (m₀ :: rest)) (total : blocksTotal s.tx.free (m :: rest)) :
    (sentFirst m rest s).tx.sound :=
  examineRoom_sound _ (by rw [giveNotice_tx]; exact removeFirst_sound q total)

/-- R101: the first message in another state, the blocks it no longer holds gone back. -/
theorem replaceFirst_sound {m' : Message} {free : Nat} (q : queueSound (m' :: rest))
    (backs : headBacks (m' :: rest) s.tx.onLine) (total : blocksTotal s.tx.free (m :: rest))
    (returned : free + m'.blocks = m.blocks) : (returnBlocks free (s.withQueue (m' :: rest))).tx.sound := by
  refine (TransmitUnit.sound_iff _).2 ⟨q, backs, ?_⟩
  simp only [blocksTotal, List.map_cons, List.sum_cons] at total
  simp only [blocksTotal, returnBlocks, State.withQueue, List.map_cons, List.sum_cons]
  omega

/-- R116: the reasons for which a message becomes ABORTING. -/
abbrev FailReason.aborts (reason : FailReason) : Prop := reason = .host ∨ reason = .starved ∨ reason = .contention

/-- R98: what holds of a message whatever its state. -/
abbrev Message.ranged (m : Message) : Prop :=
  1 ≤ m.total ∧ m.total ≤ Config.maxMessage ∧ m.cls ≤ 3 ∧ m.data.length ≤ m.total ∧ m.sent ≤ m.data.length

theorem Message.sound.ranged (h : m.sound) : m.ranged := by
  obtain ⟨least, most, cls, data, sent, -⟩ := h
  exact ⟨least, most, cls, data, sent⟩

theorem Message.sound_inFlight (state : m.state = .inFlight r) :
    m.sound ↔ m.ranged ∧ r.sound m ∧ r.sinceWon < Config.contentionLimit ∧ r.starve < Config.starveLimit := by
  simp only [Message.sound, state, and_assoc]

theorem abortingWith_sound (ranged : m.ranged) (sound : r.sound m) (won : r.next ≠ 0) {reason : FailReason}
    (aborts : reason.aborts) : (m.abortingWith r reason).sound := by
  obtain ⟨least, most, cls, data, sent⟩ := ranged
  have kept : (m.data.take m.sent).length = m.sent := by simpa using sent
  refine ⟨least, most, cls, ?_, kept.ge, sound, Nat.one_le_iff_ne_zero.2 won, kept, by decide, aborts⟩
  exact kept.trans_le (sent.trans data)

/-- R116: the message in flight becomes ABORTING, or leaves with no segment WON; `m₀` is the message as it stood. -/
theorem enterAborting_sound (q : queueSound (m₀ :: rest)) (id : m.id = m₀.id) (cls : m.cls = m₀.cls)
    (ranged : m.ranged) (sound : r.sound m) (total : blocksTotal s.tx.free (m :: rest)) {reason : FailReason}
    (aborts : reason.aborts) : (enterAborting m r rest reason s).tx.sound := by
  unfold enterAborting
  split_ifs with won
  · exact failFirst_sound q total _ _
  · have replaced := queueSound_replace (m' := m.abortingWith r reason) q id cls nofun
      (abortingWith_sound ranged sound won aborts)
    refine examineRoom_sound _ (replaceFirst_sound replaced ?_ total rfl)
    intro x hx f _
    obtain rfl : x = m.abortingWith r reason := by simpa using hx
    exact trivial

/-- R118: a pending abort acts on the first message, which is in flight. -/
theorem actPending_sound (h : s.tx.sound) (queue : s.tx.queue = m :: rest) (state : m.state = .inFlight r) :
    (actPending m r rest s).tx.sound := by
  unfold actPending
  split_ifs
  · obtain ⟨q, -, total⟩ := (TransmitUnit.sound_iff _).1 h
    rw [queue] at q total
    obtain ⟨ranged, sound, -⟩ := (Message.sound_inFlight state).1 (queueSound_head q)
    exact enterAborting_sound q rfl rfl ranged sound total (.inl rfl)
  · exact h

/-! ### Outcomes -/

theorem Message.blocks_inFlight (state : m.state = .inFlight r) :
    m.blocks = (List.range 16).countP (fun k => blockHeld m.total m.data.length m.sent k) :=
  Message.blocks_of_kept (by simp [Message.abortingNow, state])

/-- R103: a segment that is not the last one ends before the message does. -/
theorem segmentEnd_of_lt {total i : Nat} (h : i + 1 < segmentCount total) :
    segmentEnd total i = Config.segmentSize * (i + 1) := by
  unfold segmentCount at h
  unfold segmentEnd
  simp only [Config.segmentSize] at h ⊢
  omega

/-- R112: a message after a segment of it that is not the last has been WON. -/
theorem advanced_sound (state : m.state = .inFlight r) (sound : m.sound) (supplied : m.suppliedSegment r.next = true)
    (more : r.next + 1 ≠ segmentCount m.total) : (m.advanced r).sound := by
  obtain ⟨⟨least, most, cls, data, -⟩, ⟨next, -⟩, -⟩ := (Message.sound_inFlight state).1 sound
  have within : r.next + 1 < segmentCount m.total := by omega
  have supplied : segmentEnd m.total r.next ≤ m.data.length := by simpa [Message.suppliedSegment] using supplied
  exact ⟨least, most, cls, data, supplied, ⟨within, segmentEnd_of_lt within, Nat.zero_le _, Nat.zero_le _, (by decide : 0 < Config.disturbLimit)⟩,
    (by decide : 0 < Config.contentionLimit), (by decide : 0 < Config.starveLimit)⟩

theorem advanced_blocks_le (state : m.state = .inFlight r) (sound : m.sound) : (m.advanced r).blocks ≤ m.blocks := by
  obtain ⟨⟨-, -, -, data, sent⟩, ⟨next, sentEq, -⟩, -⟩ := (Message.sound_inFlight state).1 sound
  rw [Message.blocks_inFlight state, Message.blocks_inFlight (m := m.advanced r) (r := _) rfl]
  refine heldBlocks_mono ?_
  show m.sent ≤ segmentEnd m.total r.next
  unfold segmentEnd
  simp only [Config.segmentSize] at sentEq ⊢
  omega

theorem dataWon_sound (h : s.tx.sound) (queue : s.tx.queue = m :: rest) (state : m.state = .inFlight r)
    (onLine : s.tx.onLine = none) (supplied : m.suppliedSegment r.next = true) : (dataWon m r rest s).tx.sound := by
  obtain ⟨q, -, total⟩ := (TransmitUnit.sound_iff _).1 h
  rw [queue] at q total
  have sound := queueSound_head q
  unfold dataWon
  split_ifs with last
  · exact sentFirst_sound q total
  · have less := advanced_blocks_le state sound
    refine actPending_sound ?_ (by simp [returnBlocks, State.withQueue]) rfl
    refine examineRoom_sound _ (replaceFirst_sound ?_ ?_ total (Nat.sub_add_cancel less))
    · exact queueSound_replace q rfl rfl nofun (advanced_sound state sound supplied last)
    · rw [onLine]
      exact headBacks_none _

/-- The message in flight with other counts in its record, its segments WON being those they were. -/
theorem recount_sound {r' : InFlight} (h : s.tx.sound) (queue : s.tx.queue = m :: rest) (state : m.state = .inFlight r)
    (next : r'.next = r.next) (sinceWon : r'.sinceWon < Config.contentionLimit) (starve : r'.starve < Config.starveLimit)
    (disturbed : r'.disturbed < Config.disturbLimit) :
    (s.withQueue ({ m with state := .inFlight r' } :: rest)).tx.sound := by
  obtain ⟨q, backs, total⟩ := (TransmitUnit.sound_iff _).1 h
  rw [queue] at q backs total
  obtain ⟨ranged, ⟨within, sent, -⟩, -⟩ := (Message.sound_inFlight state).1 (queueSound_head q)
  refine (TransmitUnit.sound_iff _).2 ⟨queueSound_replace q rfl rfl nofun ?_, ?_, ?_⟩
  · exact (Message.sound_inFlight rfl).2
      ⟨ranged, ⟨next ▸ within, next ▸ sent, sinceWon.le, starve.le, disturbed⟩, sinceWon, starve⟩
  · intro x hx f hf
    obtain rfl : x = { m with state := .inFlight r' } := by simpa using hx
    have backed := backs m (by simp) f hf
    simp only [Message.backs, state] at backed
    intro data
    rw [next]
    exact backed data
  · have blocks : ({ m with state := .inFlight r' } : Message).blocks = m.blocks := by
      rw [Message.blocks_inFlight state]
      exact Message.blocks_inFlight rfl
    simpa [blocksTotal, State.withQueue, blocks] using total

theorem dataDisturbed_sound (h : s.tx.sound) (queue : s.tx.queue = m :: rest) (state : m.state = .inFlight r) :
    (dataDisturbed m r rest s).tx.sound := by
  obtain ⟨q, -, total⟩ := (TransmitUnit.sound_iff _).1 h
  rw [queue] at q total
  obtain ⟨-, -, sinceWon, starve⟩ := (Message.sound_inFlight state).1 (queueSound_head q)
  unfold dataDisturbed
  split_ifs with limit
  · exact failFirst_sound q total _ _
  · exact actPending_sound (recount_sound h queue state rfl sinceWon starve (Nat.lt_of_not_le limit)) rfl rfl

theorem clearOnLine_sound (h : s.tx.sound) : (clearOnLine s).tx.sound := by
  obtain ⟨q, -, total⟩ := (TransmitUnit.sound_iff _).1 h
  exact (TransmitUnit.sound_iff _).2 ⟨q, headBacks_none _, total⟩

theorem applyOutcome_sound {o : OnLine} (result : SegmentOutcome) (h : s.tx.sound) (onLine : s.tx.onLine = none)
    (backs : headBacks s.tx.queue (some o)) : (applyOutcome o result s).tx.sound := by
  obtain ⟨q, -, total⟩ := (TransmitUnit.sound_iff _).1 h
  unfold applyOutcome
  split
  · exact h
  · next m rest queue =>
    rw [queue] at backs q total
    split
    · next r state abort =>
      have backed := backs m (by simp) o (by simp)
      simp only [Message.backs, state] at backed
      exact dataWon_sound h queue state onLine (backed abort)
    · next r state _ => exact actPending_sound h queue state
    · next r state _ => exact dataDisturbed_sound h queue state
    · exact failFirst_sound q total _ _
    · exact h

theorem handOutcome_sound (result : SegmentOutcome) (h : s.tx.sound) : (handOutcome result s).tx.sound := by
  have backs := ((TransmitUnit.sound_iff _).1 h).2.1
  unfold handOutcome
  split
  · next o onLine =>
    rw [onLine] at backs
    exact applyOutcome_sound result (clearOnLine_sound h) rfl backs
  · exact h

/-! ### Cycle starts and departures -/

theorem countInFlight_sound (h : s.tx.sound) (queue : s.tx.queue = m :: rest) (state : m.state = .inFlight r) :
    (countInFlight m r rest s).tx.sound := by
  obtain ⟨q, -, total⟩ := (TransmitUnit.sound_iff _).1 h
  rw [queue] at q total
  obtain ⟨ranged, ⟨within, sent, -, -, disturbed⟩, sinceWon, starve⟩ :=
    (Message.sound_inFlight state).1 (queueSound_head q)
  have starves : starveAfter m r ≤ Config.starveLimit := by
    unfold starveAfter
    split
    · exact Nat.zero_le _
    · exact starve
  have blocks : ({ m with state := .inFlight (r.counted m) } : Message).blocks = m.blocks := by
    rw [Message.blocks_inFlight state]
    exact Message.blocks_inFlight rfl
  unfold countInFlight
  dsimp only
  split
  · next reason reached =>
    have aborts : reason.aborts := by
      unfold limitReached at reached
      split_ifs at reached <;> cases reached
      · exact .inr (.inl rfl)
      · exact .inr (.inr rfl)
    refine enterAborting_sound (m₀ := m) (m := { m with state := .inFlight (r.counted m) }) (s := s.withQueue _) q rfl rfl
      ranged ?_ ?_ aborts
    · exact ⟨within, sent, sinceWon, starves, disturbed⟩
    · simpa [blocksTotal, State.withQueue, blocks] using total
  · next none =>
    unfold limitReached at none
    split_ifs at none with starved contended
    exact recount_sound h queue state rfl (Nat.lt_of_not_le contended) (Nat.lt_of_not_le starved) disturbed

theorem countAborting_sound {reason : FailReason} {attempts : Nat} (h : s.tx.sound) (queue : s.tx.queue = m :: rest)
    (state : m.state = .aborting r reason attempts) : (countAborting m r reason attempts rest s).tx.sound := by
  obtain ⟨q, -, total⟩ := (TransmitUnit.sound_iff _).1 h
  rw [queue] at q total
  have sound := queueSound_head q
  simp only [Message.sound, state] at sound
  obtain ⟨least, most, cls, data, sent, inFlight, won, kept, -, aborts⟩ := sound
  unfold countAborting
  split_ifs with limit
  · exact failFirst_sound q total _ _
  · have replaced : queueSound ({ m with state := .aborting r reason (attempts + 1) } :: rest) :=
      queueSound_replace q rfl rfl nofun
        ⟨least, most, cls, data, sent, inFlight, won, kept, Nat.lt_of_not_le limit, aborts⟩
    refine (TransmitUnit.sound_iff _).2 ⟨replaced, ?_, ?_⟩
    · intro x hx f _
      obtain rfl : x = { m with state := .aborting r reason (attempts + 1) } := by simpa using hx
      exact trivial
    · simpa [blocksTotal, State.withQueue, Message.blocks, state] using total

theorem transmitCycleStart_sound (h : s.tx.sound) : (transmitCycleStart s).tx.sound := by
  unfold transmitCycleStart
  split
  · exact h
  · next m rest queue =>
    split
    · exact h
    · next r state => exact countInFlight_sound h queue state
    · next r reason attempts state => exact countAborting_sound h queue state

theorem transmitDepart_sound (reason : FailReason) (h : s.tx.sound) : (transmitDepart reason s).tx.sound := by
  have cleared := clearOnLine_sound h
  obtain ⟨q, -, total⟩ := (TransmitUnit.sound_iff _).1 h
  unfold transmitDepart
  split
  · exact cleared
  · next m rest queue =>
    rw [queue] at q total
    split
    · exact cleared
    · exact failFirst_sound (s := clearOnLine s) q total _ _
    · exact failFirst_sound (s := clearOnLine s) q total _ _

/-! ### Offering a segment -/

theorem offered_sound (h : m.sound) : m.offered.sound := by
  unfold Message.offered
  split
  · next waits =>
    unfold Message.waiting at waits
    unfold Message.sound at h
    split at waits
    · next waiting =>
      simp only [waiting] at h
      obtain ⟨least, most, cls, data, sent, none⟩ := h
      have some : 0 < segmentCount m.total := by
        unfold segmentCount
        simp only [Config.segmentSize]
        omega
      exact ⟨least, most, cls, data, sent, ⟨some, none, by decide, by decide, by decide⟩, by decide, by decide⟩
    · cases waits
    · cases waits
  · exact h

theorem offered_blocks (m : Message) : m.offered.blocks = m.blocks := by
  unfold Message.offered
  split
  · next waits =>
    rw [Message.blocks_of_kept (Message.abortingNow_of_waiting waits)]
    exact Message.blocks_of_kept rfl
  · rfl

/-- R109: the segment that is offered is supplied. -/
theorem offered_backs {effective : Nat} {address : Byte} {f : SegmentFrame} {o : OnLine}
    (offers : candidateOf m effective address = some (f, o)) : m.offered.backs o := by
  unfold candidateOf at offers
  unfold Message.offered Message.waiting
  split at offers
  · next aborting =>
    simp [aborting, Message.backs]
  · next r inFlight =>
    split_ifs at offers with supplied
    cases offers
    simp [inFlight, Message.backs, supplied]
  · next waiting =>
    split_ifs at offers with supplied
    cases offers
    simp only [waiting, Message.backs, if_true]
    exact fun _ => supplied

theorem offerFirst_sound {permission : Bool} {floor : Nat} {address : Byte} {f : SegmentFrame} {o : OnLine}
    (h : s.tx.sound) (offers : candidate s.tx.queue permission floor address = some (f, o)) :
    (offerFirst o s).tx.sound := by
  obtain ⟨q, -, total⟩ := (TransmitUnit.sound_iff _).1 h
  unfold candidate at offers
  unfold offerFirst
  split at offers
  · cases offers
  · next m rest queue =>
    rw [queue] at q total
    split_ifs at offers
    refine (TransmitUnit.sound_iff _).2 ⟨queueSound_replace q ?_ ?_ ?_ (offered_sound (queueSound_head q)), ?_, ?_⟩
    · unfold Message.offered
      split <;> rfl
    · unfold Message.offered
      split <;> rfl
    · unfold Message.offered
      split
      · nofun
      · exact id
    · intro x hx g hg
      obtain rfl : x = m.offered := by simpa using hx
      obtain rfl : g = o := by simpa using hg
      exact offered_backs offers
    · simpa [blocksTotal, offered_blocks] using total

theorem openWindow_sound (start floor : Nat) (way : Contention) (h : s.tx.sound) :
    (openWindow start floor way s).tx.sound := by
  obtain ⟨-, same⟩ | ⟨f, o, offers, same⟩ := openWindow_cases start floor way s
  · rw [same]
    exact h
  · rw [same]
    simpa using offerFirst_sound h offers

/-! ### The requests -/

theorem queueOrdered_insert {m : Message} {before after : List Message} (ordered : queueOrdered (before ++ after))
    (waits : m.waiting = true) (passed : ∀ x ∈ before, x.waiting = true → m.cls ≤ x.cls)
    (next : ∀ x ∈ after.head?, x.waiting = true ∧ x.cls < m.cls) : queueOrdered (before ++ m :: after) := by
  obtain ⟨front, back, between⟩ := List.pairwise_append.1 ordered
  have lower : ∀ x ∈ after, x.waiting = true ∧ x.cls ≤ m.cls := by
    rcases after with _ | ⟨y, after⟩
    · simp
    · obtain ⟨waitsNext, lowerNext⟩ := next y rfl
      refine List.forall_mem_cons.2 ⟨⟨waitsNext, lowerNext.le⟩, fun x hx => ?_⟩
      obtain ⟨waitsLater, lowerLater⟩ := (List.pairwise_cons.1 back).1 x hx
      exact ⟨waitsLater, (lowerLater waitsNext).trans lowerNext.le⟩
  refine List.pairwise_append.2 ⟨front, List.pairwise_cons.2 ⟨fun x hx => ⟨(lower x hx).1, fun _ => (lower x hx).2⟩, back⟩,
    fun x hx => List.forall_mem_cons.2 ⟨⟨waits, passed x hx⟩, between x hx⟩⟩

theorem acceptMessage_sound {dest : Byte} {cls total : Nat} {piece : List Byte} (h : s.tx.sound) (clsOk : cls ≤ 3)
    (least : 1 ≤ total) (most : total ≤ 1024) (fits : piece.length ≤ total) (room : s.tx.queue.length < 8)
    (blocks : piecesBlocks 0 piece.length ≤ s.tx.free) : (acceptMessage dest cls total piece s).2.tx.sound := by
  obtain ⟨⟨-, distinct, ordered, each⟩, backs, held⟩ := (TransmitUnit.sound_iff _).1 h
  obtain ⟨-, -, -, -, fresh⟩ := freeId_free (q := s.tx.queue) (by omega) s.tx.idCounter
  obtain ⟨before, after, split, inserted, passed, next⟩ :=
    insertWaiting_split (newMessage (freeId s.tx.queue 9 s.tx.idCounter) dest cls total piece) s.tx.queue
  rw [TransmitUnit.sound_iff]
  simp only [acceptMessage, inserted]
  rw [split] at distinct ordered each backs held room
  refine ⟨⟨?_, ?_, queueOrdered_insert ordered rfl passed next, ?_⟩, ?_, ?_⟩
  · simp only [List.length_append, List.length_cons] at room ⊢
    exact room
  · rw [List.map_append, List.map_cons]
    rw [List.map_append] at distinct
    refine List.nodup_middle.2 (List.nodup_cons.2 ⟨fun taken => ?_, distinct⟩)
    rw [← List.map_append, List.mem_map] at taken
    obtain ⟨x, hx, same⟩ := taken
    rw [← split] at hx
    exact fresh x hx same
  · intro x hx
    rw [List.mem_append, List.mem_cons] at hx
    obtain hx | rfl | hx := hx
    · exact each x (List.mem_append_left _ hx)
    · exact ⟨least, most, clsOk, fits, Nat.zero_le _, rfl⟩
    · exact each x (List.mem_append_right _ hx)
  · rcases before with _ | ⟨y, before⟩
    · intro x hx f _
      obtain rfl : x = newMessage _ dest cls total piece := by simpa using hx
      exact waiting_backs rfl f
    · exact backs
  · simp only [blocksTotal, List.map_append, List.map_cons, List.sum_append, List.sum_cons] at held ⊢
    rw [newMessage_blocks fits most]
    omega

theorem sendRequest_sound (body : List Byte) (h : s.tx.sound) : (sendRequest body s).2.tx.sound := by
  unfold sendRequest
  dsimp only
  split_ifs with dest cls total fits room blocks
  · exact h
  · exact h
  · exact h
  · exact h
  · exact h
  · exact h
  · simp only [Bool.or_eq_true, decide_eq_true_eq, not_or, not_lt] at total
    exact acceptMessage_sound h (Nat.le_of_not_lt cls) total.1 total.2 (Nat.le_of_not_lt fits) (Nat.lt_of_not_le room)
      (Nat.le_of_not_lt blocks)

/-- A message of the queue in another state, under its id, of its class and WAITING if it was. -/
theorem queueSound_middle {before after : List Message} {m' : Message} (h : queueSound (before ++ m :: after))
    (id : m'.id = m.id) (cls : m'.cls = m.cls) (waiting : m'.waiting = m.waiting) (sound : m'.sound) :
    queueSound (before ++ m' :: after) := by
  obtain ⟨size, distinct, ordered, each⟩ := h
  refine ⟨by simpa using size, by simpa [id] using distinct, ?_, ?_⟩
  · unfold queueOrdered at ordered ⊢
    simpa only [List.pairwise_append, List.pairwise_cons, List.forall_mem_cons, cls, waiting] using ordered
  · simp only [List.forall_mem_append, List.forall_mem_cons] at each ⊢
    exact ⟨each.1, sound, each.2.2⟩

/-- Another message in the place of one of the queue: how the head and the blocks follow. -/
theorem middle_sound {before after : List Message} {m' : Message} {free : Nat} (h : s.tx.sound)
    (queue : s.tx.queue = before ++ m :: after) (replaced : queueSound (before ++ m' :: after))
    (backs : ∀ o, m.backs o → m'.backs o) (blocks : free + m'.blocks = s.tx.free + m.blocks) :
    ({ s.tx with queue := before ++ m' :: after, free := free } : TransmitUnit).sound := by
  obtain ⟨-, backed, total⟩ := (TransmitUnit.sound_iff _).1 h
  rw [queue] at backed total
  refine (TransmitUnit.sound_iff _).2 ⟨replaced, ?_, ?_⟩
  · rcases before with _ | ⟨y, before⟩
    · intro x hx f hf
      obtain rfl : x = m' := by simpa using hx
      exact backs f (backed m (by simp) f hf)
    · exact backed
  · simp only [blocksTotal, List.map_append, List.map_cons, List.sum_append, List.sum_cons] at total ⊢
    omega

theorem appendPiece_sound {piece : List Byte} {id : Byte} (h : s.tx.sound) (found : messageOf s.tx.queue id = some m)
    (kept : m.abortingNow = false) (fits : m.data.length + piece.length ≤ m.total)
    (blocks : piecesBlocks m.data.length piece.length ≤ s.tx.free) : (appendPiece m piece s).2.tx.sound := by
  obtain ⟨-, before, after, queue⟩ := messageOf_some found
  obtain ⟨q, -, -⟩ := (TransmitUnit.sound_iff _).1 h
  rw [queue] at q
  have sound := q.2.2.2 m (by simp)
  obtain ⟨least, most, cls, data, sent⟩ := sound.ranged
  have longer : m.data.length ≤ (m.data ++ piece).length := by simp
  have grown : ({ m with data := m.data ++ piece } : Message).sound := by
    refine ⟨least, most, cls, by simpa using fits, sent.trans longer, ?_⟩
    unfold Message.sound at sound
    obtain ⟨-, -, -, -, -, state⟩ := sound
    unfold Message.abortingNow at kept
    split at kept
    · cases kept
    · next waiting =>
      simp only [waiting] at state ⊢
      exact state
    · next r inFlight =>
      simp only [inFlight] at state ⊢
      exact state
  simp only [appendPiece, queue, replaceMessage_middle q.2.1]
  refine middle_sound h queue (queueSound_middle q rfl rfl rfl grown) (fun o backed => ?_) ?_
  · unfold Message.backs at backed ⊢
    split at backed
    · next r inFlight =>
      simp only [inFlight]
      intro data
      have supplied := backed data
      simp only [Message.suppliedSegment, decide_eq_true_eq] at supplied ⊢
      exact supplied.trans longer
    · next waiting => simp [waiting]
    · next aborting => simp [aborting]
  · rw [Message.blocks_append kept sent fits most]
    omega

theorem pieceRequest_sound (body : List Byte) (h : s.tx.sound) : (pieceRequest body s).2.tx.sound := by
  unfold pieceRequest
  dsimp only
  split
  · exact h
  · next m found =>
    split_ifs with aborting offset fits blocks
    · exact h
    · exact h
    · exact h
    · exact h
    · obtain offset : (halfAt body 1).toNat = m.data.length := not_not.1 offset
      rw [offset] at fits blocks
      exact appendPiece_sound h found (by simpa using aborting) (Nat.le_of_not_lt fits) (Nat.le_of_not_lt blocks)

theorem removeWaiting_sound {before after : List Message} (h : s.tx.sound) (queue : s.tx.queue = before ++ m :: after) :
    (removeWaiting m s).tx.sound := by
  obtain ⟨q, backs, total⟩ := (TransmitUnit.sound_iff _).1 h
  rw [queue] at q backs total
  obtain ⟨size, distinct, ordered, each⟩ := id q
  have sub : (before ++ after).Sublist (before ++ m :: after) := (List.sublist_cons_self m after).append_left before
  refine examineRoom_sound _ ((TransmitUnit.sound_iff _).2 ?_)
  simp only [returnBlocks, State.withQueue, queue, removeMessage_middle distinct]
  refine ⟨⟨sub.length_le.trans size, distinct.sublist (sub.map _), ordered.sublist sub, fun x hx => each x (sub.subset hx)⟩,
    ?_, ?_⟩
  · rcases before with _ | ⟨y, before⟩
    · exact waiting_headBacks (rest_waiting q) _
    · exact backs
  · simp only [blocksTotal, List.map_append, List.map_cons, List.sum_append, List.sum_cons] at total ⊢
    omega

theorem abortInFlight_sound {before after : List Message} (h : s.tx.sound) (queue : s.tx.queue = before ++ m :: after)
    (state : m.state = .inFlight r) : (abortInFlight m r s).tx.sound := by
  obtain ⟨q, -, total⟩ := (TransmitUnit.sound_iff _).1 h
  rw [queue] at q total
  have sound := q.2.2.2 m (by simp)
  obtain ⟨ranged, inFlight, sinceWon, starve⟩ := (Message.sound_inFlight state).1 sound
  have first : before = [] := by
    rcases before with _ | ⟨y, before⟩
    · rfl
    · have waits := rest_waiting q m (by simp)
      simp [Message.waiting, state] at waits
  subst first
  unfold abortInFlight
  split_ifs
  · rw [queue, replaceMessage_middle q.2.1]
    exact recount_sound h queue state rfl sinceWon starve inFlight.2.2.2.2
  · rw [queue]
    exact enterAborting_sound q rfl rfl ranged inFlight total (.inl rfl)

theorem abortRequest_sound (body : List Byte) (h : s.tx.sound) : (abortRequest body s).2.tx.sound := by
  unfold abortRequest
  split
  · exact h
  · next m found =>
    obtain ⟨-, before, after, queue⟩ := messageOf_some found
    split
    · exact removeWaiting_sound h queue
    · next r inFlight => exact abortInFlight_sound h queue inFlight
    · exact h

theorem goOfflineRequest_tx_sound (body : List Byte) (h : s.tx.sound) : (goOfflineRequest body s).2.tx.sound := by
  unfold goOfflineRequest
  dsimp only
  split
  · have departed := transmitDepart_sound .offline (s := channelDepart (scheduleDepart .offline
      (settleCycle .offline none (giveNotices [] (leaveCycle .offline (endWalk (deferOffline s)))))))
      (by simpa [endWalk] using h)
    simpa [depart, signalDeparture, Destination.failReason] using departed
  · exact h

end

/-- R98 to R119: every operation keeps the transmit message unit sound. -/
theorem transmitLaw : UnitLaw (fun s => s.tx.sound) where
  untouched h _ _ tx _ := by
    rw [tx]
    exact h
  poweredOn _ := TransmitUnit.reset_sound
  handled {c run} body s handler _ h := by
    cases c <;> cases handler
    case sendMessage => exact sendRequest_sound body h
    case messagePiece => exact pieceRequest_sound body h
    case abortMessage => exact abortRequest_sound body h
    case goOnline => simpa [goOnlineRequest_only] using h
    case goOffline => exact goOfflineRequest_tx_sound body h
    case resetNode => exact TransmitUnit.reset_sound
    case stageBegin => simpa [stageBeginRequest_only] using h
    case stageAdd => simpa [stageAddRequest_only] using h
    case stageRemove => simpa [stageRemoveRequest_only] using h
    case stageClose => simpa [stageCloseRequest_only] using h
    case stageDiscard => simpa [stageDiscardRequest_only] using h
    all_goals simpa using h
  switches _ _ h := by simpa using h
  accepts _ _ h := by simpa using h
  scheduleDeparts _ _ h := by simpa using h
  channelStarts _ h := by simpa using h
  channelDeparts _ h := by simpa using h
  slotEnds number owner label payload f s h := by
    rw [(channelSlotEnd_only number owner label payload f s).2.2.2.1]
    exact h
  transmitStarts _ h := transmitCycleStart_sound h
  transmitDeparts reason _ h := transmitDepart_sound reason h
  windowOpens start floor way _ h := openWindow_sound start floor way h
  outcome result _ h := handOutcome_sound result h
  receiveStarts _ h := by simpa using h
  receiveDeparts _ _ h := by simpa using h
  segment _ _ _ h := by simpa using h

/-- Settles O8. -/
theorem transmitUnitStaysSound : Obligations.TransmitUnitStaysSound := fun _ _ h runs => transmitLaw.step h runs

end Sys2Proof.Machine
end

section
/-! PROOFS. R122 to R142: places, handles, records and blocks of the receive message unit. -/

namespace Sys2Proof.Machine

set_option Elab.async false

/-! ### Places (R125) -/

/-- R125: the open contexts, in the order of their places. -/
abbrev contextsOf (places : List (Option Context)) : List Context := places.filterMap id

theorem mem_contextsOf {places : List (Option Context)} {c : Context} : c ∈ contextsOf places ↔ some c ∈ places := by
  simp [contextsOf]

theorem contextsOf_set {places : List (Option Context)} {p : Nat} (within : p < places.length) (o : Option Context) :
    contextsOf (places.set p o) = contextsOf (places.take p) ++ o.toList ++ contextsOf (places.drop (p + 1)) := by
  rw [List.set_eq_take_append_cons_drop, if_pos within, contextsOf, List.filterMap_append]
  cases o with
  | none => rw [List.filterMap_cons_none rfl, Option.toList_none, List.append_nil]
  | some c => rw [List.filterMap_cons_some (f := id) (b := c) rfl, Option.toList_some, List.append_assoc, List.singleton_append]

theorem contextsOf_split {places : List (Option Context)} {p : Nat} {o : Option Context} (held : places[p]? = some o) :
    contextsOf places = contextsOf (places.take p) ++ o.toList ++ contextsOf (places.drop (p + 1)) := by
  obtain ⟨within, rfl⟩ := List.getElem?_eq_some_iff.1 held
  rw [← contextsOf_set within, List.set_getElem_self]

theorem findPlace_some {test : Context → Bool} {places : List (Option Context)} {p q : Nat} {c : Context}
    (h : findPlace test p places = some (q, c)) : p ≤ q ∧ places[q - p]? = some (some c) ∧ test c = true := by
  induction places generalizing p with
  | nil => cases h
  | cons o rest ih =>
    have later (h : findPlace test (p + 1) rest = some (q, c)) :
        p ≤ q ∧ (o :: rest)[q - p]? = some (some c) ∧ test c = true := by
      obtain ⟨after, held, passes⟩ := ih h
      refine ⟨by omega, ?_, passes⟩
      rw [show q - p = (q - (p + 1)) + 1 by omega]
      exact held
    cases o with
    | none => exact later h
    | some d =>
      unfold findPlace at h
      split at h
      · next passes =>
        cases h
        exact ⟨le_rfl, by simp, passes⟩
      · exact later h

theorem findPlace_none {test : Context → Bool} {places : List (Option Context)} {p : Nat} :
    findPlace test p places = none ↔ ∀ c, some c ∈ places → test c = false := by
  induction places generalizing p with
  | nil => simp [findPlace]
  | cons o rest ih =>
    cases o with
    | none => simpa [findPlace] using ih
    | some d =>
      unfold findPlace
      by_cases passes : test d
      · rw [if_pos passes]
        simp only [reduceCtorEq, List.mem_cons, Option.some.injEq, forall_eq_or_imp, passes, Bool.true_eq_false,
          false_and]
      · rw [if_neg passes, ih]
        simp [Bool.eq_false_iff.2 passes]

theorem freePlace_some {places : List (Option Context)} {p q : Nat} (h : freePlace p places = some q) :
    p ≤ q ∧ places[q - p]? = some none := by
  induction places generalizing p with
  | nil => cases h
  | cons o rest ih =>
    cases o with
    | none =>
      cases h
      exact ⟨le_rfl, by simp⟩
    | some d =>
      obtain ⟨after, held⟩ := ih h
      refine ⟨by omega, ?_⟩
      rw [show q - p = (q - (p + 1)) + 1 by omega]
      exact held

theorem freePlace_full {places : List (Option Context)} (full : ∀ o ∈ places, o.isSome = true) (p : Nat) :
    freePlace p places = none := by
  induction places generalizing p with
  | nil => rfl
  | cons o rest ih =>
    obtain ⟨head, tail⟩ := List.forall_mem_cons.1 full
    cases o with
    | none => cases head
    | some d => exact ih tail (p + 1)

theorem freePlace_append {before after : List (Option Context)} (full : ∀ o ∈ before, o.isSome = true) (p : Nat) :
    freePlace p (before ++ none :: after) = some (p + before.length) := by
  induction before generalizing p with
  | nil => rfl
  | cons o rest ih =>
    obtain ⟨head, tail⟩ := List.forall_mem_cons.1 full
    cases o with
    | none => cases head
    | some d =>
      rw [List.cons_append, freePlace, ih tail, List.length_cons]
      congr 1
      omega

/-! ### Blocks (R126) -/

theorem blocksFor_eq (n : Nat) : blocksFor n = (n + 63) / 64 := rfl

theorem blocksFor_mono {a b : Nat} (h : a ≤ b) : blocksFor a ≤ blocksFor b := by
  rw [blocksFor_eq, blocksFor_eq]
  omega

theorem Context.blocks_appended (c : Context) (f : SegmentFrame) : (c.appended f).blocks = c.blocks + c.needs f := by
  have grows : c.blocks ≤ (c.appended f).blocks := blocksFor_mono (by simp [Context.appended])
  unfold Context.needs
  omega

/-! ### Handles (R137) -/

theorem nextHandle_ne_zero {h : Byte} (nonzero : h ≠ 0) : nextHandle h ≠ 0 := by
  revert h
  decide +kernel

/-- R137: the handles counted from 1, 255 of them. -/
theorem nextHandle_toNat {h : Byte} (nonzero : h ≠ 0) : (nextHandle h).toNat - 1 = (h.toNat - 1 + 1) % 255 := by
  revert h
  decide +kernel

theorem iterate_nextHandle_ne_zero {h : Byte} (nonzero : h ≠ 0) (k : Nat) : nextHandle^[k] h ≠ 0 := by
  induction k with
  | zero => exact nonzero
  | succ k ih =>
    rw [Function.iterate_succ_apply']
    exact nextHandle_ne_zero ih

theorem iterate_nextHandle_toNat {h : Byte} (nonzero : h ≠ 0) (k : Nat) :
    (nextHandle^[k] h).toNat - 1 = (h.toNat - 1 + k) % 255 := by
  induction k with
  | zero =>
    have small := h.isLt
    show h.toNat - 1 = _
    omega
  | succ k ih =>
    rw [Function.iterate_succ_apply', nextHandle_toNat (iterate_nextHandle_ne_zero nonzero k), ih]
    omega

/-- R137: the handle found is the first, from the counter on, that no entry holds, unless the search is spent. -/
theorem freeHandle_spec (q : List Arrival) (fuel : Nat) (h : Byte) :
    ∃ k ≤ fuel, freeHandle q fuel h = nextHandle^[k] h ∧ (∀ j < k, ∃ a ∈ q, a.handle = nextHandle^[j] h) ∧
      (k < fuel → ∀ a ∈ q, a.handle ≠ nextHandle^[k] h) := by
  induction fuel generalizing h with
  | zero => exact ⟨0, le_rfl, rfl, by simp, by simp⟩
  | succ fuel ih =>
    unfold freeHandle
    split
    · next used =>
      obtain ⟨a, ha, held⟩ := List.any_eq_true.1 used
      obtain ⟨k, small, found, before, fresh⟩ := ih (nextHandle h)
      refine ⟨k + 1, by omega, found, fun j hj => ?_, fun hk => fresh (by omega)⟩
      cases j with
      | zero => exact ⟨a, ha, by simpa using held⟩
      | succ j => exact before j (by omega)
    · next unused =>
      refine ⟨0, Nat.zero_le _, rfl, by simp, fun _ a ha held => unused ?_⟩
      exact List.any_eq_true.2 ⟨a, ha, by simpa using held⟩

/-- R137: fewer than 9 entries leave one of 9 handles in a row free. -/
theorem freeHandle_free {q : List Arrival} (size : q.length < 9) {h : Byte} (nonzero : h ≠ 0) :
    ∃ k, freeHandle q 9 h = nextHandle^[k] h ∧ (∀ j < k, ∃ a ∈ q, a.handle = nextHandle^[j] h) ∧
      freeHandle q 9 h ≠ 0 ∧ ∀ a ∈ q, a.handle ≠ freeHandle q 9 h := by
  obtain ⟨k, small, found, before, fresh⟩ := freeHandle_spec q 9 h
  have short : k < 9 := by
    by_contra full
    obtain rfl : k = 9 := by omega
    have held : (List.range 9).map (fun j => nextHandle^[j] h) ⊆ q.map (·.handle) := by
      intro handle hhandle
      obtain ⟨j, hj, rfl⟩ := List.mem_map.1 hhandle
      obtain ⟨a, ha, same⟩ := before j (List.mem_range.1 hj)
      exact List.mem_map.2 ⟨a, ha, same⟩
    have distinct : ((List.range 9).map (fun j => nextHandle^[j] h)).Nodup := by
      refine List.Nodup.map_on (fun i hi j hj same => ?_) List.nodup_range
      have places := congrArg (fun b : Byte => b.toNat - 1) same
      simp only [iterate_nextHandle_toNat nonzero] at places
      rw [List.mem_range] at hi hj
      omega
    have bound := (distinct.subperm held).length_le
    simp only [List.length_map, List.length_range] at bound
    omega
  refine ⟨k, found, before, ?_, ?_⟩
  · rw [found]
    exact iterate_nextHandle_ne_zero nonzero k
  · rw [found]
    exact fresh short

/-! ### Completion records (R133) -/

/-- R133: the record to be replaced: the highest count, and among equal counts the one set earliest. -/
theorem oldestRecord_split {records : List Completion} (nonempty : records ≠ []) :
    ∃ before oldest after, records = before ++ oldest :: after ∧ oldestRecord records = some oldest ∧
      (∀ r ∈ before, r.count < oldest.count) ∧ ∀ r ∈ after, r.count ≤ oldest.count := by
  induction records with
  | nil => exact absurd rfl nonempty
  | cons r rest ih =>
    cases rest with
    | nil => exact ⟨[], r, [], rfl, rfl, by simp, by simp⟩
    | cons x rest =>
      obtain ⟨before, oldest, after, split, found, lower, most⟩ := ih (by simp)
      rw [split] at found ⊢
      unfold oldestRecord
      rw [found]
      dsimp only
      split
      · next higher =>
        refine ⟨[], r, before ++ oldest :: after, rfl, rfl, by simp, fun y hy => ?_⟩
        rw [List.mem_append, List.mem_cons] at hy
        obtain hy | rfl | hy := hy
        · exact (lower y hy).le.trans higher
        · exact higher
        · exact (most y hy).trans higher
      · next lowerHead =>
        exact ⟨r :: before, oldest, after, rfl, rfl, List.forall_mem_cons.2 ⟨Nat.lt_of_not_le lowerHead, lower⟩, most⟩

/-- R133: room is made by the record to be replaced, sources being distinct. -/
theorem makeRecordRoom_full {records : List Completion} (distinct : (records.map (·.source)).Nodup)
    (full : 4 ≤ records.length) :
    ∃ before oldest after, records = before ++ oldest :: after ∧ (∀ r ∈ before, r.count < oldest.count) ∧
      (∀ r ∈ after, r.count ≤ oldest.count) ∧ makeRecordRoom records = before ++ after := by
  obtain ⟨before, oldest, after, split, found, lower, most⟩ :=
    oldestRecord_split (records := records) (by rintro rfl; simp at full)
  refine ⟨before, oldest, after, split, lower, most, ?_⟩
  unfold makeRecordRoom
  rw [if_neg (show ¬ records.length < Config.recordCount from Nat.not_lt.2 full), found]
  rw [split, List.map_append, List.map_cons] at distinct
  obtain ⟨fresh, -⟩ := List.nodup_cons.1 (List.nodup_middle.1 distinct)
  rw [← List.map_append, List.mem_map] at fresh
  have same (l : List Completion) (others : ∀ r ∈ l, r ∈ before ++ after) :
      l.filter (fun r => r.source != oldest.source) = l :=
    List.filter_eq_self.2 fun r hr => by simpa using fun same => fresh ⟨r, others r hr, same⟩
  dsimp only
  rw [split, List.filter_append, same before fun r => List.mem_append_left _,
    List.filter_cons_of_neg (by simp), same after fun r => List.mem_append_right _]

theorem makeRecordRoom_room {records : List Completion} (room : records.length < 4) :
    makeRecordRoom records = records := if_pos room

/-- R133: there is room for a record then, and the records that stay are some of those there were. -/
theorem makeRecordRoom_spec {records : List Completion} (distinct : (records.map (·.source)).Nodup)
    (most : records.length ≤ 4) : (makeRecordRoom records).Sublist records ∧ (makeRecordRoom records).length < 4 := by
  by_cases full : 4 ≤ records.length
  · obtain ⟨before, oldest, after, split, -, -, made⟩ := makeRecordRoom_full distinct full
    rw [made]
    subst split
    refine ⟨(List.sublist_cons_self oldest after).append_left before, ?_⟩
    simp only [List.length_append, List.length_cons] at most ⊢
    omega
  · rw [makeRecordRoom_room (Nat.lt_of_not_le full)]
    exact ⟨List.Sublist.refl _, Nat.lt_of_not_le full⟩

/-! ### The entry that holds a handle -/

section
variable {before after : List Arrival} {a : Arrival}

/-- R137: no other entry of the queue holds the handle. -/
theorem otherArrivals_of_nodup (distinct : ((before ++ a :: after).map (·.handle)).Nodup) :
    (∀ x ∈ before, x.handle ≠ a.handle) ∧ ∀ x ∈ after, x.handle ≠ a.handle := by
  rw [List.map_append, List.map_cons] at distinct
  obtain ⟨fresh, -⟩ := List.nodup_cons.1 (List.nodup_middle.1 distinct)
  rw [← List.map_append, List.mem_map] at fresh
  exact ⟨fun x hx same => fresh ⟨x, List.mem_append_left _ hx, same⟩,
    fun x hx same => fresh ⟨x, List.mem_append_right _ hx, same⟩⟩

theorem arrivalWith_none {q : List Arrival} {handle : Byte} :
    arrivalWith q handle = none ↔ ∀ a ∈ q, a.handle ≠ handle := by
  simp [arrivalWith]

theorem arrivalWith_middle (distinct : ((before ++ a :: after).map (·.handle)).Nodup) :
    arrivalWith (before ++ a :: after) a.handle = some a := by
  obtain ⟨passed, -⟩ := otherArrivals_of_nodup distinct
  exact List.find?_eq_some_iff_append.2 ⟨by simp, before, after, rfl, by simpa using passed⟩

theorem removeArrival_middle (distinct : ((before ++ a :: after).map (·.handle)).Nodup) :
    (before ++ a :: after).filter (fun x => x.handle != a.handle) = before ++ after := by
  obtain ⟨passed, later⟩ := otherArrivals_of_nodup distinct
  have same (l : List Arrival) (others : ∀ x ∈ l, x.handle ≠ a.handle) : l.filter (fun x => x.handle != a.handle) = l :=
    List.filter_eq_self.2 fun x hx => by simpa using others x hx
  rw [List.filter_append, same before passed, List.filter_cons_of_neg (by simp), same after later]

end

end Sys2Proof.Machine
end

section
/-! PROOFS. R122 to R142: the contexts, the receive queue and the receive store stay sound. Settles O9. -/

namespace Sys2Proof.Machine

set_option Elab.async false

/-! ### Soundness in pieces -/

/-- R125: the open contexts. -/
abbrev contextsSound (contexts : List Context) : Prop :=
  (contexts.map (·.source)).Nodup ∧ ∀ c ∈ contexts, c.sound

/-- R137: the receive queue. -/
abbrev arrivalsSound (queue : List Arrival) : Prop :=
  queue.length ≤ Config.queueSize ∧ (queue.map (·.handle)).Nodup ∧ ∀ a ∈ queue, a.sound

/-- R133: the completion records beside the open contexts. -/
abbrev recordsApart (records : List Completion) (contexts : List Context) : Prop :=
  records.length ≤ Config.recordCount ∧ (records.map (·.source)).Nodup ∧
  ∀ r ∈ records, r.count < Config.recordLimit ∧ ∀ c ∈ contexts, c.source ≠ r.source

/-- R126: free and held blocks total 64. -/
abbrev storeTotal (free : Nat) (contexts : List Context) (queue : List Arrival) : Prop :=
  free + ((contexts.map Context.blocks).sum + (queue.map Arrival.blocks).sum) = Config.rxBlocks

theorem ReceiveUnit.sound_iff (u : ReceiveUnit) : u.sound ↔
    groupsSound u.groups ∧ u.places.length = Config.placeCount ∧ contextsSound (contextsOf u.places) ∧
    arrivalsSound u.queue ∧ u.handleCounter ≠ 0 ∧ recordsApart u.records (contextsOf u.places) ∧
    storeTotal u.free (contextsOf u.places) u.queue := by
  simp only [ReceiveUnit.sound, recordsSound, ReceiveUnit.held, and_assoc]

theorem ReceiveUnit.reset_sound : ReceiveUnit.reset.sound :=
  ⟨⟨by decide, by decide, nofun⟩, rfl, by decide, nofun, by decide, by decide, nofun, by decide,
    ⟨by decide, by decide, nofun⟩, rfl⟩

/-- No open context and no completion record is of this source. -/
abbrev ReceiveUnit.unknown (u : ReceiveUnit) (source : Byte) : Prop :=
  (∀ c ∈ contextsOf u.places, c.source ≠ source) ∧ ∀ r ∈ u.records, r.source ≠ source

section
variable {u : ReceiveUnit} {p : Nat} {c : Context}

/-- R134: a context leaves its place, its blocks go back, and its source is unknown then. -/
theorem ReceiveUnit.sound.vacate (h : u.sound) (held : u.places[p]? = some (some c)) :
    ({ u with places := u.places.set p none, free := u.free + c.blocks } : ReceiveUnit).sound ∧
    ({ u with places := u.places.set p none, free := u.free + c.blocks } : ReceiveUnit).unknown c.source := by
  obtain ⟨groups, size, ⟨distinct, each⟩, queue, counter, ⟨most, sources, apart⟩, total⟩ := u.sound_iff.1 h
  have within : p < u.places.length := (List.getElem?_eq_some_iff.1 held).1
  have split := contextsOf_split held
  have left := contextsOf_set within none
  rw [Option.toList_none, List.append_nil] at left
  rw [Option.toList_some, List.append_assoc, List.singleton_append] at split
  rw [split] at distinct each apart total
  have sub := (List.sublist_cons_self c (contextsOf (u.places.drop (p + 1)))).append_left
    (contextsOf (u.places.take p))
  rw [List.map_append, List.map_cons] at distinct
  obtain ⟨fresh, rest⟩ := List.nodup_cons.1 (List.nodup_middle.1 distinct)
  rw [← List.map_append] at fresh rest
  refine ⟨(ReceiveUnit.sound_iff _).2 ⟨groups, by simpa using size, ?_⟩, ?_, fun r hr same => ?_⟩
  · dsimp only
    rw [left]
    refine ⟨⟨rest, fun x hx => each x (sub.subset hx)⟩, queue, counter,
      ⟨most, sources, fun r hr => ⟨(apart r hr).1, fun x hx => (apart r hr).2 x (sub.subset hx)⟩⟩, ?_⟩
    simp only [storeTotal, List.map_append, List.map_cons, List.sum_append, List.sum_cons] at total ⊢
    omega
  · dsimp only
    rw [left]
    exact fun x hx same => fresh (List.mem_map.2 ⟨x, hx, same⟩)
  · exact (apart r hr).2 c (by simp) same.symm

/-- R127, R129: a context of an unknown source takes a free place with its blocks. -/
theorem ReceiveUnit.sound.occupy (h : u.sound) (within : p < u.places.length) (free : u.places[p]? = some none)
    (unknown : u.unknown c.source) (sound : c.sound) (room : c.blocks ≤ u.free) :
    ({ u with places := u.places.set p (some c), free := u.free - c.blocks } : ReceiveUnit).sound := by
  obtain ⟨groups, size, ⟨distinct, each⟩, queue, counter, ⟨most, sources, apart⟩, total⟩ := u.sound_iff.1 h
  obtain ⟨noContext, noRecord⟩ := unknown
  have split := contextsOf_split free
  have grown := contextsOf_set within (some c)
  rw [Option.toList_none, List.append_nil] at split
  rw [Option.toList_some, List.append_assoc, List.singleton_append] at grown
  rw [split] at distinct each apart total noContext
  have member (x : Context) : x ∈ contextsOf (u.places.set p (some c)) ↔
      x = c ∨ x ∈ contextsOf (u.places.take p) ++ contextsOf (u.places.drop (p + 1)) := by
    rw [grown, List.mem_append, List.mem_cons, List.mem_append]
    tauto
  refine (ReceiveUnit.sound_iff _).2 ⟨groups, by simpa using size, ⟨?_, fun x hx => ?_⟩, queue, counter,
    ⟨most, sources, fun r hr => ⟨(apart r hr).1, fun x hx => ?_⟩⟩, ?_⟩
  · dsimp only
    rw [grown, List.map_append, List.map_cons]
    rw [List.map_append] at distinct
    refine List.nodup_middle.2 (List.nodup_cons.2 ⟨fun taken => ?_, distinct⟩)
    rw [← List.map_append, List.mem_map] at taken
    obtain ⟨x, hx, same⟩ := taken
    exact noContext x hx same
  · obtain rfl | hx := (member x).1 hx
    · exact sound
    · exact each x hx
  · obtain rfl | hx := (member x).1 hx
    · exact fun same => noRecord r hr same.symm
    · exact (apart r hr).2 x hx
  · dsimp only
    rw [grown]
    simp only [storeTotal, List.map_append, List.map_cons, List.sum_append, List.sum_cons] at total ⊢
    omega

/-- R133: the completion record of a source without an open context. -/
theorem ReceiveUnit.sound.record {r : Completion} (h : u.sound) (noContext : ∀ c ∈ contextsOf u.places, c.source ≠ r.source)
    (count : r.count = 0) : ({ u with records := setRecord r u.records } : ReceiveUnit).sound := by
  obtain ⟨groups, size, contexts, queue, counter, ⟨most, sources, apart⟩, total⟩ := u.sound_iff.1 h
  have kept : (u.records.filter (fun x => x.source != r.source)).Sublist u.records := List.filter_sublist
  obtain ⟨roomSub, room⟩ := makeRecordRoom_spec (sources.sublist (kept.map _)) (kept.length_le.trans most)
  have sub := roomSub.trans kept
  refine (ReceiveUnit.sound_iff _).2 ⟨groups, size, contexts, queue, counter, ⟨?_, ?_, fun x hx => ?_⟩, total⟩
  · simp only [setRecord, List.length_append, List.length_singleton]
    exact room
  · simp only [setRecord, List.map_append, List.map_singleton]
    refine List.nodup_append.2 ⟨sources.sublist (sub.map _), List.nodup_singleton _, fun a ha b hb => ?_⟩
    obtain ⟨x, hx, rfl⟩ := List.mem_map.1 ha
    obtain rfl := List.mem_singleton.1 hb
    simpa using (List.mem_filter.1 (roomSub.subset hx)).2
  · rw [setRecord, List.mem_append, List.mem_singleton] at hx
    obtain hx | rfl := hx
    · exact apart x (sub.subset hx)
    · exact ⟨by rw [count]; decide, noContext⟩

/-- R138: a message under a free handle enters the queue with its blocks. -/
theorem ReceiveUnit.sound.enqueue {a : Arrival} (h : u.sound) (room : u.queue.length < Config.queueSize)
    (fresh : ∀ x ∈ u.queue, x.handle ≠ a.handle) (sound : a.sound) (blocks : a.blocks ≤ u.free) :
    ({ u with queue := u.queue ++ [a], free := u.free - a.blocks, handleCounter := nextHandle a.handle } :
      ReceiveUnit).sound := by
  obtain ⟨groups, size, contexts, ⟨-, distinct, each⟩, -, records, total⟩ := u.sound_iff.1 h
  refine (ReceiveUnit.sound_iff _).2 ⟨groups, size, contexts, ⟨?_, ?_, fun x hx => ?_⟩, nextHandle_ne_zero sound.1,
    records, ?_⟩
  · simp only [List.length_append, List.length_singleton]
    exact room
  · simp only [List.map_append, List.map_singleton]
    refine List.nodup_append.2 ⟨distinct, List.nodup_singleton _, fun b hb d hd => ?_⟩
    obtain ⟨x, hx, rfl⟩ := List.mem_map.1 hb
    obtain rfl := List.mem_singleton.1 hd
    exact fresh x hx
  · rw [List.mem_append, List.mem_singleton] at hx
    obtain hx | rfl := hx
    · exact each x hx
    · exact sound
  · simp only [storeTotal, List.map_append, List.map_singleton, List.sum_append, List.sum_singleton] at total ⊢
    omega

/-- R133: completion records may go. -/
theorem ReceiveUnit.sound.withRecords {records : List Completion} (h : u.sound)
    (sub : records.Sublist u.records) : ({ u with records := records } : ReceiveUnit).sound := by
  obtain ⟨groups, size, contexts, queue, counter, ⟨most, sources, apart⟩, total⟩ := u.sound_iff.1 h
  exact (ReceiveUnit.sound_iff _).2 ⟨groups, size, contexts, queue, counter,
    ⟨sub.length_le.trans most, sources.sublist (sub.map _), fun r hr => apart r (sub.subset hr)⟩, total⟩

end

/-! ### Segments -/

section
variable {s : State} {p : Nat} {c : Context} {f : SegmentFrame}

theorem breakContext_sound (h : s.rx.sound) (held : s.rx.places[p]? = some (some c)) (reason : DropReason) :
    (breakContext p c reason s).rx.sound := by
  rw [breakContext_rx]
  exact (ReceiveUnit.sound.vacate h held).1

/-- R127, R129: what an appending starts from: without the context at a place the unit is sound, and the context's source is
unknown; the context itself is in range. -/
structure Appends (p : Nat) (c : Context) (f : SegmentFrame) (s : State) : Prop where
  sound : ({ s.rx with places := s.rx.places.set p none, free := s.rx.free + c.blocks } : ReceiveUnit).sound
  unknown : ({ s.rx with places := s.rx.places.set p none, free := s.rx.free + c.blocks } : ReceiveUnit).unknown c.source
  within : p < s.rx.places.length
  source : 1 ≤ c.source ∧ c.source ≤ 62
  cls : c.cls ≤ 3
  total : c.total ≤ Config.maxMessage
  payload : 1 ≤ f.payload.length

theorem Appends.appended_sound (h : Appends p c f s) (fits : c.data.length + f.payload.length ≤ c.total) :
    (c.appended f).sound := by
  obtain ⟨-, -, -, source, cls, total, payload⟩ := h
  refine ⟨source.1, source.2, cls, by show 1 ≤ c.total; omega, total, Nat.le_add_left _ _, ?_, ?_,
    (by decide : 0 < Config.idleLimit)⟩ <;> simp only [Context.appended, List.length_append] <;> omega

/-- R129: the grown context in its place. -/
theorem Appends.grown_sound (h : Appends p c f s) (fits : c.data.length + f.payload.length ≤ c.total)
    (room : c.needs f ≤ s.rx.free) :
    ({ s.rx with places := s.rx.places.set p (some (c.appended f)), free := s.rx.free - c.needs f } :
      ReceiveUnit).sound := by
  have blocks := c.blocks_appended f
  have occupied := ReceiveUnit.sound.occupy (c := c.appended f) (p := p) h.sound (by simpa using h.within)
    (by simp [h.within]) h.unknown (h.appended_sound fits) (by dsimp only; omega)
  have free : s.rx.free + c.blocks - (c.appended f).blocks = s.rx.free - c.needs f := by omega
  simpa [List.set_set, free] using occupied

/-- R131, R138, R139: the context is complete. -/
theorem Appends.completed_sound (h : Appends p c f s) (fits : c.data.length + f.payload.length ≤ c.total)
    (room : c.needs f ≤ s.rx.free) (number : Word) :
    (completeContext number p (c.appended f) f.index
      (setRxFree (s.rx.free - c.needs f) (setPlace p (some (c.appended f)) s))).rx.sound := by
  have blocks := c.blocks_appended f
  have sound := h.appended_sound fits
  have recorded := ReceiveUnit.sound.record (r := { source := (c.appended f).source, id := (c.appended f).id, lastIndex := f.index, count := 0 }) h.sound h.unknown.1 rfl
  unfold completeContext
  dsimp only
  split
  · next queueRoom =>
    have queueRoom : s.rx.queue.length < 8 := queueRoom
    obtain ⟨-, -, -, nonzero, fresh⟩ := freeHandle_free (q := s.rx.queue) (by omega)
      ((ReceiveUnit.sound_iff _).1 h.sound).2.2.2.2.1
    have arrival : (arrivalOf (c.appended f) (freeHandle s.rx.queue 9 s.rx.handleCounter) number).sound := by
      obtain ⟨least, most, cls, -, total, -, some, whole, -⟩ := sound
      exact ⟨nonzero, least, most, cls, some, whole.trans total⟩
    have entered := recorded.enqueue (a := arrivalOf (c.appended f) (freeHandle s.rx.queue 9 s.rx.handleCounter) number)
      queueRoom fresh arrival (show (c.appended f).blocks ≤ s.rx.free + c.blocks by omega)
    have free : s.rx.free + c.blocks - (c.appended f).blocks = s.rx.free - c.needs f := by omega
    rw [enqueueArrival, giveNotice_rx]
    have freeArrival : s.rx.free + c.blocks -
        (arrivalOf (c.appended f) (freeHandle s.rx.queue 9 s.rx.handleCounter) number).blocks = s.rx.free - c.needs f := free
    simpa [recordCompletion, setPlace, setRxFree, List.set_set, freeArrival] using entered
  · have free : s.rx.free - c.needs f + (c.appended f).blocks = s.rx.free + c.blocks := by omega
    rw [dropFull, giveNotice_rx]
    simpa [recordCompletion, setPlace, setRxFree, List.set_set, free] using recorded

theorem appendSegment_sound (h : Appends p c f s) (number : Word) : (appendSegment number p c f s).rx.sound := by
  unfold appendSegment
  split_ifs with long room
  · rw [breakContext_rx]
    exact h.sound
  · rw [breakContext_rx]
    exact h.sound
  · have fits := Nat.le_of_not_lt long
    have room := Nat.le_of_not_lt room
    unfold closeAppended
    split_ifs
    · exact h.grown_sound fits room
    · exact h.completed_sound fits room number
    · have free : s.rx.free - c.needs f + (c.appended f).blocks = s.rx.free + c.blocks := by
        have blocks := c.blocks_appended f
        omega
      rw [breakContext_rx]
      simpa [setPlace, setRxFree, List.set_set, free] using h.sound

/-- R124: what a consistent data segment guarantees. -/
structure SegmentFrame.consistent (f : SegmentFrame) : Prop where
  source : 1 ≤ f.source ∧ f.source ≤ 62
  cls : f.cls ≤ 3
  payload : f.abort = false → 1 ≤ f.payload.length
  total : f.abort = false → f.total.getD 0 ≤ Config.maxMessage

theorem consistent_of_not_inconsistent (h : f.inconsistent = false) : f.consistent := by
  unfold SegmentFrame.inconsistent at h
  simp only [Bool.or_eq_false_iff, Bool.not_eq_false', Bool.and_eq_true, decide_eq_true_eq, decide_eq_false_iff_not,
    not_lt] at h
  obtain ⟨⟨source, cls⟩, form⟩ := h
  refine ⟨source, cls, fun data => ?_, fun data => ?_⟩ <;>
    simp only [data, Bool.false_eq_true, if_false, Bool.or_eq_false_iff, beq_eq_false_iff_ne] at form
  · exact Nat.one_le_iff_ne_zero.2 form.1.1.1
  · cases total : f.total with
    | none => exact Nat.zero_le _
    | some n =>
      obtain ⟨-, ok⟩ := form
      simp only [totalOk, total, Option.all_some, Bool.not_eq_false', Bool.and_eq_true, decide_eq_true_eq] at ok
      exact ok.2

theorem contextOf_held {test : Context → Bool} (found : findPlace test 0 s.rx.places = some (p, c)) :
    s.rx.places[p]? = some (some c) ∧ test c = true := by
  obtain ⟨-, held, passes⟩ := findPlace_some found
  exact ⟨by simpa using held, passes⟩

/-- R125: a context that is open may be appended to. -/
theorem appends_open (h : s.rx.sound) (held : s.rx.places[p]? = some (some c)) (payload : 1 ≤ f.payload.length) :
    Appends p c f s := by
  obtain ⟨sound, unknown⟩ := ReceiveUnit.sound.vacate h held
  obtain ⟨least, most, cls, -, total, -⟩ := h.2.2.2.1 c (mem_contextsOf.2 (List.mem_of_getElem? held))
  exact ⟨sound, unknown, (List.getElem?_eq_some_iff.1 held).1, ⟨least, most⟩, cls, total, payload⟩

/-- R127: a FIRST segment of an unknown source. -/
theorem openContext_sound (number : Word) (h : s.rx.sound) (unknown : s.rx.unknown f.source) (consistent : f.consistent)
    (data : f.abort = false) : (openContext number f s).rx.sound := by
  unfold openContext
  split
  · rw [giveNotice_rx]
    exact h
  · next p free =>
    split
    · rw [giveNotice_rx]
      exact h
    · obtain ⟨-, free⟩ := freePlace_some free
      have free : s.rx.places[p]? = some none := by simpa using free
      obtain ⟨within, empty⟩ := List.getElem?_eq_some_iff.1 free
      have same : ({ s.rx with places := s.rx.places.set p none, free := s.rx.free + (Context.opened f).blocks } :
          ReceiveUnit) = s.rx := by
        have none : (Context.opened f).blocks = 0 := blocksFor_eq 0
        rw [← empty, List.set_getElem_self, none]
        rfl
      refine appendSegment_sound ⟨?_, ?_, within, consistent.source, consistent.cls, consistent.total data,
        consistent.payload data⟩ number
      · rw [same]
        exact h
      · rw [same]
        exact unknown

theorem firstSegment_sound (number : Word) (h : s.rx.sound) (noRecord : ∀ r ∈ s.rx.records, r.source ≠ f.source)
    (consistent : f.consistent) (data : f.abort = false) : (firstSegment number f s).rx.sound := by
  unfold firstSegment
  split
  · next absent =>
    refine openContext_sound number h ⟨fun c hc => ?_, noRecord⟩ consistent data
    simpa using findPlace_none.1 absent c (mem_contextsOf.1 hc)
  · next p c found =>
    obtain ⟨held, source⟩ := contextOf_held found
    have source : c.source = f.source := by simpa using source
    split
    · exact h
    · have unknown := (ReceiveUnit.sound.vacate h held).2
      rw [source] at unknown
      refine openContext_sound number (breakContext_sound h held _) ?_ consistent data
      rw [breakContext_rx]
      exact unknown

theorem laterSegment_sound (number : Word) (h : s.rx.sound) (consistent : f.consistent) (data : f.abort = false) :
    (laterSegment number f s).rx.sound := by
  unfold laterSegment
  split
  · unfold orphanSegment
    split
    · exact h
    · next p c found => exact breakContext_sound (s := countOrphan s) h (contextOf_held found).1 _
  · next p c found =>
    obtain ⟨held, -⟩ := contextOf_held found
    split_ifs
    · exact appendSegment_sound (appends_open h held (consistent.payload data)) number
    · exact h
    · exact breakContext_sound h held _

theorem contextSegment_sound (number : Word) (h : s.rx.sound) (noRecord : ∀ r ∈ s.rx.records, r.source ≠ f.source)
    (consistent : f.consistent) : (contextSegment number f s).rx.sound := by
  unfold contextSegment
  split_ifs with abort first
  · unfold abortReceived
    split
    · exact h
    · next p c found => exact breakContext_sound h (contextOf_held found).1 _
  · exact firstSegment_sound number h noRecord consistent (by simpa using abort)
  · exact laterSegment_sound number h consistent (by simpa using abort)

theorem receiveSegment_sound (number : Word) (f : SegmentFrame) (h : s.rx.sound) :
    (receiveSegment number f s).rx.sound := by
  unfold receiveSegment
  split_ifs with taken wrong
  · exact h
  · exact h
  · have consistent := consistent_of_not_inconsistent (Bool.eq_false_iff.2 wrong)
    unfold consistentSegment
    split
    · next none =>
      exact contextSegment_sound number h (by simpa using none) consistent
    · split
      · exact h
      · refine contextSegment_sound number (h.withRecords List.filter_sublist) (fun r hr => ?_) consistent
        simpa using (List.mem_filter.1 hr).2

/-! ### Cycle starts and departures -/

/-- R134: contexts are broken at any of the places, under any test. -/
theorem breakWhere_sound (test : Context → Bool) (reason : DropReason) (ps : List Nat) (h : s.rx.sound) :
    (breakWhere test reason ps s).rx.sound := by
  induction ps generalizing s with
  | nil => exact h
  | cons p ps ih =>
    unfold breakWhere
    split
    · next c held =>
      refine ih ?_
      split
      · exact breakContext_sound h held reason
      · exact h
    · exact ih h
    · exact ih h

theorem receiveDepart_sound (reason : DropReason) (h : s.rx.sound) : (receiveDepart reason s).rx.sound :=
  breakWhere_sound _ _ _ (s := { s with rx := { s.rx with records := [] } }) (h.withRecords (List.nil_sublist _))

end

/-! ### A cycle start: the counts advance first, then what has reached its limit leaves -/

/-- R135: the unit with every idle count at 0, to speak of what a cycle start does before it looks at the limit. -/
def ReceiveUnit.rested (u : ReceiveUnit) : ReceiveUnit :=
  { u with places := u.places.map (fun o => o.map (fun c => { c with idle := 0 })) }

theorem contextsOf_map (f : Context → Context) (places : List (Option Context)) :
    contextsOf (places.map (fun o => o.map f)) = (contextsOf places).map f := by
  simp [contextsOf, List.filterMap_map, List.map_filterMap]

/-- The idle counts alone tell a sound unit from one that is sound at rest. -/
theorem ReceiveUnit.sound_iff_rested (u : ReceiveUnit) :
    u.sound ↔ u.rested.sound ∧ ∀ c ∈ contextsOf u.places, c.idle < Config.idleLimit := by
  rw [ReceiveUnit.sound_iff, ReceiveUnit.sound_iff]
  simp only [ReceiveUnit.rested, contextsOf_map, List.length_map, List.map_map, Function.comp_def, List.forall_mem_map,
    contextsSound, recordsApart, storeTotal, Context.sound, Context.blocks]
  constructor
  · rintro ⟨groups, size, ⟨distinct, each⟩, queue, counter, records, total⟩
    refine ⟨⟨groups, size, ⟨distinct, fun c hc => ?_⟩, queue, counter, records, total⟩, fun c hc => ?_⟩
    · obtain ⟨h1, h2, h3, h4, h5, h6, h7, h8, -⟩ := each c hc
      exact ⟨h1, h2, h3, h4, h5, h6, h7, h8, by decide⟩
    · obtain ⟨-, -, -, -, -, -, -, -, idle⟩ := each c hc
      exact idle
  · rintro ⟨⟨groups, size, ⟨distinct, each⟩, queue, counter, records, total⟩, idle⟩
    refine ⟨groups, size, ⟨distinct, fun c hc => ?_⟩, queue, counter, records, total⟩
    obtain ⟨h1, h2, h3, h4, h5, h6, h7, h8, -⟩ := each c hc
    exact ⟨h1, h2, h3, h4, h5, h6, h7, h8, idle c hc⟩

section
variable {s : State}

theorem breakContext_rested {p : Nat} {c : Context} (h : s.rx.rested.sound) (held : s.rx.places[p]? = some (some c))
    (reason : DropReason) : (breakContext p c reason s).rx.rested.sound := by
  have rested : s.rx.rested.places[p]? = some (some { c with idle := 0 }) := by
    simp [ReceiveUnit.rested, held]
  have left := (ReceiveUnit.sound.vacate h rested).1
  rw [breakContext_rx]
  simpa [ReceiveUnit.rested, List.map_set, Context.blocks] using left

/-- R134, R135: what a test breaks at these places leaves; what stays was there before. -/
theorem breakWhere_places (test : Context → Bool) (reason : DropReason) (ps : List Nat) (h : s.rx.rested.sound) :
    (breakWhere test reason ps s).rx.rested.sound ∧
    (∀ (q : Nat) (c : Context), (breakWhere test reason ps s).rx.places[q]? = some (some c) → s.rx.places[q]? = some (some c)) ∧
    ∀ q ∈ ps, ∀ c, (breakWhere test reason ps s).rx.places[q]? = some (some c) → test c = false := by
  induction ps generalizing s with
  | nil => exact ⟨h, fun _ _ held => held, by simp⟩
  | cons p ps ih =>
    have pass (t : State) (h : t.rx.rested.sound) (within : ∀ (q : Nat) (c : Context), t.rx.places[q]? = some (some c) →
          s.rx.places[q]? = some (some c)) (clear : ∀ c, t.rx.places[p]? = some (some c) → test c = false) :
        (breakWhere test reason ps t).rx.rested.sound ∧
        (∀ (q : Nat) (c : Context), (breakWhere test reason ps t).rx.places[q]? = some (some c) → s.rx.places[q]? = some (some c)) ∧
        ∀ q ∈ p :: ps, ∀ c, (breakWhere test reason ps t).rx.places[q]? = some (some c) → test c = false := by
      obtain ⟨sound, stays, cleared⟩ := ih h
      refine ⟨sound, fun q c held => within q c (stays q c held), List.forall_mem_cons.2 ⟨fun c held => ?_, cleared⟩⟩
      exact clear c (stays p c held)
    unfold breakWhere
    split
    · next c held =>
      split
      · next passes =>
        refine pass _ (breakContext_rested h held reason) (fun q d => ?_) fun d => ?_
        · rw [breakContext_rx, List.getElem?_set]
          split_ifs
          · nofun
          · nofun
          · exact id
        · rw [breakContext_rx, List.getElem?_set_self (List.getElem?_eq_some_iff.1 held).1]
          nofun
      · next fails =>
        refine pass s h (fun _ _ held => held) fun d held' => ?_
        rw [held] at held'
        cases held'
        simpa using fails
    · next empty => exact pass s h (fun _ _ held => held) fun c held => by rw [empty] at held; cases held
    · next beyond => exact pass s h (fun _ _ held => held) fun c held => by rw [beyond] at held; cases held

theorem receiveCounts_rested (h : s.rx.sound) : (receiveCounts s).rx.rested.sound := by
  have rested := (ReceiveUnit.sound_iff_rested _).1 h |>.1
  obtain ⟨groups, size, contexts, queue, counter, ⟨most, sources, apart⟩, total⟩ := (ReceiveUnit.sound_iff _).1 rested
  have places : (receiveCounts s).rx.rested.places = s.rx.rested.places := by
    simp [ReceiveUnit.rested, receiveCounts, Context.idled, Function.comp_def]
  have same : ((countRecords s.rx.records).map (·.source)).Sublist (s.rx.records.map (·.source)) := by
    have kept : (countRecords s.rx.records).Sublist (s.rx.records.map Completion.counted) := List.filter_sublist
    simpa [Completion.counted, Function.comp_def] using kept.map (·.source)
  refine (ReceiveUnit.sound_iff _).2 ?_
  rw [places]
  refine ⟨groups, size, contexts, queue, counter, ⟨?_, sources.sublist same, fun r hr => ?_⟩, total⟩
  · have shorter := same.length_le
    simp only [List.length_map] at shorter
    exact shorter.trans most
  · obtain ⟨counted, below⟩ := List.mem_filter.1 (show r ∈ countRecords s.rx.records from hr)
    obtain ⟨x, hx, rfl⟩ := List.mem_map.1 counted
    exact ⟨by simpa using below, (apart x hx).2⟩

theorem receiveCycleStart_sound (h : s.rx.sound) : (receiveCycleStart s).rx.sound := by
  obtain ⟨rested, -, cleared⟩ := breakWhere_places (fun c => Config.idleLimit ≤ c.idle) .timeout
    (List.range Config.placeCount) (receiveCounts_rested h)
  refine (ReceiveUnit.sound_iff_rested _).2 ⟨rested, fun c hc => ?_⟩
  obtain ⟨q, held⟩ := List.mem_iff_getElem?.1 (mem_contextsOf.1 hc)
  have size : (receiveCycleStart s).rx.places.length = Config.placeCount := by
    have size := rested.2.1
    simpa [ReceiveUnit.rested, receiveCycleStart] using size
  have within : q < Config.placeCount := size ▸ (List.getElem?_eq_some_iff.1 held).1
  simpa using cleared q (List.mem_range.2 within) c held

/-! ### The requests -/

/-- R122: what the walk over the group ids lets pass. -/
theorem groupFault_none {seen ids : List Byte} {place : Nat} (h : groupFault seen place ids = none) :
    ids.Nodup ∧ (∀ g ∈ ids, g ∉ seen) ∧ ∀ g ∈ ids, 64 ≤ g ∧ g ≤ 127 := by
  induction ids generalizing seen place with
  | nil => simp
  | cons g rest ih =>
    rw [groupFault] at h
    split_ifs at h with fault
    obtain ⟨distinct, unseen, ranged⟩ := ih h
    simp only [Bool.or_eq_true, Bool.not_eq_true', Bool.and_eq_false_iff, decide_eq_false_iff_not, List.contains_iff_mem,
      not_or, not_not] at fault
    refine ⟨List.nodup_cons.2 ⟨fun again => unseen g again List.mem_cons_self, distinct⟩, ?_, ?_⟩
    · exact List.forall_mem_cons.2 ⟨fault.2, fun x hx again => unseen x hx (List.mem_cons_of_mem _ again)⟩
    · exact List.forall_mem_cons.2 ⟨fault.1, ranged⟩

theorem setGroupsRequest_sound {body : List Byte} (h : s.rx.sound)
    (counted : (BodyShape.counted 1).allows body = true) : (setGroupsRequest body s).2.rx.sound := by
  unfold setGroupsRequest
  split_ifs with large
  · exact h
  · split
    · exact h
    · next passes =>
      obtain ⟨distinct, -, ranged⟩ := groupFault_none passes
      obtain ⟨-, rest⟩ := h
      refine ⟨⟨?_, distinct, ranged⟩, rest⟩
      have small : (byteAt body 0).toNat ≤ 8 := Nat.le_of_not_lt fun more => large (BitVec.lt_def.2 more)
      have length : body.length = 1 + 1 * (byteAt body 0).toNat := by
        simp only [BodyShape.allows, Bool.and_eq_true, beq_iff_eq] at counted
        exact counted.2
      rw [List.length_drop]
      omega

theorem releaseRequest_sound (body : List Byte) (h : s.rx.sound) : (releaseRequest body s).2.rx.sound := by
  obtain ⟨groups, size, contexts, ⟨most, distinct, each⟩, counter, records, total⟩ := (ReceiveUnit.sound_iff _).1 h
  unfold releaseRequest
  split
  · exact h
  · next a found =>
    obtain ⟨-, before, after, split, -⟩ := List.find?_eq_some_iff_append.1 found
    have left := removeArrival_middle (split ▸ distinct)
    refine (ReceiveUnit.sound_iff _).2 ?_
    dsimp only
    rw [split] at most distinct each total ⊢
    rw [left]
    have sub : (before ++ after).Sublist (before ++ a :: after) := (List.sublist_cons_self a after).append_left before
    refine ⟨groups, size, contexts, ⟨sub.length_le.trans most, distinct.sublist (sub.map _),
      fun x hx => each x (sub.subset hx)⟩, counter, records, ?_⟩
    simp only [storeTotal, List.map_append, List.map_cons, List.sum_append, List.sum_cons] at total ⊢
    omega

theorem goOfflineRequest_rx_sound (body : List Byte) (h : s.rx.sound) : (goOfflineRequest body s).2.rx.sound := by
  unfold goOfflineRequest
  dsimp only
  split
  · exact receiveDepart_sound _ (by simpa [endWalk] using h)
  · exact h

end

/-- R122 to R142: every operation keeps the receive message unit sound. -/
theorem receiveLaw : UnitLaw (fun s => s.rx.sound) where
  untouched h _ _ _ rx := by
    rw [rx]
    exact h
  poweredOn _ := ReceiveUnit.reset_sound
  handled {c run} body s handler allowed h := by
    cases c <;> cases handler
    case setGroups =>
      obtain ⟨code, request, allowed⟩ := allowed
      cases request
      exact setGroupsRequest_sound h (by simpa [bodyShape] using allowed)
    case releaseMessage => exact releaseRequest_sound body h
    case readCounts =>
      obtain same | same := readCountsRequest_cases body s
      · rw [same]
        exact h
      · rw [same]
        exact h
    case goOnline => simpa [goOnlineRequest_only] using h
    case goOffline => exact goOfflineRequest_rx_sound body h
    case resetNode => exact ReceiveUnit.reset_sound
    case stageBegin => simpa [stageBeginRequest_only] using h
    case stageAdd => simpa [stageAddRequest_only] using h
    case stageRemove => simpa [stageRemoveRequest_only] using h
    case stageClose => simpa [stageCloseRequest_only] using h
    case stageDiscard => simpa [stageDiscardRequest_only] using h
    all_goals simpa using h
  switches _ _ h := by simpa using h
  accepts _ _ h := by simpa using h
  scheduleDeparts _ _ h := by simpa using h
  channelStarts _ h := by simpa using h
  channelDeparts _ h := by simpa using h
  slotEnds number owner label payload f s h := by
    rw [(channelSlotEnd_only number owner label payload f s).2.2.2.2.1]
    exact h
  transmitStarts _ h := by simpa using h
  transmitDeparts _ _ h := by simpa using h
  windowOpens _ _ _ _ h := by simpa using h
  outcome _ _ h := by simpa using h
  receiveStarts _ h := receiveCycleStart_sound h
  receiveDeparts reason _ h := receiveDepart_sound reason h
  segment number f _ h := receiveSegment_sound number f h

/-- Settles O9. -/
theorem receiveUnitStaysSound : Obligations.ReceiveUnitStaysSound := fun _ _ h runs => receiveLaw.step h runs

end Sys2Proof.Machine
end

section
/-! PROOFS. R19 to R37: the cycle unit stays sound, and its number advances at cycle starts alone. Settles O5 and O17. -/

namespace Sys2Proof.Machine

set_option Elab.async false

/-! ### Soundness by name -/

/-- What `CycleUnit.sound` says, each law under a name. -/
structure CycleUnit.Laws (c : CycleUnit) : Prop where
  now : c.now.isSome = c.timing.synchronised
  claim : c.claim.isSome = (c.timing == .claiming)
  hunts : c.run.isSome → c.timing = .hunting
  count : ∀ r ∈ c.run.toList, r.count = 1 ∨ r.count = 2
  conflicts : c.conflict.isSome → c.timing = .leading
  quiet : ∀ n ∈ c.conflict.toList, n < Config.quietLimit
  listens : c.listenOnly → c.timing.following
  misses : c.missCount ≤ Config.missLimit
  holdover : c.timing = .holdover → 1 ≤ c.missCount ∧ c.missCount < Config.missLimit
  unmissed : c.timing = .offline ∨ c.timing = .claiming ∨ c.timing = .leading ∨ c.timing = .locked → c.missCount = 0
  phaseLow : -2 ≤ c.phaseError
  phaseHigh : c.phaseError ≤ 2
  address : c.address ≤ 62
  addressed : c.timing ≠ .offline → c.address ≠ 0
  mastering : c.timing = .claiming ∨ c.timing = .leading → c.role = .master

theorem CycleUnit.sound_iff (c : CycleUnit) : c.sound ↔ c.Laws :=
  ⟨fun ⟨now, claim, hunts, count, conflicts, quiet, listens, misses, holdover, unmissed, phaseLow, phaseHigh, address,
      addressed, mastering⟩ =>
    ⟨now, claim, hunts, count, conflicts, quiet, listens, misses, holdover, unmissed, phaseLow, phaseHigh, address,
      addressed, mastering⟩,
   fun h => ⟨h.now, h.claim, h.hunts, h.count, h.conflicts, h.quiet, h.listens, h.misses, h.holdover, h.unmissed,
      h.phaseLow, h.phaseHigh, h.address, h.addressed, h.mastering⟩⟩

theorem CycleUnit.reset_laws : CycleUnit.reset.Laws :=
  (CycleUnit.sound_iff _).1 (by refine ⟨rfl, rfl, nofun, nofun, nofun, nofun, nofun, ?_⟩; decide)

/-- The cycle unit after a departure. -/
abbrev CycleUnit.departed (c : CycleUnit) (d : Destination) (run : Option CandidateRun) : CycleUnit :=
  { c with timing := d.timing, now := none, listenOnly := false, claim := none, conflict := none,
           run := if d = .hunting then run else none, missCount := if d = .hunting then c.missCount else 0 }

/-- The cycle unit once a cycle with these values has begun. -/
abbrev CycleUnit.begun (c : CycleUnit) (now : CycleNow) : CycleUnit :=
  { c with now := some now, conflict := if c.timing = .leading then quietAfter c.conflict else c.conflict }

section
variable {c : CycleUnit}

/-- R37: a departure leaves a sound unit, whatever the timing state was. -/
theorem CycleUnit.Laws.departed {d : Destination} {run : Option CandidateRun} (misses : c.missCount ≤ Config.missLimit)
    (phaseLow : -2 ≤ c.phaseError) (phaseHigh : c.phaseError ≤ 2) (address : c.address ≤ 62)
    (addressed : d = .hunting → c.address ≠ 0) (count : ∀ r ∈ run.toList, r.count = 1 ∨ r.count = 2) :
    (c.departed d run).Laws := by
  cases d with
  | hunting =>
    exact ⟨rfl, rfl, fun _ => rfl, count, nofun, nofun, nofun, misses, nofun, by simp [Destination.timing], phaseLow,
      phaseHigh, address, fun _ => addressed rfl, by simp [Destination.timing]⟩
  | offline =>
    exact ⟨rfl, rfl, nofun, nofun, nofun, nofun, nofun, Nat.zero_le _, nofun, fun _ => rfl, phaseLow, phaseHigh, address,
      by simp [Destination.timing], by simp [Destination.timing]⟩

/-- R37: a departure from a sound unit. -/
theorem CycleUnit.Laws.departs {d : Destination} {run : Option CandidateRun} (h : c.Laws)
    (online : d = .hunting → c.timing ≠ .offline) (count : ∀ r ∈ run.toList, r.count = 1 ∨ r.count = 2) :
    (c.departed d run).Laws :=
  .departed h.misses h.phaseLow h.phaseHigh h.address (fun hunting => h.addressed (online hunting)) count

theorem quietAfter_lt {q : Option Nat} : ∀ n ∈ (quietAfter q).toList, n < Config.quietLimit := by
  intro n hn
  unfold quietAfter at hn
  cases q with
  | none => simp at hn
  | some m =>
    simp only [Option.bind_some] at hn
    split_ifs at hn with limit
    · simp at hn
    · obtain rfl := List.mem_singleton.1 hn
      exact Nat.lt_of_not_le limit

theorem quietAfter_isSome {q : Option Nat} (h : (quietAfter q).isSome) : q.isSome := by
  cases q with
  | none => cases h
  | some m => rfl

/-- R23, R28: a cycle start of a synchronised node. -/
theorem CycleUnit.Laws.begins (h : c.Laws) (synchronised : c.timing.synchronised = true) (now : CycleNow) :
    (c.begun now).Laws := by
  refine { h with now := synchronised.symm, conflicts := fun some => ?_, quiet := fun n hn => ?_ }
  · dsimp only at some
    split at some
    · exact h.conflicts (quietAfter_isSome some)
    · exact h.conflicts some
  · dsimp only at hn
    split at hn
    · exact quietAfter_lt n hn
    · exact h.quiet n hn

/-- R26, R34: a master that leads. -/
theorem CycleUnit.Laws.leads (address : c.address ≤ 62) (addressed : c.address ≠ 0) (master : c.role = .master)
    (now : CycleNow) : ({ c.leads with now := some now } : CycleUnit).Laws :=
  ⟨rfl, rfl, nofun, nofun, nofun, nofun, nofun, Nat.zero_le _, nofun, fun _ => rfl, (by decide : (-2 : Int) ≤ 0),
    (by decide : (0 : Int) ≤ 2), address, fun _ => addressed, fun _ => master⟩

/-- R30, R31: the unit as it adopts an accepted frame, listen-only judged. -/
theorem CycleUnit.Laws.adopts {now : CycleNow} {phase : Int} {master : Byte} (h : c.Laws) (online : c.timing ≠ .offline)
    (phaseLow : -2 ≤ phase) (phaseHigh : phase ≤ 2) (unclaimed : c.claim = none) (settled : c.conflict = none)
    (listenOnly : Bool) :
    ({ c with timing := .locked, now := some now, phaseError := phase, missCount := 0, lastMaster := master, run := none,
              listenOnly := listenOnly } : CycleUnit).Laws :=
  ⟨rfl, by rw [unclaimed]; rfl, nofun, nofun, by rw [settled]; nofun, by rw [settled]; nofun, fun _ => rfl, Nat.zero_le _,
    nofun, fun _ => rfl, phaseLow, phaseHigh, h.address, fun _ => h.addressed online, by simp⟩

theorem CycleUnit.Laws.unclaimed (h : c.Laws) (timing : c.timing ≠ .claiming) : c.claim = none := by
  have unclaimed := h.claim
  rw [beq_eq_false_iff_ne.2 timing] at unclaimed
  exact Option.isSome_eq_false_iff.1 unclaimed |> Option.isNone_iff_eq_none.1

theorem CycleUnit.Laws.unconflicted (h : c.Laws) (timing : c.timing ≠ .leading) : c.conflict = none := by
  cases conflict : c.conflict with
  | none => rfl
  | some n => exact absurd (h.conflicts (by simp [conflict])) timing

theorem CycleUnit.Laws.noRun (h : c.Laws) (timing : c.timing ≠ .hunting) : c.run = none := by
  cases run : c.run with
  | none => rfl
  | some r => exact absurd (h.hunts (by simp [run])) timing

theorem following_facts {t : Timing} (h : t.following = true) :
    t ≠ .offline ∧ t ≠ .claiming ∧ t ≠ .leading ∧ t ≠ .hunting ∧ t.synchronised = true := by
  cases t <;> simp [Timing.following, Timing.synchronised] at h ⊢

/-- R32: a following node that has missed a cycle start, with misses left. -/
theorem CycleUnit.Laws.missed (h : c.Laws) (following : c.timing.following = true)
    (few : c.missCount + 1 < Config.missLimit) (now : c.now.isSome = true) :
    ({ c with timing := .holdover, missCount := c.missCount + 1 } : CycleUnit).Laws := by
  obtain ⟨online, notClaiming, notLeading, notHunting, -⟩ := following_facts following
  exact { h with
    now := now
    claim := by simp [h.unclaimed notClaiming]
    hunts := by simp [h.noRun notHunting]
    conflicts := by simp [h.unconflicted notLeading]
    listens := fun _ => rfl
    misses := Nat.le_of_lt few
    holdover := fun _ => ⟨Nat.le_add_left _ _, few⟩
    unmissed := by simp
    addressed := fun _ => h.addressed online
    mastering := by simp }

end

/-! ### The cycle unit after each operation -/

/-- R23, R24, R28: the cycle unit after a cycle start; a leading node's length is that of the bank then active. -/
theorem beginCycle_cycle (now : CycleNow) (s : State) :
    ∃ length, (beginCycle now s).cycle = s.cycle.begun { now with length := length } ∧
      (s.cycle.timing ≠ .leading → length = now.length) := by
  by_cases leading : s.cycle.timing = .leading
  · let opened := (s.withCycle { s.cycle with now := some now }).atInstant now.origin
    refine ⟨(scheduleCycleStart now.number (advanceQuiet (takeUpCycle opened))).activeLength, ?_,
      fun h => absurd leading h⟩
    simp [beginCycle, signalCycleStart_cycle, leading, opened]
  · refine ⟨now.length, ?_, fun _ => rfl⟩
    simp [beginCycle, signalCycleStart_cycle, leading]

theorem inStartWindow_iff (pos : Int) : inStartWindow pos = true ↔ -2 ≤ pos ∧ pos ≤ 2 := by
  simp [inStartWindow]

/-- R29: the frame that completes a run is within 2 byte times of its length. -/
theorem CandidateRun.completedBy_phase {r : CandidateRun} {f : CycleStartFrame} {stamp : Word}
    (h : r.completedBy f stamp = true) :
    -2 ≤ (r.spacing stamp : Int) - r.length ∧ (r.spacing stamp : Int) - r.length ≤ 2 := by
  simp only [CandidateRun.completedBy, CandidateRun.continuedBy, within2, Bool.and_eq_true, decide_eq_true_eq] at h
  omega

section
variable {s v u : State}

/-- R32: the unit after a missed cycle start. -/
theorem Missed.laws {c : CycleNow} (m : Missed c s u) (h : s.cycle.Laws) (following : s.cycle.timing.following = true)
    (now : s.cycle.now.isSome = true) : u.cycle.Laws := by
  obtain ⟨online, notClaiming, notLeading, notHunting, synchronised⟩ := following_facts following
  have most : s.cycle.missCount + 1 ≤ Config.missLimit := by
    cases timing : s.cycle.timing with
    | holdover => exact (h.holdover timing).2
    | locked =>
      rw [h.unmissed (by simp [timing])]
      decide
    | _ => simp [timing, Timing.following] at following
  cases m with
  | counted few => exact h.missed following few now
  | lost =>
    rw [(depart_only _ _ _ _).2.1]
    exact .departed (c := { s.cycle with timing := .holdover, missCount := s.cycle.missCount + 1 }) most h.phaseLow h.phaseHigh
      h.address (fun _ => h.addressed online) nofun
  | tookOver _ role =>
    rw [(takeOver_only _ _).2.2.2.2.2.2]
    exact .leads h.address (h.addressed online) role c

/-- R25 to R35: the unit after a received frame. -/
theorem Heard.laws {stamp : Word} (e : Heard stamp s u) (h : s.cycle.Laws) : u.cycle.Laws := by
  cases e with
  | noted i =>
    rw [i.cycle_eq]
    exact h
  | segment f i =>
    rw [(receiveSegment_only _ _ _).2.1, i.cycle_eq]
    exact h
  | missed i following now m =>
    rw [← i.cycle_eq] at h following now
    exact m.laws h following (by simp [now])
  | @accepted v c f i following now _ _ inWindow =>
    obtain ⟨online, notClaiming, notLeading, notHunting, -⟩ := following_facts following
    obtain ⟨low, high⟩ := (inStartWindow_iff _).1 inWindow
    have adopted := h.adopts (now := { number := c.number, origin := stamp, length := f.length }) (master := f.source)
      online low high (h.unclaimed notClaiming) (h.unconflicted notLeading)
    rw [acceptFrame, (acceptFields_only _ _).2.2.2.2.2.2.2.2.1]
    simpa [CycleUnit.accepts, i.cycle_eq, h.noRun notHunting] using adopted _
  | @jumped v reason f i following =>
    rw [jump, (depart_only _ _ _ _).2.1, i.cycle_eq]
    exact h.departs (fun _ => (following_facts following).1) (by simp [firstCandidate])
  | @yielded v f i mastering =>
    rw [yieldTo, (depart_only _ _ _ _).2.1]
    simp only [State.withCycle, i.cycle_eq]
    refine .departed (c := { s.cycle with lastMaster := f.source }) h.misses h.phaseLow h.phaseHigh h.address
      (fun _ => h.addressed ?_) (by simp [firstCandidate])
    obtain claiming | leading := mastering <;> simp [*]
  | claimed i =>
    simp only [State.withCycle, i.cycle_eq]
    exact { h with claim := by simpa using h.claim }
  | conflicted i leading =>
    rw [(conflictFrame_only _ _).2.2.2.2.2.2, i.cycle_eq]
    exact { h with
      conflicts := fun _ => leading
      quiet := by simp [Config.quietLimit] }
  | candidate i hunting count =>
    simp only [State.withCycle, i.cycle_eq]
    refine { h with hunts := fun _ => hunting, count := ?_ }
    simp only [Option.toList_some, List.mem_singleton, forall_eq]
    obtain first | ⟨r', run, few, next⟩ := count
    · exact .inl first
    · obtain one | two := h.count r' (by simp [run])
      · exact .inr (by omega)
      · omega
  | @locked v r f i hunting run _ third =>
    obtain ⟨low, high⟩ := CandidateRun.completedBy_phase third
    have adopted := h.adopts (now := { number := f.number, origin := stamp, length := f.length }) (master := f.source)
      (by simp [hunting]) low high (h.unclaimed (by simp [hunting])) (h.unconflicted (by simp [hunting]))
    rw [lockOn, (acceptFields_only _ _).2.2.2.2.2.2.2.2.1]
    simpa [signalCycleStart_cycle, endWalk, CycleUnit.lockedOn, i.cycle_eq] using adopted _

/-! ### The requests -/

theorem setNodeRequest_laws (body : List Byte) (h : s.cycle.Laws) : (setNodeRequest body s).2.cycle.Laws := by
  unfold setNodeRequest
  split_ifs with online address
  · exact h
  · exact h
  · have offline : s.cycle.timing = .offline := by simpa [State.online] using online
    split
    · exact h
    · exact { h with
        address := by simpa using address
        addressed := fun online => absurd offline online
        mastering := by simp [State.withCycle, offline] }

theorem goOnlineRequest_laws (body : List Byte) (h : s.cycle.Laws) : (goOnlineRequest body s).2.cycle.Laws := by
  unfold goOnlineRequest
  split_ifs with refused
  · exact h
  · simp only [Bool.or_eq_true, decide_eq_true_eq, not_or] at refused
    obtain ⟨online, addressed⟩ := refused
    have offline : s.cycle.timing = .offline := by simpa [State.online] using online
    have absent : s.cycle.now = none := by simpa [offline, Timing.synchronised] using h.now
    have unclaimed := h.unclaimed (by simp [offline])
    have unconflicted := h.unconflicted (by simp [offline])
    have noRun := h.noRun (by simp [offline])
    simp only [hearFromNow, State.withCycle, CycleUnit.goesOnline]
    cases role : s.cycle.role with
    | member =>
      exact ⟨by simp [absent, Timing.synchronised], by simp [unclaimed], fun _ => rfl, nofun, by simp [unconflicted],
        by simp [unconflicted], nofun, Nat.zero_le _, nofun, by simp, h.phaseLow, h.phaseHigh, h.address,
        fun _ => addressed, by simp⟩
    | master =>
      exact ⟨by simp [absent, Timing.synchronised], rfl, by simp [noRun], by simp [noRun], by simp [unconflicted],
        by simp [unconflicted], nofun, Nat.zero_le _, nofun, fun _ => rfl, h.phaseLow, h.phaseHigh, h.address,
        fun _ => addressed, fun _ => rfl⟩

/-- R19 to R39: every request keeps the cycle unit sound. -/
theorem handler_laws {c : Instr} {run : Handler} (handler : requestHandler c = some run) (body : List Byte)
    (h : s.cycle.Laws) : (run body s).2.cycle.Laws := by
  cases c <;> cases handler
  case setNode => exact setNodeRequest_laws body h
  case setCycle =>
    unfold setCycleRequest
    split
    · exact { h with }
    · exact h
  case goOnline => exact goOnlineRequest_laws body h
  case goOffline =>
    unfold goOfflineRequest
    dsimp only
    split
    · rw [(depart_only _ _ _ _).2.1, (deferOffline_only s).1]
      exact h.departs nofun nofun
    · exact h
  case resetNode => exact CycleUnit.reset_laws
  case stageBegin => simpa [stageBeginRequest_only] using h
  case stageAdd => simpa [stageAddRequest_only] using h
  case stageRemove => simpa [stageRemoveRequest_only] using h
  case stageClose => simpa [stageCloseRequest_only] using h
  case stageDiscard => simpa [stageDiscardRequest_only] using h
  all_goals simpa using h

/-- R19 to R39: every command keeps the cycle unit sound. -/
theorem Effect.laws {c : Instr} (e : Effect s c u) (h : s.cycle.Laws) : u.cycle.Laws := by
  cases e with
  | handled _ handler => exact handler_laws (s := s) handler _ h
  | poweredOn => exact CycleUnit.reset_laws
  | @claimed r claiming claim =>
    rw [claimExpires]
    obtain ⟨length, begun, -⟩ := beginCycle_cycle (r.firstCycle s.activeLength) (giveNotice
      (.masterLeading .claim (r.firstCycle s.activeLength).number)
      (s.withCycle { s.cycle.leads with now := some (r.firstCycle s.activeLength) }))
    rw [begun, giveNotice_cycle]
    exact (CycleUnit.Laws.leads h.address (h.addressed (by simp [claiming])) (h.mastering (.inl claiming)) _).begins rfl _
  | @cycleBegun _ now _ current =>
    obtain ⟨length, begun, -⟩ := beginCycle_cycle now.following (keepLate now s)
    rw [begun]
    refine h.begins ?_ _
    unfold State.current at current
    split at current
    · assumption
    · cases current
  | frameHeard => exact (handFrame_heard _ _ _).laws h
  | @windowClosed _ now _ pending =>
    unfold State.pendingWindow at pending
    split at pending
    · next open' =>
      simp only [Bool.and_eq_true] at open'
      exact (missCycleStart_missed _ _).laws h open'.1 (by simp [settleWindow, pending])
    · cases pending
  | slotEnded =>
    rw [handSlotEnd, (channelSlotEnd_only _ _ _ _ _ _).2.1]
    simpa using h
  | _ => simpa using h

end

/-- Settles O5. -/
theorem cycleUnitStaysSound : Obligations.CycleUnitStaysSound := by
  intro s t h runs
  rw [CycleUnit.sound_iff] at h ⊢
  exact step_keeps (P := fun s => s.cycle.Laws) (fun _ _ h => h) (fun _ h => h) (fun _ _ _ h e => e.laws h) h runs

/-! ### The cycle number -/

theorem State.current_some {s : State} {c : CycleNow} :
    s.current = some c ↔ s.cycle.timing.synchronised = true ∧ s.cycle.now = some c := by
  unfold State.current
  split <;> simp [*]

section
variable {s v u : State} {a b : CycleNow}

/-- R23: a cycle start begins the cycle with the number it is given. -/
theorem beginCycle_current (now : CycleNow) (s : State) (h : (beginCycle now s).current = some b) :
    b.number = now.number := by
  obtain ⟨length, begun, -⟩ := beginCycle_cycle now s
  obtain ⟨-, h⟩ := State.current_some.1 h
  rw [begun] at h
  cases h
  rfl

theorem depart_current (d : Destination) (own : List NoticeBody) (run : Option CandidateRun) (s : State) :
    (depart d own run s).current = none := by
  simp [State.current]

/-- R32, R34: a missed cycle start keeps the number. -/
theorem Missed.number (m : Missed a s u) (now : s.cycle.now = some a) (after : u.current = some b) :
    b.number = a.number := by
  cases m with
  | counted =>
    obtain ⟨-, after⟩ := State.current_some.1 after
    rw [show a = b from Option.some.inj (now.symm.trans after)]
  | lost => simp [depart_current] at after
  | tookOver =>
    obtain ⟨-, after⟩ := State.current_some.1 after
    simp only [takeOver_only, Option.some.injEq] at after
    rw [after]

/-- R25 to R35: no received frame changes the number of a node that stays synchronised. -/
theorem Heard.number {stamp : Word} (e : Heard stamp s u) (before : s.current = some a) (after : u.current = some b) :
    b.number = a.number := by
  obtain ⟨synchronised, now⟩ := State.current_some.1 before
  obtain ⟨-, now'⟩ := State.current_some.1 after
  have same (h : u.cycle.now = s.cycle.now) : b.number = a.number := by
    rw [show a = b from Option.some.inj (now.symm.trans (h.symm.trans now'))]
  cases e with
  | noted i => exact same (by rw [i.cycle_eq])
  | segment f i => exact same (by rw [(receiveSegment_only _ _ _).2.1, i.cycle_eq])
  | missed i _ now' m =>
    cases now.symm.trans now'
    exact m.number (by rw [i.cycle_eq, now]) after
  | accepted i _ current _ number =>
    cases now.symm.trans current
    simp only [acceptFrame, acceptFields_only, CycleUnit.accepts, Option.some.injEq] at now'
    rw [← now']
  | jumped => simp [jump, depart_current] at after
  | yielded => simp [yieldTo, depart_current] at after
  | claimed i claiming => simp [claiming, Timing.synchronised] at synchronised
  | conflicted i => exact same (by rw [(conflictFrame_only _ _).2.2.2.2.2.2, i.cycle_eq])
  | candidate i hunting => simp [hunting, Timing.synchronised] at synchronised
  | locked i hunting => simp [hunting, Timing.synchronised] at synchronised

/-- R20 to R41: no request changes the number. -/
theorem handler_now {c : Instr} {run : Handler} (handler : requestHandler c = some run) (body : List Byte) (s : State) :
    (run body s).2.cycle.now = s.cycle.now ∨ (run body s).2.cycle.now = none := by
  cases c <;> cases handler
  case setNode =>
    unfold setNodeRequest
    split_ifs
    · exact .inl rfl
    · exact .inl rfl
    · split <;> exact .inl rfl
  case setCycle =>
    unfold setCycleRequest
    split <;> exact .inl rfl
  case goOnline =>
    unfold goOnlineRequest
    split
    · exact .inl rfl
    · refine .inl ?_
      simp only [hearFromNow, State.withCycle, CycleUnit.goesOnline]
      split <;> rfl
  case goOffline =>
    unfold goOfflineRequest
    dsimp only
    split
    · exact .inr (by rw [(depart_only _ _ _ _).2.1])
    · exact .inl rfl
  case resetNode => exact .inr rfl
  case stageBegin => simp [stageBeginRequest_only]
  case stageAdd => simp [stageAddRequest_only]
  case stageRemove => simp [stageRemoveRequest_only]
  case stageClose => simp [stageCloseRequest_only]
  case stageDiscard => simp [stageDiscardRequest_only]
  all_goals simp

/-- R23: the number advances by one at the cycle starts, and at nothing else. -/
theorem Effect.number {c : Instr} (e : Effect s c u) (before : s.current = some a) (after : u.current = some b) :
    (c ∈ cycleStartCommands ∧ b.number = a.number + 1) ∨ (c ∉ cycleStartCommands ∧ b.number = a.number) := by
  obtain ⟨synchronised, now⟩ := State.current_some.1 before
  obtain ⟨-, now'⟩ := State.current_some.1 after
  have same (h : u.cycle.now = s.cycle.now) : b.number = a.number := by
    rw [show a = b from Option.some.inj (now.symm.trans (h.symm.trans now'))]
  cases e with
  | handled request handler =>
    refine .inr ⟨?_, ?_⟩
    · rintro begins
      cases c <;> cases request <;> simp [cycleStartCommands] at begins
    · obtain h | h := handler_now handler _ s
      · exact same h
      · simp [h] at now'
  | wrongLength request =>
    refine .inr ⟨?_, same rfl⟩
    rintro begins
    cases c <;> cases request <;> simp [cycleStartCommands] at begins
  | poweredOn => cases now'
  | claimed claiming => simp [claiming, Timing.synchronised] at synchronised
  | cycleBegun begins current =>
    cases before.symm.trans current
    exact .inl ⟨begins, beginCycle_current _ _ after⟩
  | frameHeard received =>
    refine .inr ⟨?_, (handFrame_heard _ _ (heard (s.atInstant _))).number before after⟩
    obtain rfl | rfl := received <;> simp [cycleStartCommands]
  | @windowClosed _ n closes pending =>
    refine .inr ⟨?_, ?_⟩
    · simp only [List.mem_cons, List.not_mem_nil, or_false] at closes
      obtain rfl | rfl | rfl := closes <;> simp [cycleStartCommands]
    · unfold State.pendingWindow at pending
      split at pending
      · cases now.symm.trans pending
        exact (missCycleStart_missed _ (settleWindow (s.atInstant _))).number now after
      · cases pending
  | slotEnded ends =>
    refine .inr ⟨?_, same (by rw [handSlotEnd, (channelSlotEnd_only _ _ _ _ _ _).2.1]; simp)⟩
    obtain rfl | rfl := ends <;> simp [cycleStartCommands]
  | segmentDisturbed disturbs =>
    refine .inr ⟨?_, same (by simp)⟩
    obtain rfl | rfl := disturbs <;> simp [cycleStartCommands]
  | cutShort cut =>
    refine .inr ⟨?_, same (by simp)⟩
    obtain rfl | rfl := cut <;> simp [cycleStartCommands]
  | _ => exact .inr ⟨by simp [cycleStartCommands], same (by simp)⟩

end

/-- Settles O17. -/
theorem cycleNumberAdvancesByOne : Obligations.CycleNumberAdvancesByOne := by
  intro c s t a b runs before after
  have starts : c = .cycleStart → b.number = a.number + 1 := by
    rintro rfl
    have begun : exec .cycleStart s = .next (beginCycle a.following (keepLate a s)).setAttn := by
      show nextCycle s = _
      simp [nextCycle, before, finish]
    cases runs.symm.trans begun
    exact beginCycle_current _ _ after
  obtain rfl | ⟨u, e, rfl⟩ := effect_of_exec runs
  · cases before.symm.trans after
    exact ⟨fun _ => rfl, starts, .inl rfl⟩
  · obtain ⟨begins, number⟩ | ⟨other, number⟩ := e.number before after
    · exact ⟨fun other => absurd begins other, starts, .inr number⟩
    · exact ⟨fun _ => number, starts, .inl number⟩

end Sys2Proof.Machine
end

section
/-! PROOFS. What each command leaves alone: what the host configures (O19), the ACTIVE bank (O20), and the units that an event's
rules do not name (O23). -/

namespace Sys2Proof.Machine

set_option Elab.async false

/-! ### The operating state -/

section
variable {s v u : State}

theorem State.online_iff (s : State) : s.online = true ↔ s.cycle.timing ≠ .offline := by
  simp [State.online]

/-- R32: a missed cycle start leaves the node ONLINE. -/
theorem Missed.online {c : CycleNow} (m : Missed c s u) : u.cycle.timing ≠ .offline := by
  cases m with
  | counted => exact nofun
  | lost => simp [Destination.timing]
  | tookOver => simp [CycleUnit.leads]

/-- R5: no received frame makes the node ONLINE or OFFLINE. -/
theorem Heard.online {stamp : Word} (e : Heard stamp s u) : u.online = s.online := by
  have same (h : u.cycle = s.cycle) : u.online = s.online := by rw [State.online, h, State.online]
  have both (after : u.cycle.timing ≠ .offline) (before : s.cycle.timing ≠ .offline) : u.online = s.online := by
    rw [(State.online_iff u).2 after, (State.online_iff s).2 before]
  cases e with
  | noted i => exact same i.cycle_eq
  | segment f i => exact same (by rw [(receiveSegment_only _ _ _).2.1, i.cycle_eq])
  | missed i following _ m => exact both m.online (following_facts following).1
  | accepted i following => exact both (by simp [acceptFrame, CycleUnit.accepts]) (following_facts following).1
  | jumped _ i following => exact both (by simp [jump, Destination.timing]) (following_facts following).1
  | yielded i mastering =>
    exact both (by simp [yieldTo, Destination.timing]) (by obtain h | h := mastering <;> simp [h])
  | claimed i claiming => exact both (by simp [i.cycle_eq, claiming]) (by simp [claiming])
  | conflicted i leading => exact both (by simp [i.cycle_eq, leading]) (by simp [leading])
  | candidate i hunting => exact both (by simp [i.cycle_eq, hunting]) (by simp [hunting])
  | locked i hunting =>
    exact both (by simp [lockOn, endWalk, CycleUnit.lockedOn]) (by simp [hunting])

theorem beginCycle_timing (now : CycleNow) (s : State) : (beginCycle now s).cycle.timing = s.cycle.timing := by
  obtain ⟨length, begun, -⟩ := beginCycle_cycle now s
  rw [begun]

/-- R19: an event of the trunk leaves the node ONLINE or OFFLINE as it was. -/
theorem Effect.online {c : Instr} (e : Effect s c u) (trunk : onTrunk c = true) : u.online = s.online := by
  have same (h : u.cycle = s.cycle) : u.online = s.online := by rw [State.online, h, State.online]
  cases e with
  | handled request => cases c <;> cases request <;> cases trunk
  | poweredOn => cases trunk
  | claimed claiming =>
    simp only [State.online, claimExpires, beginCycle_timing]
    simp [CycleUnit.leads, claiming]
    decide
  | cycleBegun => simp [State.online, beginCycle_timing, keepLate]
  | frameHeard => exact (handFrame_heard _ _ (heard (s.atInstant _))).online
  | @windowClosed _ now _ pending =>
    have online : s.cycle.timing ≠ .offline := by
      unfold State.pendingWindow at pending
      split at pending
      · next open' =>
        simp only [Bool.and_eq_true] at open'
        exact (following_facts open'.1).1
      · cases pending
    rw [(State.online_iff s).2 online, State.online_iff]
    exact (missCycleStart_missed now (settleWindow (s.atInstant (now.origin + 2)))).online
  | slotEnded => exact same (by rw [handSlotEnd, (channelSlotEnd_only _ _ _ _ _ _).2.1]; simp)
  | _ => exact same (by simp)

end

/-! ### Commands of the trunk -/

section
variable {c : Instr}

theorem cycleStart_onTrunk (h : c ∈ cycleStartCommands) : onTrunk c = true := by
  simp only [cycleStartCommands, List.mem_cons, List.not_mem_nil, or_false] at h
  obtain rfl | rfl | rfl | rfl | rfl | rfl | rfl := h <;> rfl

theorem receivedFrame_onTrunk {stamp : Word} {bytes : List Byte}
    (h : c = .trunkFrameReceived stamp bytes ∨ c = .syncLocked stamp bytes) : onTrunk c = true := by
  obtain rfl | rfl := h <;> rfl

theorem windowClose_onTrunk (h : c ∈ [Instr.cycleStartWindowCloses, .syncLost, .takeover]) : onTrunk c = true := by
  simp only [List.mem_cons, List.not_mem_nil, or_false] at h
  obtain rfl | rfl | rfl := h <;> rfl

theorem slotEnd_onTrunk {start : Nat} (h : c = .cyclicSlotEnd start ∨ c = .channelLost start) : onTrunk c = true := by
  obtain rfl | rfl := h <;> rfl

theorem disturbance_onTrunk (h : c = .segmentDisturbed ∨ c = .messageTrunkFault) : onTrunk c = true := by
  obtain rfl | rfl := h <;> rfl

end

/-! ### What the host configures -/

/-- What a request leaves as it was of what the host configures, by the request that it is. -/
abbrev ConfigKept (c : Instr) (s u : State) : Prop :=
  (c ≠ .setNode → u.cycle.address = s.cycle.address ∧ u.cycle.role = s.cycle.role) ∧
  (c ≠ .setCycle → u.cycle.bareLength = s.cycle.bareLength) ∧
  (c ≠ .goOnline → c ≠ .goOffline → u.online = s.online) ∧
  (c ≠ .setGroups → u.rx.groups = s.rx.groups) ∧
  (c ≠ .noticeMask → u.notices.disabled = s.notices.disabled) ∧
  u.link.straps = s.link.straps

theorem ConfigKept.of_units {c : Instr} {s u : State} (cycle : u.cycle = s.cycle) (groups : u.rx.groups = s.rx.groups)
    (disabled : u.notices.disabled = s.notices.disabled) (straps : u.link.straps = s.link.straps) : ConfigKept c s u :=
  ⟨fun _ => by rw [cycle]; exact ⟨rfl, rfl⟩, fun _ => by rw [cycle], fun _ _ => by rw [State.online, cycle, State.online],
    fun _ => groups, fun _ => disabled, straps⟩

theorem ConfigKept.of_stages {c : Instr} {s u : State} (h : StagesOnly s u) : ConfigKept c s u := by
  obtain ⟨-, cycle, -, -, -, rx, notices, link, -⟩ := h
  exact .of_units cycle (by rw [rx]) (by rw [notices]) (by rw [link])

theorem setNodeRequest_timing (body : List Byte) (s : State) :
    (setNodeRequest body s).2.cycle.timing = s.cycle.timing ∧
    (setNodeRequest body s).2.cycle.bareLength = s.cycle.bareLength := by
  unfold setNodeRequest
  split_ifs
  · simp
  · simp
  · split <;> simp

theorem setCycleRequest_identity (body : List Byte) (s : State) :
    (setCycleRequest body s).2.cycle.timing = s.cycle.timing ∧
    (setCycleRequest body s).2.cycle.address = s.cycle.address ∧
    (setCycleRequest body s).2.cycle.role = s.cycle.role := by
  unfold setCycleRequest
  split <;> simp

theorem goOnlineRequest_identity (body : List Byte) (s : State) :
    (goOnlineRequest body s).2.cycle.address = s.cycle.address ∧
    (goOnlineRequest body s).2.cycle.role = s.cycle.role ∧
    (goOnlineRequest body s).2.cycle.bareLength = s.cycle.bareLength := by
  unfold goOnlineRequest
  split
  · simp
  · simp only [hearFromNow, State.withCycle, CycleUnit.goesOnline]
    cases h : s.cycle.role <;> simp

theorem handler_configKept {c : Instr} {run : Handler} (handler : requestHandler c = some run) (node : c ≠ .resetNode)
    (body : List Byte) (s : State) : ConfigKept c s (run body s).2 := by
  cases c <;> cases handler
  case setNode => simp [ConfigKept, State.online, setNodeRequest_timing]
  case setCycle => simp [ConfigKept, State.online, setCycleRequest_identity]
  case goOnline =>
    obtain ⟨-, -, -, -, rx, notices, link, -⟩ := goOnlineRequest_only body s
    simp [ConfigKept, goOnlineRequest_identity, rx, notices, link]
  case goOffline => simp [ConfigKept]
  case resetNode => exact absurd rfl node
  case setGroups => simp [ConfigKept, State.online]
  case noticeMask => simp [ConfigKept, State.online]
  case stageBegin => exact .of_stages (stageBeginRequest_only body s)
  case stageAdd => exact .of_stages (stageAddRequest_only body s)
  case stageRemove => exact .of_stages (stageRemoveRequest_only body s)
  case stageClose => exact .of_stages (stageCloseRequest_only body s)
  case stageDiscard => exact .of_stages (stageDiscardRequest_only body s)
  case readCounts =>
    obtain h | h := readCountsRequest_cases body s
    · rw [h]
      exact .of_units rfl rfl rfl rfl
    · rw [h]
      exact .of_units rfl rfl rfl rfl
  all_goals exact .of_units (by simp) (by simp) (by simp) (by simp)

/-- R19 to R41: only its own request, or a reset, changes what the host configures. -/
theorem Effect.configKept {c : Instr} {s u : State} (e : Effect s c u) (node : c ≠ .resetNode)
    (power : ∀ a b d, c ≠ .powerOnReset a b d) : ConfigKept c s u := by
  by_cases trunk : onTrunk c = true
  · obtain ⟨link, -, -, groups, address, role, bareLength, disabled, -⟩ := e.hostSideKept trunk
    exact ⟨fun _ => ⟨address, role⟩, fun _ => bareLength, fun _ _ => e.online trunk, fun _ => groups, fun _ => disabled,
      by rw [link]⟩
  · cases e with
    | handled _ handler => exact handler_configKept handler node _ s
    | poweredOn a b d => exact absurd rfl (power a b d)
    | slotEnded ends => exact absurd (slotEnd_onTrunk ends) trunk
    | cycleBegun begins => exact absurd (cycleStart_onTrunk begins) trunk
    | frameHeard received => exact absurd (receivedFrame_onTrunk received) trunk
    | windowClosed closes => exact absurd (windowClose_onTrunk closes) trunk
    | segmentDisturbed disturbs => exact absurd (disturbance_onTrunk disturbs) trunk
    | claimed => exact absurd rfl trunk
    | _ => exact .of_units (by simp) (by simp) (by simp) (by simp)

/-- Settles O19. -/
theorem nodeChangesOnlyByRequest : Obligations.NodeChangesOnlyByRequest := by
  intro c s t runs node power
  obtain rfl | ⟨u, e, rfl⟩ := effect_of_exec runs
  · exact ConfigKept.of_units rfl rfl rfl rfl
  · exact e.configKept node power

/-! ### The ACTIVE bank -/

/-- R54: the ACTIVE bank is as it was, or the staged bank has been put in its place whole. -/
def SwitchedIn (s u : State) : Prop :=
  u.sched.active = s.sched.active ∨ (u.sched.staged = .empty ∧ ∃ epoch length entries,
    (s.sched.staged = .closed epoch length entries ∨ ∃ cycle, s.sched.staged = .armed epoch length entries cycle) ∧
    u.sched.active = { epoch := epoch, cycleLength := some length, entries := entries })

section
variable {s v u : State}

theorem SwitchedIn.of_sched (h : SwitchedIn s v) (staged : v.sched.staged = .empty → u.sched.staged = .empty)
    (active : u.sched.active = v.sched.active) : SwitchedIn s u := by
  obtain kept | ⟨empty, bank⟩ := h
  · exact .inl (active.trans kept)
  · exact .inr ⟨staged empty, by rwa [active]⟩

/-- R63, R72, R75: a cycle start keeps the ACTIVE bank or switches the staged bank in. -/
theorem scheduleCycleStart_switchedIn (number : Word) (s : State) : SwitchedIn s (scheduleCycleStart number s) := by
  unfold scheduleCycleStart switchBank
  split
  · next epoch length entries cycle staged =>
    split
    · exact .inr ⟨by simp [makeSwitch], epoch, length, entries, .inr ⟨_, staged⟩, by simp [makeSwitch]⟩
    · exact .inl rfl
  · next epoch length entries staged =>
    split
    · exact .inr ⟨by simp [makeSwitch], epoch, length, entries, .inl staged, by simp [makeSwitch]⟩
    · exact .inl rfl
  · exact .inl rfl
  · exact .inl rfl

theorem signalCycleStart_switchedIn (number : Word) (s : State) : SwitchedIn s (signalCycleStart number s) :=
  (scheduleCycleStart_switchedIn number s).of_sched (fun h => by simp [signalCycleStart, h]) (by simp [signalCycleStart])

theorem SwitchedIn.congr (h : SwitchedIn s u) (same : v.sched = s.sched) : SwitchedIn v u := by
  unfold SwitchedIn
  rwa [same]

theorem beginCycle_switchedIn (now : CycleNow) (s : State) (same : v.sched = s.sched) : SwitchedIn v (beginCycle now s) := by
  let opened := takeUpCycle ((s.withCycle { s.cycle with now := some now }).atInstant now.origin)
  have switched : SwitchedIn v (signalCycleStart now.number (advanceQuiet opened)) :=
    (signalCycleStart_switchedIn _ _).congr (by simp [opened, same])
  exact switched.of_sched (fun h => by simpa [beginCycle] using h) (by simp [beginCycle, opened])

/-- R66 to R74: an accepted frame leaves an EMPTY staged bank EMPTY. -/
theorem acceptFields_empty (f : CycleStartFrame) (h : s.sched.staged = .empty) :
    (acceptFields f s).sched.staged = .empty := by
  have kept : (evaluateListenOnly f s).sched.staged = .empty := by simp [h]
  have announced : (evaluateAnnouncement f (evaluateListenOnly f s)).sched.staged = .empty := by
    unfold evaluateAnnouncement Machine.announced notAnnounced unreadyOnce
    rw [kept]
    split_ifs <;> simp [h]
  rw [acceptFields, scheduleAccepts, markAdoption, adoptionTest, announced]
  simp [announced]

theorem Interim.switchedIn (i : Interim s v) (h : SwitchedIn v u) : SwitchedIn s u := by
  unfold SwitchedIn at h ⊢
  rwa [i.sched_eq] at h

theorem Missed.active {c : CycleNow} (m : Missed c s u) : u.sched.active = s.sched.active := by
  cases m with
  | counted => rfl
  | lost => simp
  | tookOver => simp

/-- R30, R54: of the received frames only the one that locks the node can switch a bank in. -/
theorem Heard.switchedIn {stamp : Word} (e : Heard stamp s u) : SwitchedIn s u := by
  cases e with
  | noted i => exact .inl (by rw [i.sched_eq])
  | segment f i => exact .inl (by rw [(receiveSegment_only _ _ _).2.2.1, i.sched_eq])
  | missed i _ _ m => exact .inl (by rw [m.active, i.sched_eq])
  | accepted i => exact .inl (by simp [acceptFrame, i.sched_eq])
  | jumped _ i => exact .inl (by simp [jump, i.sched_eq])
  | yielded i => exact .inl (by simp [yieldTo, i.sched_eq])
  | claimed i => exact .inl (by simp [i.sched_eq])
  | conflicted i => exact .inl (by simp [i.sched_eq])
  | candidate i => exact .inl (by simp [i.sched_eq])
  | @locked v r f i =>
    have switched : SwitchedIn v (signalCycleStart f.number (endWalk (giveNotice (.syncLocked f.source f.length)
        (v.withCycle (v.cycle.lockedOn r f stamp))))) :=
      (signalCycleStart_switchedIn _ _).congr (by simp [endWalk])
    exact i.switchedIn (switched.of_sched (acceptFields_empty f) (by simp [lockOn]))

theorem handler_active {c : Instr} {run : Handler} (handler : requestHandler c = some run) (node : c ≠ .resetNode)
    (body : List Byte) (s : State) : (run body s).2.sched.active = s.sched.active := by
  cases c <;> cases handler
  case resetNode => exact absurd rfl node
  case stageBegin => rw [(stageBeginRequest_only body s).2.2.1]
  case stageAdd => rw [(stageAddRequest_only body s).2.2.1]
  case stageRemove => rw [(stageRemoveRequest_only body s).2.2.1]
  case stageClose => rw [(stageCloseRequest_only body s).2.2.1]
  case stageDiscard => rw [(stageDiscardRequest_only body s).2.2.1]
  case goOnline => rw [(goOnlineRequest_only body s).2.1]
  all_goals simp

/-- R54: an effect that is no reset keeps the ACTIVE bank, or it is an event that switches the staged bank in. -/
theorem Effect.switchedIn {c : Instr} (e : Effect s c u) (node : c ≠ .resetNode)
    (power : ∀ a b d, c ≠ .powerOnReset a b d) :
    u.sched.active = s.sched.active ∨ (requestCode c = none ∧ SwitchedIn s u) := by
  cases e with
  | handled _ handler => exact .inl (handler_active handler node _ s)
  | poweredOn a b d => exact absurd rfl (power a b d)
  | claimed => exact .inr ⟨rfl, beginCycle_switchedIn _ _ (by simp)⟩
  | cycleBegun begins =>
    refine .inr ⟨?_, beginCycle_switchedIn _ _ rfl⟩
    simp only [cycleStartCommands, List.mem_cons, List.not_mem_nil, or_false] at begins
    obtain rfl | rfl | rfl | rfl | rfl | rfl | rfl := begins <;> rfl
  | @frameHeard _ stamp bytes received =>
    refine .inr ⟨by obtain rfl | rfl := received <;> rfl, ?_⟩
    exact (handFrame_heard stamp (judge bytes) (heard (s.atInstant (readInstant stamp bytes)))).switchedIn
  | windowClosed => exact .inl (missCycleStart_missed _ _).active
  | slotEnded => exact .inl (by rw [handSlotEnd, (channelSlotEnd_only _ _ _ _ _ _).2.2.1]; simp)
  | _ => exact .inl (by simp)

end

/-- Settles O20. -/
theorem activeBankOnlySwitchedIn : Obligations.ActiveBankOnlySwitchedIn := by
  intro c s t runs changed
  obtain rfl | ⟨u, e, rfl⟩ := effect_of_exec runs
  · exact absurd rfl changed
  · by_cases node : c = .resetNode
    · exact .inl node
    by_cases power : ∃ a b d, c = .powerOnReset a b d
    · exact .inr (.inl power)
    · obtain kept | ⟨event, kept | switched⟩ := e.switchedIn node (fun a b d h => power ⟨a, b, d, h⟩)
      · exact absurd kept changed
      · exact absurd kept changed
      · exact .inr (.inr ⟨event, switched⟩)

/-! ### The units that events leave alone -/

section
variable {s u : State}

theorem startCyclicSlot_trunk (start : Nat) (label : Byte) (since : Word) (s : State) :
    (startCyclicSlot start label since s).trunk = { s.trunk with
      sending := (startCyclicSlot start label since s).trunk.sending,
      txen := (startCyclicSlot start label since s).trunk.txen,
      ownSlots := (startCyclicSlot start label since s).trunk.ownSlots } := by
  unfold startCyclicSlot
  split
  · split <;> rfl
  · rfl

theorem releaseSlot_trunk (start : Nat) (s : State) :
    (releaseSlot start s).trunk =
      { s.trunk with slots := (releaseSlot start s).trunk.slots, late := (releaseSlot start s).trunk.late } := by
  obtain ⟨-, h⟩ | ⟨l, -, h⟩ := releaseSlot_cases start s
  · rw [h]
    rfl
  · rw [h]

theorem openWindow_trunk (start floor : Nat) (way : Contention) (s : State) :
    (openWindow start floor way s).trunk = { s.trunk with
      segment := (openWindow start floor way s).trunk.segment,
      ownSlots := (openWindow start floor way s).trunk.ownSlots } := by
  have offered (o : OnLine) : (offerFirst o s).trunk = s.trunk := by unfold offerFirst; split <;> rfl
  obtain ⟨-, h⟩ | ⟨f, o, -, h⟩ := openWindow_cases start floor way s
  · rw [h]
  · obtain ⟨since, -, contends⟩ | ⟨-, contends⟩ :=
      contend_cases { bytes := f.bytes, start := start, way := way } (offerFirst o s)
    · rw [h, contends, ← offered o]
    · rw [h, contends, ← offered o]

theorem offerFirst_tx (o : OnLine) (s : State) :
    (offerFirst o s).tx = { s.tx with queue := (offerFirst o s).tx.queue, onLine := (offerFirst o s).tx.onLine } := by
  unfold offerFirst
  split <;> rfl

theorem openWindow_tx (start floor : Nat) (way : Contention) (s : State) :
    (openWindow start floor way s).tx = { s.tx with
      queue := (openWindow start floor way s).tx.queue, onLine := (openWindow start floor way s).tx.onLine } := by
  obtain ⟨-, h⟩ | ⟨f, o, -, h⟩ := openWindow_cases start floor way s
  · rw [h]
  · rw [h, (contend_only _ _).2.2.2.1, offerFirst_tx]

/-- R168: an event of the host link. -/
theorem Effect.linkEvent {c : Instr} (e : Effect s c u) (link : onHostLink c = true) : LinksOnly s u := by
  have trunk : ¬ onTrunk c = true := by
    cases c <;> cases link <;> exact nofun
  cases e with
  | handled request => cases c <;> cases request <;> cases link
  | wrongLength request => cases c <;> cases request <;> cases link
  | cycleBegun begins => exact absurd (cycleStart_onTrunk begins) trunk
  | frameHeard received => exact absurd (receivedFrame_onTrunk received) trunk
  | windowClosed closes => exact absurd (windowClose_onTrunk closes) trunk
  | slotEnded ends => exact absurd (slotEnd_onTrunk ends) trunk
  | segmentDisturbed disturbs => exact absurd (disturbance_onTrunk disturbs) trunk
  | bytesReceived | broke | breakEnded | cutShort | selNegated | selected | replySent | noticeSent => simp
  | _ => cases link

/-- R10: the start of a slot of the node's own. -/
theorem Effect.slotStart {start : Nat} (e : Effect s (.cyclicSlotStart start) u) :
    u.setAttn = { s with
      trunk := { s.trunk.reach u.trunk.lineClock with
        sending := u.trunk.sending, txen := u.trunk.txen, ownSlots := u.trunk.ownSlots },
      link := { s.link with attn := u.setAttn.link.attn } } := by
  cases e with
  | handled request => cases request
  | wrongLength request => cases request
  | cycleBegun begins => simp [cycleStartCommands] at begins
  | frameHeard received => obtain h | h := received <;> cases h
  | windowClosed closes => simp at closes
  | slotEnded ends => obtain h | h := ends <;> cases h
  | segmentDisturbed disturbs => obtain h | h := disturbs <;> cases h
  | cutShort cut => obtain h | h := cut <;> cases h
  | @slotStarted now e n payload label =>
    have trunk := startCyclicSlot_trunk e.start label (now.at e.start) (s.atInstant (now.at e.start))
    have clock : (startCyclicSlot e.start label (now.at e.start) (s.atInstant (now.at e.start))).trunk.lineClock
        = now.at e.start := by rw [trunk]; rfl
    refine State.ext_units ?_ (by simp) (by simp) (by simp) (by simp) (by simp) (by simp) ?_ (by simp)
    · rw [setAttn_trunk, clock]
      exact trunk
    · simp [State.setAttn]

theorem Effect.slotEnded_inv {c : Instr} {start : Nat} (e : Effect s c u)
    (ends : c = .cyclicSlotEnd start ∨ c = .channelLost start) :
    ∃ start' number d, u = handSlotEnd number d (releaseSlot start' (s.atInstant d.instant)) := by
  cases e with
  | slotEnded => exact ⟨_, _, _, rfl⟩
  | _ =>
    exfalso
    obtain h | h := ends <;> simp_all [cycleStartCommands, requestCode]

/-- R11: a slot end. -/
theorem Effect.slotEnd {c : Instr} {start : Nat} (ends : c = .cyclicSlotEnd start ∨ c = .channelLost start)
    (e : Effect s c u) :
    u.setAttn = { s with
      trunk := { s.trunk.reach u.trunk.lineClock with
        slots := u.trunk.slots, late := u.trunk.late, wrongSlot := u.trunk.wrongSlot },
      channels := u.channels, notices := u.notices, link := { s.link with attn := u.setAttn.link.attn } } := by
  obtain ⟨start', number, d, rfl⟩ := e.slotEnded_inv ends
  obtain ⟨trunk, cycle, sched, tx, rx, link, pending, -⟩ :=
    channelSlotEnd_only number d.owner d.label d.payload d.frame (releaseSlot start' (s.atInstant d.instant))
  rw [releaseSlot_trunk] at trunk
  refine State.ext_units ?_ (by simp [handSlotEnd, cycle]) (by simp [handSlotEnd, sched]) rfl
    (by simp [handSlotEnd, tx]) (by simp [handSlotEnd, rx]) rfl (by simp [handSlotEnd, link, State.setAttn])
    (by simp [handSlotEnd, pending])
  rw [setAttn_trunk, handSlotEnd, trunk]
  rfl

/-- R12: the opening of an OPEN slot's window. -/
theorem Effect.windowOpening {slot : OpenSlotWindow} (e : Effect s (.openSlotWindowOpens slot) u) :
    u.setAttn = { s with
      trunk := { s.trunk with
        lineClock := u.trunk.lineClock, segment := u.trunk.segment, txen := u.trunk.txen, ownSlots := u.trunk.ownSlots },
      tx := { s.tx with queue := u.tx.queue, onLine := u.tx.onLine },
      link := { s.link with attn := u.setAttn.link.attn } } := by
  cases e with
  | handled request => cases request
  | wrongLength request => cases request
  | cycleBegun begins => simp [cycleStartCommands] at begins
  | frameHeard received => obtain h | h := received <;> cases h
  | windowClosed closes => simp at closes
  | slotEnded ends => obtain h | h := ends <;> cases h
  | segmentDisturbed disturbs => obtain h | h := disturbs <;> cases h
  | cutShort cut => obtain h | h := cut <;> cases h
  | @windowOpened now e floor line =>
    have trunk := openWindow_trunk e.start floor (wayToContend line (now.at e.start)) s
    have tx := openWindow_tx e.start floor (wayToContend line (now.at e.start)) s
    refine State.ext_units ?_ (by simp) (by simp) (by simp) ?_ (by simp) (by simp) (by simp [State.setAttn]) (by simp)
    · rw [setAttn_trunk, State.atInstant, trunk]
      rfl
    · exact tx

/-- R14: what handing an outcome leaves as it was. -/
theorem Effect.outcome {c : Instr} (e : Effect s c u)
    (outcomes : c ∈ [Instr.segmentWon, .segmentLost, .segmentDisturbed, .messageTrunkFault]) :
    u.setAttn = { s with
      trunk := u.trunk, tx := { u.tx with idCounter := s.tx.idCounter }, notices := u.notices,
      link := { s.link with attn := u.setAttn.link.attn } } := by
  have handed : u.cycle = s.cycle ∧ u.sched = s.sched ∧ u.channels = s.channels ∧ u.rx = s.rx ∧ u.link = s.link ∧
      u.pending = s.pending ∧ u.tx.idCounter = s.tx.idCounter := by
    cases e with
    | segmentWon | segmentLost | segmentDisturbed => simp
    | _ =>
      exfalso
      simp only [List.mem_cons, List.not_mem_nil, or_false] at outcomes
      obtain h | h | h | h := outcomes <;> simp_all [cycleStartCommands, requestCode]
  obtain ⟨cycle, sched, channels, rx, link, pending, id⟩ := handed
  exact State.ext_units rfl cycle sched channels (by rw [← id]; rfl) rx rfl (by simp [State.setAttn, link]) pending

/-- R4: what the end of an own cycle start or cyclic frame leaves as it was. -/
theorem Effect.ownFrameEnd {c : Instr} (e : Effect s c u) (ends : c ∈ [Instr.ownFrameSent, .ownFrameMismatch]) :
    u.setAttn = { s with trunk := u.trunk, link := { s.link with attn := u.setAttn.link.attn } } := by
  have only : InterfaceOnly s u := by
    cases e with
    | ownFrameMismatch | ownFrameSent => simp
    | _ =>
      exfalso
      simp only [List.mem_cons, List.not_mem_nil, or_false] at ends
      obtain h | h := ends <;> simp_all [cycleStartCommands, requestCode]
  obtain ⟨cycle, sched, channels, tx, rx, notices, link, pending⟩ := only
  exact State.ext_units rfl cycle sched channels tx rx notices (by simp [State.setAttn, link]) pending

end

/-- Settles O23. -/
theorem eventsKeepOtherUnits : Obligations.EventsKeepOtherUnits := by
  intro c s t runs
  obtain rfl | ⟨u, e, rfl⟩ := effect_of_exec runs
  · exact ⟨fun _ => rfl, fun _ => ⟨rfl, rfl, rfl, rfl, rfl⟩, fun _ _ => .inl rfl, fun _ _ => .inl rfl, fun _ _ => rfl,
      fun _ => rfl, fun _ => rfl⟩
  · refine ⟨fun link => ?_, fun trunk => ?_, fun start h => ?_, fun start h => .inr (e.slotEnd h), fun slot h => ?_,
      e.outcome, e.ownFrameEnd⟩
    · obtain ⟨trunk, cycle, sched, channels, tx, rx, pending, straps, -⟩ := e.linkEvent link
      exact State.ext_units trunk cycle sched channels tx rx rfl (by rw [← straps]; rfl) pending
    · obtain ⟨link, -, id, groups, -, -, -, disabled, delivered⟩ := e.hostSideKept trunk
      exact ⟨by simp [State.setAttn, link], disabled, delivered, id, groups⟩
    · subst h
      exact .inr e.slotStart
    · subst h
      exact e.windowOpening

end Sys2Proof.Machine
end

section
/-! PROOFS. The trunk interface under every command: TXEN, the frames of the node's own, and the walk. Settles O12 and O18. -/

namespace Sys2Proof.Machine

set_option Elab.async false

/-! ### A sound interface -/

section
variable {i j : TrunkInterface}

/-- R4, R16: soundness speaks of TXEN, the frames of the node's own and the change that waits alone. -/
theorem TrunkInterface.sound.congr (h : i.sound) (txen : j.txen = i.txen) (sending : j.sending = i.sending)
    (segment : j.segment = i.segment) (deferred : j.deferred = i.deferred) : j.sound := by
  unfold TrunkInterface.sound TrunkInterface.busy at h ⊢
  rwa [txen, sending, segment, deferred]

theorem TrunkInterface.reset_sound : TrunkInterface.reset.sound := ⟨rfl, nofun⟩

theorem TrunkInterface.endWalk_busy (i : TrunkInterface) : i.endWalk.busy = i.busy := by
  unfold TrunkInterface.busy TrunkInterface.endWalk
  cases i.segment with
  | none => rfl
  | some g => cases h : g.sent <;> simp [Option.filter, h]

theorem TrunkInterface.sound.endWalk (h : i.sound) : i.endWalk.sound := by
  obtain ⟨txen, deferred⟩ := h
  refine ⟨?_, ?_⟩
  · rw [i.endWalk_busy]
    exact txen
  · rw [i.endWalk_busy]
    exact deferred

/-- R4, R16: what follows the end of a frame is sound if TXEN is asserted for the frame that goes on. -/
theorem TrunkInterface.follow_sound (txen : i.busy = true → i.txen = true) : i.follow.sound := by
  obtain ⟨busy, h⟩ | ⟨-, -, h⟩ | ⟨busy, -, h⟩ := i.follow_cases
  · rw [h]
    exact ⟨by rw [txen busy, busy], fun _ => busy⟩
  · rw [h]
    exact TrunkInterface.reset_sound
  · rw [h]
    exact ⟨busy.symm, nofun⟩

/-- R4: the end of an own cycle start or cyclic frame. -/
theorem TrunkInterface.sound.frameEnds (h : i.sound) : { i with sending := none }.follow.sound := by
  refine TrunkInterface.follow_sound fun busy => ?_
  rw [show ({ i with sending := none } : TrunkInterface).txen = i.txen from rfl, h.1]
  have : i.segment.any OwnSegment.sent = true := busy
  simp [TrunkInterface.busy, this]

/-- R14: the end of a segment frame. -/
theorem TrunkInterface.sound.segmentEnds (h : i.sound) : { i with segment := none }.follow.sound := by
  refine TrunkInterface.follow_sound fun busy => ?_
  rw [show ({ i with segment := none } : TrunkInterface).txen = i.txen from rfl, h.1]
  have : i.sending.isSome = true := by simpa [TrunkInterface.busy] using busy
  simp [TrunkInterface.busy, this]

theorem TrunkInterface.begun_sound (i : TrunkInterface) (f : OwnFrame) : { i with sending := some f, txen := true }.sound :=
  ⟨rfl, fun _ => rfl⟩

/-- R12: a segment that is given, and not begun. -/
theorem TrunkInterface.sound.given (h : i.sound) (idle : i.segment = none) {g : OwnSegment} (unsent : g.sent = false)
    (own : List OwnSlot) : { i with segment := some g, ownSlots := own }.sound := by
  unfold TrunkInterface.sound TrunkInterface.busy at h ⊢
  simpa [idle, unsent] using h

theorem nodeResetTrunk_sound (h : i.sound) : (nodeResetTrunk i).sound := by
  unfold nodeResetTrunk
  split
  · next busy =>
    exact ⟨h.endWalk.1, fun _ => by rw [← i.endWalk_busy] at busy; exact busy⟩
  · exact TrunkInterface.reset_sound

/-! ### An interface that walks nothing -/

theorem TrunkInterface.endWalk_walksNothing (i : TrunkInterface) : i.endWalk.walksNothing := by
  refine ⟨rfl, rfl, rfl, rfl, rfl, fun g hg => ?_⟩
  cases segment : i.segment with
  | none => simp [TrunkInterface.endWalk, segment] at hg
  | some g' =>
    simp only [TrunkInterface.endWalk, segment, Option.filter] at hg
    split at hg
    · next sent =>
      simp only [Option.toList_some, List.mem_singleton] at hg
      rwa [hg]
    · simp at hg

theorem TrunkInterface.reset_walksNothing : TrunkInterface.reset.walksNothing := ⟨rfl, rfl, rfl, rfl, rfl, nofun⟩

theorem nodeResetTrunk_walksNothing (i : TrunkInterface) : (nodeResetTrunk i).walksNothing := by
  unfold nodeResetTrunk
  split
  · exact i.endWalk_walksNothing
  · exact TrunkInterface.reset_walksNothing

theorem TrunkInterface.walksNothing.congr (h : i.walksNothing) (window : j.window = i.window) (slots : j.slots = i.slots)
    (ownSlots : j.ownSlots = i.ownSlots) (late : j.late = i.late) (earlyWalk : j.earlyWalk = i.earlyWalk)
    (segment : j.segment = i.segment) : j.walksNothing := by
  unfold TrunkInterface.walksNothing at h ⊢
  rwa [window, slots, ownSlots, late, earlyWalk, segment]

/-- R12: with no segment that waits, the line clock moves alone. -/
theorem TrunkInterface.walksNothing.reach (h : i.walksNothing) (t : Word) : (i.reach t).walksNothing := by
  obtain moved | ⟨g, since, segment, waits, -⟩ := i.reach_cases t
  · rw [moved]
    exact h
  · have sent := h.2.2.2.2.2 g (by simp [segment])
    simp [OwnSegment.sent, waits] at sent

theorem TrunkInterface.walksNothing.withoutSegment (h : i.walksNothing) : { i with segment := none }.walksNothing := by
  obtain ⟨window, slots, own, late, early, -⟩ := h
  exact ⟨window, slots, own, late, early, nofun⟩

theorem TrunkInterface.walksNothing.follow (h : i.walksNothing) : i.follow.walksNothing := by
  obtain ⟨-, eq⟩ | ⟨-, -, eq⟩ | ⟨-, -, eq⟩ := i.follow_cases
  · rwa [eq]
  · rw [eq]
    exact TrunkInterface.reset_walksNothing
  · rw [eq]
    exact h

end

/-! ### What becomes of the frames of the node's own -/

/-- R12: the frame and the segment in progress are those of before, the segment perhaps begun since, or have ended. -/
structure TrunkInterface.GoesOn (i j : TrunkInterface) : Prop where
  sending : j.sending = i.sending ∨ j.sending = none
  segment : ∀ own, j.segment = some own → ∃ given, i.segment = some given ∧
    (own = given ∨ ∃ since, given.way = .waits since ∧ own = { given with way := .sends since })

section
variable {i j k : TrunkInterface}

theorem TrunkInterface.GoesOn.of_eq (sending : j.sending = i.sending) (segment : j.segment = i.segment) : i.GoesOn j :=
  ⟨.inl sending, fun own h => ⟨own, segment ▸ h, .inl rfl⟩⟩

theorem TrunkInterface.GoesOn.of_none (sending : j.sending = none) (segment : j.segment = none) : i.GoesOn j :=
  ⟨.inr sending, fun own h => by rw [segment] at h; cases h⟩

theorem TrunkInterface.GoesOn.trans (h : i.GoesOn j) (h' : j.GoesOn k) : i.GoesOn k := by
  refine ⟨?_, fun own hown => ?_⟩
  · obtain eq | none := h'.sending
    · rw [eq]
      exact h.sending
    · exact .inr none
  · obtain ⟨mid, hmid, rfl | ⟨since, waits, rfl⟩⟩ := h'.segment own hown
    · exact h.segment own hmid
    · obtain ⟨given, hgiven, rfl | ⟨since', -, rfl⟩⟩ := h.segment mid hmid
      · exact ⟨_, hgiven, .inr ⟨since, waits, rfl⟩⟩
      · cases waits

theorem TrunkInterface.GoesOn.reach (i : TrunkInterface) (t : Word) : i.GoesOn (i.reach t) := by
  obtain moved | ⟨g, since, segment, waits, -, begun⟩ := i.reach_cases t
  · rw [moved]
    exact .of_eq rfl rfl
  · rw [begun]
    refine ⟨.inl rfl, fun own h => ⟨g, segment, .inr ⟨since, waits, ?_⟩⟩⟩
    cases h
    rfl

theorem TrunkInterface.GoesOn.endWalk (i : TrunkInterface) : i.GoesOn i.endWalk := by
  refine ⟨.inl rfl, fun own h => ⟨own, ?_, .inl rfl⟩⟩
  simp only [TrunkInterface.endWalk, Option.filter_eq_some_iff] at h
  exact h.1

theorem TrunkInterface.GoesOn.follow (i : TrunkInterface) : i.GoesOn i.follow := by
  obtain ⟨-, eq⟩ | ⟨-, -, eq⟩ | ⟨-, -, eq⟩ := i.follow_cases
  · rw [eq]
    exact .of_eq rfl rfl
  · rw [eq]
    exact .of_none rfl rfl
  · rw [eq]
    exact .of_eq rfl rfl

theorem TrunkInterface.GoesOn.frameEnds (i : TrunkInterface) : i.GoesOn { i with sending := none }.follow :=
  TrunkInterface.GoesOn.trans (j := { i with sending := none }) ⟨.inr rfl, fun own h => ⟨own, h, .inl rfl⟩⟩ (.follow _)

theorem TrunkInterface.GoesOn.segmentEnds (i : TrunkInterface) : i.GoesOn { i with segment := none }.follow :=
  TrunkInterface.GoesOn.trans (j := { i with segment := none }) ⟨.inl rfl, fun _ h => by cases h⟩ (.follow _)

theorem nodeResetTrunk_goesOn (i : TrunkInterface) : i.GoesOn (nodeResetTrunk i) := by
  unfold nodeResetTrunk
  split
  · exact TrunkInterface.GoesOn.trans (.endWalk i) (.of_eq rfl rfl)
  · exact .of_none rfl rfl

end

/-! ### The interface after each operation -/

/-- R6, R7: the interface as it takes up the cycle with these values. -/
abbrev TrunkInterface.takesUp (i : TrunkInterface) (origin : Word) (window : Window) : TrunkInterface :=
  { i.reach origin with window := window, slots := [], ownSlots := [], earlyWalk := [], hearsFrom := none }

section
variable {s v u : State}

/-- R27: a cycle start takes up the cycle; a leading node then begins its frame. -/
theorem beginCycle_trunk (now : CycleNow) (s : State) :
    ∃ window, (s.cycle.timing ≠ .leading ∧ (beginCycle now s).trunk = s.trunk.takesUp now.origin window) ∨
      (s.cycle.timing = .leading ∧ ∃ (f : CycleStartFrame) (since : Word), f.source = s.cycle.address ∧
        (beginCycle now s).trunk =
          { s.trunk.takesUp now.origin window with sending := some { bytes := f.bytes, since := since }, txen := true }) := by
  let opened := (s.withCycle { s.cycle with now := some now }).atInstant now.origin
  let begun := signalCycleStart now.number (advanceQuiet (takeUpCycle opened))
  have trunk : begun.trunk = s.trunk.takesUp now.origin (windowOpened opened) := by
    simp only [begun, signalCycleStart_only, advanceQuiet_only, takeUpCycle_only]
    rfl
  have timing : begun.cycle.timing = s.cycle.timing := by simp [begun, opened]
  have address : begun.cycle.address = s.cycle.address := by simp [begun, opened]
  refine ⟨windowOpened opened, ?_⟩
  show _ ∨ _ ∧ ∃ f since, _ ∧ (sendCycleStart begun).trunk = _
  by_cases leading : s.cycle.timing = .leading
  · have now' : ∃ c, begun.cycle.now = some c := by simp [begun, opened, signalCycleStart_cycle, leading]
    obtain ⟨c, now'⟩ := now'
    refine .inr ⟨leading, leadingFrame begun c, c.origin, address, ?_⟩
    simp [sendCycleStart, timing, leading, now', beginFrame, trunk]
  · refine .inl ⟨leading, ?_⟩
    show (sendCycleStart begun).trunk = _
    unfold sendCycleStart
    split
    · next leads _ => exact absurd (timing.symm.trans leads) leading
    · exact trunk

theorem Interim.sending_eq (i : Interim s v) : v.trunk.sending = s.trunk.sending := by rw [i.same]
theorem Interim.segment_eq (i : Interim s v) : v.trunk.segment = s.trunk.segment := by rw [i.same]
theorem Interim.txen_eq (i : Interim s v) : v.trunk.txen = s.trunk.txen := by rw [i.same]
theorem Interim.deferred_eq (i : Interim s v) : v.trunk.deferred = s.trunk.deferred := by rw [i.same]

theorem Interim.trunkSound (i : Interim s v) (h : s.trunk.sound) : v.trunk.sound :=
  h.congr i.txen_eq i.sending_eq i.segment_eq i.deferred_eq

theorem Interim.walksNothing (i : Interim s v) (h : s.trunk.walksNothing)
    (placeless : s.cycle.timing.synchronised = false) : v.trunk.walksNothing := by
  obtain ⟨window, slots, late⟩ := i.walk placeless
  exact h.congr window slots (by rw [i.same]) late (by rw [i.same]) i.segment_eq

/-- R32: a missed cycle start ends the walk, or leaves the interface as it was. -/
theorem Missed.trunk {c : CycleNow} (m : Missed c s u) :
    (u.cycle.timing.synchronised = true ∧ u.trunk = s.trunk) ∨ u.trunk = s.trunk.endWalk := by
  cases m with
  | counted => exact .inl ⟨rfl, rfl⟩
  | lost => exact .inr (by simp)
  | tookOver => exact .inl ⟨by simp [CycleUnit.leads, Timing.synchronised], by simp⟩

/-- R8 to R35: what a received frame leaves of the interface, once the interface has done its own part. -/
theorem Heard.trunk {stamp : Word} (e : Heard stamp s u) : ∃ v, Interim s v ∧
    ((u.trunk = v.trunk ∧ u.cycle.timing = s.cycle.timing) ∨
      (u.cycle.timing.synchronised = true ∧ ∃ early, u.trunk = { v.trunk with earlyWalk := early }) ∨
      u.trunk = v.trunk.endWalk) := by
  cases e with
  | noted i => exact ⟨u, i, .inl ⟨rfl, by rw [i.cycle_eq]⟩⟩
  | @segment v c f i => exact ⟨v, i, .inl ⟨by simp, by simp [i.cycle_eq]⟩⟩
  | @missed v w c i _ _ m =>
    obtain ⟨synchronised, same⟩ | ended := m.trunk
    · exact ⟨v, i, .inr (.inl ⟨synchronised, _, same⟩)⟩
    · exact ⟨v, i, .inr (.inr ended)⟩
  | @accepted v c f i =>
    exact ⟨v, i, .inr (.inl ⟨by simp [acceptFrame, CycleUnit.accepts, Timing.synchronised],
      judgedBefore v.sched.active.entries c stamp, by simp [acceptFrame]⟩)⟩
  | @jumped v _ f i => exact ⟨v, i, .inr (.inr (by simp [jump]))⟩
  | @yielded v f i => exact ⟨v, i, .inr (.inr (by simp [yieldTo]))⟩
  | @claimed v f i => exact ⟨v, i, .inl ⟨rfl, by simp [i.cycle_eq]⟩⟩
  | @conflicted v f i => exact ⟨v, i, .inl ⟨by simp, by simp [i.cycle_eq]⟩⟩
  | @candidate v r i => exact ⟨v, i, .inl ⟨rfl, by simp [i.cycle_eq]⟩⟩
  | @locked v r f i => exact ⟨v, i, .inr (.inr (by simp [lockOn, endWalk]))⟩

theorem Heard.trunkSound {stamp : Word} (e : Heard stamp s u) (h : s.trunkSound) : u.trunkSound := by
  obtain ⟨sound, walks⟩ := h
  obtain ⟨v, i, ⟨same, timing⟩ | ⟨synchronised, early, trunk⟩ | ended⟩ := e.trunk
  · rw [State.trunkSound, same, timing]
    exact ⟨i.trunkSound sound, fun placeless => i.walksNothing (walks placeless) placeless⟩
  · rw [State.trunkSound, trunk]
    exact ⟨i.trunkSound sound, fun placeless => by rw [synchronised] at placeless; cases placeless⟩
  · rw [State.trunkSound, ended]
    exact ⟨(i.trunkSound sound).endWalk, fun _ => TrunkInterface.endWalk_walksNothing _⟩

theorem Heard.goesOn {stamp : Word} (e : Heard stamp s u) : s.trunk.GoesOn u.trunk := by
  obtain ⟨v, i, ⟨same, -⟩ | ⟨-, early, trunk⟩ | ended⟩ := e.trunk
  · rw [same]
    exact .of_eq i.sending_eq i.segment_eq
  · rw [trunk]
    exact .of_eq i.sending_eq i.segment_eq
  · rw [ended]
    exact TrunkInterface.GoesOn.trans (.of_eq i.sending_eq i.segment_eq) (.endWalk _)

/-- What a request leaves of the interface. -/
theorem handler_trunk {c : Instr} {run : Handler} (handler : requestHandler c = some run) (body : List Byte) (s : State) :
    ((run body s).2.cycle.timing = s.cycle.timing ∧ ((run body s).2.trunk = s.trunk ∨
      (run body s).2.trunk =
        { s.trunk with crcErrors := 0, malformed := 0, wrongSlot := 0, stray := 0, disturbed := 0 })) ∨
    (s.cycle.timing = .offline ∧ (run body s).2.trunk =
      { s.trunk with hearsFrom := (run body s).2.trunk.hearsFrom }) ∨
    (run body s).2.trunk = (deferOffline s).trunk.endWalk ∨ (run body s).2.trunk = nodeResetTrunk s.trunk := by
  cases c <;> cases handler
  case setNode => exact .inl ⟨(setNodeRequest_timing body s).1, .inl (setNodeRequest_only body s).1⟩
  case setCycle => exact .inl ⟨(setCycleRequest_identity body s).1, .inl (setCycleRequest_only body s).1⟩
  case goOnline =>
    unfold goOnlineRequest
    split
    · exact .inl ⟨rfl, .inl rfl⟩
    · next refused =>
      simp only [Bool.or_eq_true, not_or, State.online_iff, ne_eq, not_not] at refused
      exact .inr (.inl ⟨refused.1, rfl⟩)
  case goOffline =>
    unfold goOfflineRequest
    dsimp only
    split
    · exact .inr (.inr (.inl (by rw [(depart_only _ _ _ _).1])))
    · exact .inl ⟨rfl, .inl rfl⟩
  case resetNode => exact .inr (.inr (.inr rfl))
  case readCounts =>
    obtain h | h := readCountsRequest_cases body s
    · exact .inl ⟨by rw [h], .inl (by rw [h])⟩
    · exact .inl ⟨by rw [h]; rfl, .inr (by rw [h]; rfl)⟩
  case stageBegin => exact .inl ⟨by rw [(stageBeginRequest_only body s).2.1], .inl (stageBeginRequest_only body s).1⟩
  case stageAdd => exact .inl ⟨by rw [(stageAddRequest_only body s).2.1], .inl (stageAddRequest_only body s).1⟩
  case stageRemove => exact .inl ⟨by rw [(stageRemoveRequest_only body s).2.1], .inl (stageRemoveRequest_only body s).1⟩
  case stageClose => exact .inl ⟨by rw [(stageCloseRequest_only body s).2.1], .inl (stageCloseRequest_only body s).1⟩
  case stageDiscard =>
    exact .inl ⟨by rw [(stageDiscardRequest_only body s).2.1], .inl (stageDiscardRequest_only body s).1⟩
  all_goals exact .inl ⟨by simp, .inl (by simp)⟩

theorem deferOffline_sound (h : s.trunk.sound) : (deferOffline s).trunk.sound := by
  obtain ⟨eq, -⟩ | ⟨busy, -, eq⟩ := deferOffline_cases s
  · rwa [eq]
  · rw [eq]
    exact ⟨h.1, fun _ => busy⟩

theorem deferOffline_goesOn (s : State) : s.trunk.GoesOn (deferOffline s).trunk := by
  obtain ⟨eq, -⟩ | ⟨-, -, eq⟩ := deferOffline_cases s <;> rw [eq] <;> exact .of_eq rfl rfl

theorem handler_trunkSound {c : Instr} {run : Handler} (handler : requestHandler c = some run) (body : List Byte)
    (h : s.trunkSound) : (run body s).2.trunkSound := by
  obtain ⟨sound, walks⟩ := h
  obtain ⟨timing, trunk | trunk⟩ | ⟨offline, trunk⟩ | ended | reset := handler_trunk handler body s
  · rw [State.trunkSound, timing, trunk]
    exact ⟨sound, walks⟩
  · rw [State.trunkSound, timing, trunk]
    exact ⟨sound, walks⟩
  · rw [State.trunkSound, trunk]
    exact ⟨sound, fun _ => walks (by simp [offline, Timing.synchronised])⟩
  · rw [State.trunkSound, ended]
    exact ⟨(deferOffline_sound sound).endWalk, fun _ => TrunkInterface.endWalk_walksNothing _⟩
  · rw [State.trunkSound, reset]
    exact ⟨nodeResetTrunk_sound sound, fun _ => nodeResetTrunk_walksNothing _⟩

theorem handler_goesOn {c : Instr} {run : Handler} (handler : requestHandler c = some run) (body : List Byte)
    (s : State) : s.trunk.GoesOn (run body s).2.trunk := by
  obtain ⟨-, trunk | trunk⟩ | ⟨-, trunk⟩ | ended | reset := handler_trunk handler body s
  · rw [trunk]
    exact .of_eq rfl rfl
  · rw [trunk]
    exact .of_eq rfl rfl
  · rw [trunk]
    exact .of_eq rfl rfl
  · rw [ended]
    exact (deferOffline_goesOn s).trans (.endWalk _)
  · rw [reset]
    exact nodeResetTrunk_goesOn _

/-! ### Slots and frames of the node's own -/

theorem startCyclicSlot_cases (start : Nat) (label : Byte) (since : Word) (s : State) :
    startCyclicSlot start label since s = s ∨ (s.maySendCyclic = true ∧ ∃ a, startCyclicSlot start label since s =
      sendCyclic start { bytes := (ownCyclic s.cycle.address label a).bytes, since := since } s) := by
  unfold startCyclicSlot
  split
  · next may =>
    split
    · next a _ => exact .inr ⟨may, a, rfl⟩
    · exact .inl rfl
  · exact .inl rfl

theorem wayToContend_unsent (line : OpenLine) (start : Word) (bytes : List Byte) (n : Nat) :
    ({ bytes := bytes, start := n, way := wayToContend line start } : OwnSegment).sent = false := by
  obtain ⟨k, -, h⟩ | h | h := wayToContend_cases line start <;> simp [OwnSegment.sent, h]

/-- R12: a window that opens gives the interface no segment, or the candidate's, not begun. -/
theorem openWindow_segment (start floor : Nat) (line : OpenLine) (at' : Word) (s : State) :
    (openWindow start floor (wayToContend line at') s).trunk = s.trunk ∨
    ∃ f o own, candidate s.tx.queue s.maySendSegment floor s.cycle.address = some (f, o) ∧
      (openWindow start floor (wayToContend line at') s).trunk = { s.trunk with
        segment := some { bytes := f.bytes, start := start, way := wayToContend line at' }, ownSlots := own } := by
  have offered (o : OnLine) : (offerFirst o s).trunk = s.trunk := by unfold offerFirst; split <;> rfl
  obtain ⟨-, h⟩ | ⟨f, o, given, h⟩ := openWindow_cases start floor (wayToContend line at') s
  · exact .inl (by rw [h])
  · refine .inr ⟨f, o, ?_⟩
    obtain ⟨since, -, contends⟩ | ⟨-, contends⟩ :=
      contend_cases { bytes := f.bytes, start := start, way := wayToContend line at' } (offerFirst o s)
    · exact ⟨_, given, by rw [h, contends, offered]⟩
    · exact ⟨s.trunk.ownSlots, given, by rw [h, contends, offered]⟩

theorem segmentOutcome_trunk (result : SegmentOutcome) (s : State) :
    (segmentOutcome result s).trunk = { s.trunk with segment := none }.follow := by
  simp [segmentOutcome, endSegment]

theorem countDisturbed_trunk (s : State) :
    (countDisturbed s).trunk = { s.trunk with disturbed := (countDisturbed s).trunk.disturbed } := by
  unfold countDisturbed
  split <;> rfl

theorem yieldSlot_trunk (g : OwnSegment) (s : State) :
    (∃ own : List OwnSlot → List OwnSlot, own [] = [] ∧
      (yieldSlot g s).trunk = { s.trunk with ownSlots := own s.trunk.ownSlots }) ∨
    ∃ t, (yieldSlot g s).trunk = s.trunk.reach t := by
  obtain ⟨since, -, h⟩ | ⟨t, -, h⟩ := yieldSlot_cases g s
  · exact .inl ⟨List.filter (· != { start := g.start, since := since }), rfl, by rw [h]⟩
  · exact .inr ⟨t, by rw [h]; rfl⟩

theorem segmentBegun_trunk (s : State) : s.segmentBegun.trunk = s.trunk ∨ ∃ t, s.segmentBegun.trunk = s.trunk.reach t := by
  obtain h | ⟨g, since, -, -, h⟩ := segmentBegun_cases s
  · exact .inl (by rw [h])
  · exact .inr ⟨since, by rw [h]; rfl⟩

/-! ### Sound under every command -/

/-- The interface beside a timing state that is as it was. -/
theorem State.trunkSound.keepsTiming (h : s.trunkSound) (timing : u.cycle.timing = s.cycle.timing)
    (sound : s.trunk.sound → u.trunk.sound) (walks : s.trunk.walksNothing → u.trunk.walksNothing) : u.trunkSound := by
  refine ⟨sound h.1, fun placeless => walks (h.2 ?_)⟩
  rwa [← timing]

theorem State.trunkSound.of_synchronised (synchronised : u.cycle.timing.synchronised = true) (sound : u.trunk.sound) :
    u.trunkSound :=
  ⟨sound, fun placeless => by rw [synchronised] at placeless; cases placeless⟩

theorem State.trunkSound.atInstant (h : s.trunkSound) (t : Word) : (s.atInstant t).trunkSound :=
  h.keepsTiming rfl (fun sound => TrunkInterface.reach_sound sound t) (fun walks => walks.reach t)

theorem State.trunkSound.countDisturbed (h : s.trunkSound) : (countDisturbed s).trunkSound := by
  refine h.keepsTiming (by simp) (fun sound => ?_) (fun walks => ?_)
  · rw [countDisturbed_trunk]
    exact sound
  · rw [countDisturbed_trunk]
    exact walks

theorem State.trunkSound.segmentBegun (h : s.trunkSound) : s.segmentBegun.trunkSound := by
  obtain eq | ⟨g, since, -, -, eq⟩ := segmentBegun_cases s
  · rwa [eq]
  · rw [eq]
    exact h.atInstant since

theorem State.trunkSound.yieldSlot (h : s.trunkSound) (g : OwnSegment) : (yieldSlot g s).trunkSound := by
  obtain ⟨own, none, eq⟩ | ⟨t, eq⟩ := yieldSlot_trunk g s
  · refine h.keepsTiming (by simp) (fun sound => ?_) (fun walks => ?_)
    · rw [eq]
      exact sound
    · rw [eq, walks.2.2.1, none]
      obtain ⟨window, slots, -, rest⟩ := walks
      exact ⟨window, slots, rfl, rest⟩
  · exact (h.atInstant t).keepsTiming (by simp) (fun sound => by rw [eq]; exact sound)
      (fun walks => by rw [eq]; exact walks)

theorem State.trunkSound.segmentOutcome (h : s.trunkSound) (result : SegmentOutcome) :
    (segmentOutcome result s).trunkSound :=
  h.keepsTiming (by simp) (fun sound => by rw [segmentOutcome_trunk]; exact sound.segmentEnds)
    (fun walks => by rw [segmentOutcome_trunk]; exact walks.withoutSegment.follow)

theorem State.trunkSound.endFrame (h : s.trunkSound) : (endFrame s).trunkSound :=
  h.keepsTiming (by simp) (fun sound => sound.frameEnds) (fun walks =>
    TrunkInterface.walksNothing.follow (i := { s.trunk with sending := none }) walks)

/-- R7, R23: a cycle start of a synchronised node, or of one that leads. -/
theorem beginCycle_trunkSound (now : CycleNow) (h : s.trunk.sound) (synchronised : s.cycle.timing.synchronised = true) :
    (beginCycle now s).trunkSound := by
  refine .of_synchronised (by rwa [beginCycle_timing]) ?_
  obtain ⟨window, ⟨-, eq⟩ | ⟨-, f, since, -, eq⟩⟩ := beginCycle_trunk now s
  · rw [eq]
    exact TrunkInterface.reach_sound h now.origin
  · rw [eq]
    exact TrunkInterface.begun_sound _ _

theorem current_synchronised {now : CycleNow} (h : s.current = some now) : s.cycle.timing.synchronised = true :=
  (State.current_some.1 h).1

theorem pendingWindow_following {now : CycleNow} (h : s.pendingWindow = some now) :
    s.cycle.timing.following = true ∧ s.cycle.now = some now := by
  unfold State.pendingWindow at h
  split at h
  · next open' =>
    simp only [Bool.and_eq_true] at open'
    exact ⟨open'.1, h⟩
  · cases h

theorem Effect.trunkSound {c : Instr} (e : Effect s c u) (h : s.trunkSound) : u.trunkSound := by
  cases e with
  | handled _ handler => exact handler_trunkSound (s := s) handler _ h
  | poweredOn => exact ⟨TrunkInterface.reset_sound, fun _ => TrunkInterface.reset_walksNothing⟩
  | claimed => exact beginCycle_trunkSound _ (by simpa using h.1) (by simp [CycleUnit.leads, Timing.synchronised])
  | cycleBegun _ current => exact beginCycle_trunkSound _ h.1 (current_synchronised current)
  | frameHeard => exact (handFrame_heard _ _ (heard (s.atInstant _))).trunkSound (h.atInstant _)
  | windowClosed _ pending =>
    obtain ⟨synchronised, same⟩ | ended := (missCycleStart_missed _ (settleWindow (s.atInstant _))).trunk
    · exact .of_synchronised synchronised (by
        rw [windowAbsent, same]
        exact TrunkInterface.reach_sound h.1 _)
    · refine ⟨?_, fun _ => ?_⟩
      · rw [windowAbsent, ended]
        exact TrunkInterface.sound.endWalk (TrunkInterface.reach_sound h.1 _)
      · rw [windowAbsent, ended]
        exact TrunkInterface.endWalk_walksNothing _
  | @slotStarted now e n payload label current =>
    refine .of_synchronised (by simpa using current_synchronised current) ?_
    obtain eq | ⟨-, a, eq⟩ := startCyclicSlot_cases e.start label (now.at e.start) (s.atInstant (now.at e.start))
    · rw [eq]
      exact TrunkInterface.reach_sound h.1 _
    · rw [eq]
      exact TrunkInterface.begun_sound _ _
  | @slotEnded _ start now d _ current =>
    obtain ⟨trunk, cycle, -⟩ :=
      channelSlotEnd_only now.number d.owner d.label d.payload d.frame (releaseSlot start (s.atInstant d.instant))
    refine .of_synchronised (by rw [handSlotEnd, cycle]; simpa using current_synchronised current) ?_
    rw [handSlotEnd, trunk, releaseSlot_trunk]
    exact TrunkInterface.reach_sound h.1 _
  | @windowOpened now e floor line current _ _ idle =>
    refine .of_synchronised (by simpa using current_synchronised current) (TrunkInterface.reach_sound ?_ _)
    obtain eq | ⟨f, o, own, -, eq⟩ := openWindow_segment e.start floor line (now.at e.start) s
    · rw [eq]
      exact h.1
    · rw [eq]
      exact h.1.given idle (wayToContend_unsent _ _ _ _) _
  | segmentWon => exact (h.atInstant _).segmentOutcome _
  | segmentLost => exact (h.segmentBegun.yieldSlot _).segmentOutcome _
  | segmentDisturbed => exact h.segmentBegun.countDisturbed.segmentOutcome _
  | ownFrameMismatch => exact h.countDisturbed.endFrame
  | ownFrameSent => exact (h.atInstant _).endFrame
  | _ => exact h.keepsTiming (by simp) (fun sound => by simpa using sound) (fun walks => by simpa using walks)

end

/-- Settles O12. -/
theorem txenFollowsOwnFrames : Obligations.TxenFollowsOwnFrames := by
  intro s t h runs
  exact step_keeps (P := State.trunkSound) (fun _ _ h => h) (fun _ h => h.atInstant _) (fun _ _ _ h e => e.trunkSound h) h
    runs

/-! ### Permission -/

/-- R36, R75: a following node is neither listen-only nor still to take up sending. -/
abbrev State.free (s : State) : Prop := s.cycle.listenOnly = false ∧ s.sched.takeUp ≠ .awaitsCycle

theorem State.maySendCyclic_permits {s : State} (h : s.maySendCyclic = true) :
    s.cycle.timing = .leading ∨ (s.cycle.timing.following = true ∧ s.free) := by
  simp only [State.maySendCyclic, CycleUnit.cyclicPermission, State.resting, State.free, Bool.and_eq_true,
    Bool.not_eq_true', Bool.and_eq_false_iff, beq_eq_false_iff_ne] at h ⊢
  cases timing : s.cycle.timing <;> simp [timing, Timing.following] at h ⊢
  all_goals exact h

theorem State.maySendSegment_permits {s : State} (h : s.maySendSegment = true) :
    s.cycle.timing = .leading ∨ (s.cycle.timing = .locked ∧ s.free) := by
  simp only [State.maySendSegment, CycleUnit.segmentPermission, State.resting, State.free, Bool.and_eq_true,
    Bool.not_eq_true', Bool.and_eq_false_iff, beq_eq_false_iff_ne] at h ⊢
  cases timing : s.cycle.timing <;> simp [timing, Timing.following] at h ⊢
  all_goals exact h

theorem candidate_permitted {q : List Message} {may : Bool} {floor : Nat} {address : Byte} {p : SegmentFrame × OnLine}
    (h : candidate q may floor address = some p) : may = true := by
  cases may with
  | true => rfl
  | false => cases q <;> simp [candidate] at h

/-! ### Frames of the node's own -/

/-- R27: the node has begun its cycle start frame. -/
def LeadFrameBegun (c : Instr) (u : State) : Prop :=
  (c ∈ cycleStartCommands ∨ c = .claimWindowExpires) ∧ u.cycle.timing = .leading ∧
  ∃ (f : CycleStartFrame) (since : Word), f.source = u.cycle.address ∧
    u.trunk.sending = some { bytes := f.bytes, since := since }

/-- R10: the node has begun the cyclic frame of a walked slot of its own. -/
def CyclicFrameBegun (c : Instr) (s u : State) : Prop :=
  ∃ now e n label payload, s.current = some now ∧ e ∈ s.sched.active.entries ∧ walks s now e = true ∧
    c = .cyclicSlotStart e.start ∧ e.slot = .cyclic n s.cycle.address label payload ∧
    (∃ (f : CyclicFrame) (since : Word), f.source = s.cycle.address ∧ f.label = label ∧
      u.trunk.sending = some { bytes := f.bytes, since := since }) ∧
    (s.cycle.timing = .leading ∨ (s.cycle.timing.following = true ∧ s.free))

/-- R12: the interface has been given a segment for a walked OPEN slot. -/
def SegmentTakenUp (c : Instr) (s u : State) : Prop :=
  ∃ now e floor line, s.current = some now ∧ e ∈ s.sched.active.entries ∧ walks s now e = true ∧
    c = .openSlotWindowOpens { start := e.start, line := line } ∧ e.slot = .openSlot floor ∧
    (∀ own, u.trunk.segment = some own → own.start = e.start) ∧
    (s.cycle.timing = .leading ∨ (s.cycle.timing = .locked ∧ s.free))

section
variable {s u : State}

theorem beginCycle_goesOn (now : CycleNow) (s : State) :
    s.trunk.GoesOn (beginCycle now s).trunk ∨
    (s.cycle.timing = .leading ∧ s.trunk.GoesOn { (beginCycle now s).trunk with sending := none } ∧
      ∃ (f : CycleStartFrame) (since : Word), f.source = s.cycle.address ∧
        (beginCycle now s).trunk.sending = some { bytes := f.bytes, since := since }) := by
  have reached := TrunkInterface.GoesOn.reach s.trunk now.origin
  obtain ⟨window, ⟨-, eq⟩ | ⟨leading, f, since, source, eq⟩⟩ := beginCycle_trunk now s
  · rw [eq]
    exact .inl ⟨reached.sending, reached.segment⟩
  · rw [eq]
    exact .inr ⟨leading, ⟨.inr rfl, reached.segment⟩, f, since, source, rfl⟩

theorem segmentOutcome_goesOn (result : SegmentOutcome) (s : State) : s.trunk.GoesOn (segmentOutcome result s).trunk := by
  rw [segmentOutcome_trunk]
  exact .segmentEnds _

theorem countDisturbed_goesOn (s : State) : s.trunk.GoesOn (countDisturbed s).trunk := by
  rw [countDisturbed_trunk]
  exact .of_eq rfl rfl

theorem segmentBegun_goesOn (s : State) : s.trunk.GoesOn s.segmentBegun.trunk := by
  obtain eq | ⟨t, eq⟩ := segmentBegun_trunk s
  · rw [eq]
    exact .of_eq rfl rfl
  · rw [eq]
    exact .reach _ _

theorem yieldSlot_goesOn (g : OwnSegment) (s : State) : s.trunk.GoesOn (yieldSlot g s).trunk := by
  obtain ⟨own, -, eq⟩ | ⟨t, eq⟩ := yieldSlot_trunk g s
  · rw [eq]
    exact .of_eq rfl rfl
  · rw [eq]
    exact .reach _ _

/-- Every effect lets the frames of the node's own go on, but those that begin one with permission. -/
theorem Effect.ownFrames {c : Instr} (e : Effect s c u) :
    s.trunk.GoesOn u.trunk ∨
    (s.trunk.GoesOn { u.trunk with sending := none } ∧ (LeadFrameBegun c u ∨ CyclicFrameBegun c s u)) ∨
    (s.trunk.GoesOn { u.trunk with segment := none } ∧ SegmentTakenUp c s u) := by
  cases e with
  | handled _ handler => exact .inl (handler_goesOn handler _ s)
  | poweredOn => exact .inl (.of_none rfl rfl)
  | @claimed r =>
    let led := giveNotice (.masterLeading .claim (r.firstCycle s.activeLength).number)
      (s.withCycle { s.cycle.leads with now := some (r.firstCycle s.activeLength) })
    rw [show claimExpires r s = beginCycle (r.firstCycle s.activeLength) led from rfl]
    have trunk : led.trunk = s.trunk := by simp [led]
    have timing : led.cycle.timing = .leading := by simp [led, CycleUnit.leads]
    obtain goesOn | ⟨-, goesOn, f, since, source, sending⟩ := beginCycle_goesOn (r.firstCycle s.activeLength) led
    · rw [trunk] at goesOn
      exact .inl goesOn
    · rw [trunk] at goesOn
      refine .inr (.inl ⟨goesOn, .inl ⟨.inr rfl, (beginCycle_timing _ _).trans timing, f, since, ?_, sending⟩⟩)
      rw [source]
      exact (beginCycle_only _ _).2.2.2.2.1.symm
  | @cycleBegun _ now begins =>
    have kept : s.trunk.GoesOn (keepLate now s).trunk := .of_eq rfl rfl
    obtain goesOn | ⟨leading, goesOn, f, since, source, sending⟩ := beginCycle_goesOn now.following (keepLate now s)
    · exact .inl (kept.trans goesOn)
    · refine .inr (.inl ⟨kept.trans goesOn, .inl ⟨.inl begins, (beginCycle_timing _ _).trans leading, f, since,
        ?_, sending⟩⟩)
      rw [source]
      exact (beginCycle_only _ _).2.2.2.2.1.symm
  | @frameHeard _ stamp bytes =>
    have reached := TrunkInterface.GoesOn.reach s.trunk (readInstant stamp bytes)
    have audible : s.trunk.GoesOn (heard (s.atInstant (readInstant stamp bytes))).trunk := ⟨reached.sending, reached.segment⟩
    exact .inl (audible.trans (handFrame_heard stamp (judge bytes) _).goesOn)
  | @windowClosed _ now =>
    have reached := TrunkInterface.GoesOn.reach s.trunk (now.origin + 2)
    obtain ⟨-, same⟩ | ended := (missCycleStart_missed now (settleWindow (s.atInstant (now.origin + 2)))).trunk
    · rw [windowAbsent, same]
      exact .inl ⟨reached.sending, reached.segment⟩
    · rw [windowAbsent, ended]
      exact .inl (TrunkInterface.GoesOn.trans ⟨reached.sending, reached.segment⟩ (.endWalk _))
  | @slotStarted now e n payload label current entry slot =>
    obtain ⟨mem, -, walked⟩ := walkedEntry_some entry
    have reached := TrunkInterface.GoesOn.reach s.trunk (now.at e.start)
    obtain eq | ⟨may, a, eq⟩ := startCyclicSlot_cases e.start label (now.at e.start) (s.atInstant (now.at e.start))
    · rw [eq]
      exact .inl reached
    · rw [eq]
      exact .inr (.inl ⟨⟨.inr rfl, reached.segment⟩, .inr ⟨now, e, n, label, payload, current, mem, walked, rfl, slot,
        ⟨ownCyclic s.cycle.address label a, _, rfl, rfl, rfl⟩, State.maySendCyclic_permits may⟩⟩)
  | @slotEnded _ start now d =>
    refine .inl ?_
    rw [handSlotEnd, (channelSlotEnd_only _ _ _ _ _ _).1, releaseSlot_trunk]
    have reached := TrunkInterface.GoesOn.reach s.trunk d.instant
    exact ⟨reached.sending, reached.segment⟩
  | @windowOpened now e floor line current entry slot idle =>
    obtain ⟨mem, -, walked⟩ := walkedEntry_some entry
    have reached (i : TrunkInterface) := TrunkInterface.GoesOn.reach i (now.at e.start - 4)
    obtain eq | ⟨f, o, own, given, eq⟩ := openWindow_segment e.start floor line (now.at e.start) s
    · refine .inl ?_
      rw [State.atInstant, eq]
      exact reached _
    · refine .inr (.inr ⟨⟨?_, nofun⟩, now, e, floor, line, current, mem, walked, rfl, slot, fun g hg => ?_,
        State.maySendSegment_permits (candidate_permitted given)⟩)
      · rw [State.atInstant, eq]
        exact .inl rfl
      · rw [State.atInstant, eq] at hg
        obtain ⟨given, hgiven, rfl | ⟨since, -, rfl⟩⟩ := (reached _).segment g hg
        · cases hgiven
          rfl
        · cases hgiven
          rfl
  | segmentWon => exact .inl (TrunkInterface.GoesOn.trans (.reach _ _) (segmentOutcome_goesOn _ (s.atInstant _)))
  | segmentLost =>
    exact .inl (((segmentBegun_goesOn s).trans (yieldSlot_goesOn _ _)).trans (segmentOutcome_goesOn _ _))
  | segmentDisturbed =>
    exact .inl (((segmentBegun_goesOn s).trans (countDisturbed_goesOn _)).trans (segmentOutcome_goesOn _ _))
  | ownFrameMismatch => exact .inl ((countDisturbed_goesOn s).trans (.frameEnds _))
  | ownFrameSent => exact .inl (TrunkInterface.GoesOn.trans (.reach _ _) (.frameEnds _))
  | _ => exact .inl (.of_eq (by simp) (by simp))

end

/-- Settles O18. -/
theorem ownFramesNeedPermission : Obligations.OwnFramesNeedPermission := by
  intro c s t runs
  have carried {i j : TrunkInterface} (h : i.GoesOn j) (own : OwnFrame) (changed : j.sending ≠ i.sending)
      (sending : j.sending = some own) : False := by
    obtain eq | none := h.sending
    · exact changed eq
    · rw [none] at sending
      cases sending
  obtain rfl | ⟨u, e, rfl⟩ := effect_of_exec runs
  · exact ⟨fun _ changed => absurd rfl changed, fun own h => .inl ⟨own, h, .inl rfl⟩⟩
  · obtain goesOn | ⟨goesOn, begun⟩ | ⟨goesOn, taken⟩ := e.ownFrames
    · exact ⟨fun own changed sending => (carried goesOn own changed sending).elim, fun own h => .inl (goesOn.segment own h)⟩
    · refine ⟨fun own _ sending => ?_, fun own h => .inl (goesOn.segment own h)⟩
      obtain ⟨begins, leading, f, since, source, frame⟩ |
        ⟨now, e, n, label, payload, current, mem, walked, called, slot, ⟨f, since, source, named, frame⟩, may⟩ := begun
      · cases sending.symm.trans frame
        exact .inl ⟨begins, leading, f, source, rfl⟩
      · cases sending.symm.trans frame
        exact .inr ⟨now, e, n, label, payload, current, mem, walked, called, slot, ⟨f, source, named, rfl⟩, may⟩
    · refine ⟨fun own changed sending => (carried goesOn own changed sending).elim, fun own h => .inr ?_⟩
      obtain ⟨now, e, floor, line, current, mem, walked, called, slot, start, may⟩ := taken
      exact ⟨now, e, floor, line, current, mem, walked, called, slot, start own h, may⟩

end Sys2Proof.Machine
end

section
/-! PROOFS. The counters of both units stay within 16 bits, and every cycle length held is usable. Settles O13. -/

namespace Sys2Proof.Machine

set_option Elab.async false

theorem bump_le (n : Nat) : bump n ≤ Config.counterMax := by
  unfold bump
  split
  · next below => exact below
  · exact Nat.le_refl _

/-! ### The counters of the trunk interface -/

/-- R17: the five counters of the interface stay within 16 bits. -/
def TrunkInterface.countsBounded (i : TrunkInterface) : Prop :=
  i.crcErrors ≤ Config.counterMax ∧ i.malformed ≤ Config.counterMax ∧ i.wrongSlot ≤ Config.counterMax ∧
  i.stray ≤ Config.counterMax ∧ i.disturbed ≤ Config.counterMax

theorem TrunkInterface.reset_countsBounded : TrunkInterface.reset.countsBounded :=
  ⟨Nat.zero_le _, Nat.zero_le _, Nat.zero_le _, Nat.zero_le _, Nat.zero_le _⟩

section
variable {i : TrunkInterface} {s v u : State}

theorem TrunkInterface.countsBounded.follow (h : i.countsBounded) : i.follow.countsBounded := by
  obtain ⟨-, eq⟩ | ⟨-, -, eq⟩ | ⟨-, -, eq⟩ := i.follow_cases
  · rwa [eq]
  · rw [eq]
    exact TrunkInterface.reset_countsBounded
  · rw [eq]
    exact h

theorem TrunkInterface.countsBounded.nodeReset (h : i.countsBounded) : (nodeResetTrunk i).countsBounded := by
  unfold nodeResetTrunk
  split
  · exact h
  · exact TrunkInterface.reset_countsBounded

theorem Interim.countsBounded (i : Interim s v) (h : s.trunk.countsBounded) : v.trunk.countsBounded := by
  have bounded {a b : Nat} (counted : b = a ∨ b = bump a) (within : a ≤ Config.counterMax) : b ≤ Config.counterMax := by
    obtain rfl | rfl := counted
    · exact within
    · exact bump_le a
  obtain ⟨crc, malformed, wrongSlot, stray, disturbed⟩ := h
  exact ⟨bounded i.crc crc, bounded i.malformed malformed, by rw [i.same]; exact wrongSlot, bounded i.stray stray,
    by rw [i.same]; exact disturbed⟩

theorem Heard.countsBounded {stamp : Word} (e : Heard stamp s u) (h : s.trunk.countsBounded) : u.trunk.countsBounded := by
  obtain ⟨v, i, ⟨same, -⟩ | ⟨-, early, trunk⟩ | ended⟩ := e.trunk
  · rw [same]
    exact i.countsBounded h
  · rw [trunk]
    exact i.countsBounded h
  · rw [ended]
    exact i.countsBounded h

theorem handler_countsBounded {c : Instr} {run : Handler} (handler : requestHandler c = some run) (body : List Byte)
    (h : s.trunk.countsBounded) : (run body s).2.trunk.countsBounded := by
  obtain ⟨-, trunk | trunk⟩ | ⟨-, trunk⟩ | ended | reset := handler_trunk handler body s
  · rwa [trunk]
  · rw [trunk]
    exact TrunkInterface.reset_countsBounded
  · rw [trunk]
    exact h
  · rw [ended]
    obtain ⟨eq, -⟩ | ⟨-, -, eq⟩ := deferOffline_cases s <;> rw [eq] <;> exact h
  · rw [reset]
    exact h.nodeReset

theorem beginCycle_countsBounded (now : CycleNow) (h : s.trunk.countsBounded) :
    (beginCycle now s).trunk.countsBounded := by
  obtain ⟨window, ⟨-, eq⟩ | ⟨-, f, since, -, eq⟩⟩ := beginCycle_trunk now s <;> rw [eq] <;> exact h

theorem countDisturbed_countsBounded (h : s.trunk.countsBounded) : (countDisturbed s).trunk.countsBounded := by
  obtain ⟨crc, malformed, wrongSlot, stray, disturbed⟩ := h
  unfold countDisturbed
  split
  · exact ⟨crc, malformed, wrongSlot, stray, bump_le _⟩
  · exact ⟨crc, malformed, wrongSlot, stray, disturbed⟩

theorem segmentBegun_countsBounded (h : s.trunk.countsBounded) : s.segmentBegun.trunk.countsBounded := by
  obtain eq | ⟨t, eq⟩ := segmentBegun_trunk s <;> rw [eq] <;> exact h

theorem yieldSlot_countsBounded (g : OwnSegment) (h : s.trunk.countsBounded) : (yieldSlot g s).trunk.countsBounded := by
  obtain ⟨own, -, eq⟩ | ⟨t, eq⟩ := yieldSlot_trunk g s <;> rw [eq] <;> exact h

theorem segmentOutcome_countsBounded (result : SegmentOutcome) (h : s.trunk.countsBounded) :
    (segmentOutcome result s).trunk.countsBounded := by
  rw [segmentOutcome_trunk]
  exact TrunkInterface.countsBounded.follow (i := { s.trunk with segment := none }) h

theorem endFrame_countsBounded (h : s.trunk.countsBounded) : (endFrame s).trunk.countsBounded :=
  TrunkInterface.countsBounded.follow (i := { s.trunk with sending := none }) h

/-- R89: of the interface a slot end touches WRONG_SLOT alone, by the frame it hands. -/
theorem channelSlotEnd_trunk (number : Word) (owner label : Byte) (payload : Nat) (f : Option CyclicFrame) (s : State) :
    (channelSlotEnd number owner label payload f s).trunk = (countWrongSlot owner label payload f s).trunk := by
  unfold channelSlotEnd
  dsimp only
  split
  · exact (evaluateChannel_only _ _ _ _ _).1
  · rfl

/-- R17: every command keeps the interface's counters within 16 bits. -/
theorem Effect.countsBounded {c : Instr} (e : Effect s c u) (h : s.trunk.countsBounded) : u.trunk.countsBounded := by
  cases e with
  | handled _ handler => exact handler_countsBounded (s := s) handler _ h
  | poweredOn => exact TrunkInterface.reset_countsBounded
  | claimed => exact beginCycle_countsBounded _ (by simpa using h)
  | cycleBegun => exact beginCycle_countsBounded _ h
  | frameHeard => exact (handFrame_heard _ _ (heard (s.atInstant _))).countsBounded h
  | @windowClosed _ now =>
    obtain ⟨-, same⟩ | ended := (missCycleStart_missed now (settleWindow (s.atInstant (now.origin + 2)))).trunk
    · rw [windowAbsent, same]
      exact h
    · rw [windowAbsent, ended]
      exact h
  | @slotStarted now e n payload label =>
    obtain eq | ⟨-, a, eq⟩ := startCyclicSlot_cases e.start label (now.at e.start) (s.atInstant (now.at e.start)) <;>
    · rw [eq]
      exact h
  | @slotEnded _ start now d =>
    obtain ⟨crc, malformed, wrongSlot, stray, disturbed⟩ := h
    have counted : (handSlotEnd now.number d (releaseSlot start (s.atInstant d.instant))).trunk.wrongSlot ≤
        Config.counterMax := by
      rw [handSlotEnd, channelSlotEnd_trunk]
      obtain same | bumped := countWrongSlot_cases d.owner d.label d.payload d.frame (releaseSlot start (s.atInstant d.instant))
      · rw [same, releaseSlot_trunk]
        exact wrongSlot
      · rw [bumped]
        exact bump_le _
    obtain ⟨trunk, -⟩ :=
      channelSlotEnd_only now.number d.owner d.label d.payload d.frame (releaseSlot start (s.atInstant d.instant))
    rw [← handSlotEnd, releaseSlot_trunk] at trunk
    rw [trunk]
    exact ⟨crc, malformed, counted, stray, disturbed⟩
  | @windowOpened now e floor line =>
    obtain eq | ⟨f, o, own, -, eq⟩ := openWindow_segment e.start floor line (now.at e.start) s
    · rw [State.atInstant, eq]
      exact h
    · rw [State.atInstant, eq]
      exact h
  | segmentWon => exact segmentOutcome_countsBounded (s := s.atInstant _) _ h
  | segmentLost => exact segmentOutcome_countsBounded _ (yieldSlot_countsBounded _ (segmentBegun_countsBounded h))
  | segmentDisturbed =>
    exact segmentOutcome_countsBounded _ (countDisturbed_countsBounded (segmentBegun_countsBounded h))
  | ownFrameMismatch => exact endFrame_countsBounded (countDisturbed_countsBounded h)
  | ownFrameSent => exact endFrame_countsBounded (s := s.atInstant _) h
  | _ => simpa using h

/-! ### The counters of the receive message unit -/

/-- R140: the two counters of the receive message unit stay within 16 bits. -/
def ReceiveUnit.countsBounded (u : ReceiveUnit) : Prop :=
  u.orphan ≤ Config.counterMax ∧ u.duplicate ≤ Config.counterMax

theorem countOrphan_bounded (h : s.rx.countsBounded) : (countOrphan s).rx.countsBounded := ⟨bump_le _, h.2⟩

theorem countDuplicate_bounded (h : s.rx.countsBounded) : (countDuplicate s).rx.countsBounded := ⟨h.1, bump_le _⟩

theorem breakContext_bounded (p : Nat) (c : Context) (reason : DropReason) (h : s.rx.countsBounded) :
    (breakContext p c reason s).rx.countsBounded := by
  rw [breakContext_rx]
  exact h

theorem appendSegment_bounded (number : Word) (p : Nat) (c : Context) (f : SegmentFrame) (h : s.rx.countsBounded) :
    (appendSegment number p c f s).rx.countsBounded := by
  unfold appendSegment closeAppended completeContext
  dsimp only
  split_ifs
  · exact breakContext_bounded _ _ _ h
  · exact breakContext_bounded _ _ _ h
  · exact h
  · simpa [enqueueArrival, recordCompletion, ReceiveUnit.countsBounded] using h
  · simpa [dropFull, recordCompletion, ReceiveUnit.countsBounded] using h
  · exact breakContext_bounded _ _ _ h

theorem openContext_bounded (number : Word) (f : SegmentFrame) (h : s.rx.countsBounded) :
    (openContext number f s).rx.countsBounded := by
  unfold openContext
  split
  · simpa using h
  · split
    · simpa using h
    · exact appendSegment_bounded _ _ _ _ h

theorem firstSegment_bounded (number : Word) (f : SegmentFrame) (h : s.rx.countsBounded) :
    (firstSegment number f s).rx.countsBounded := by
  unfold firstSegment
  split
  · exact openContext_bounded _ _ h
  · split
    · exact countDuplicate_bounded h
    · exact openContext_bounded _ _ (breakContext_bounded _ _ _ h)

theorem laterSegment_bounded (number : Word) (f : SegmentFrame) (h : s.rx.countsBounded) :
    (laterSegment number f s).rx.countsBounded := by
  unfold laterSegment orphanSegment
  split
  · split
    · exact countOrphan_bounded h
    · exact breakContext_bounded _ _ _ (countOrphan_bounded h)
  · split_ifs
    · exact appendSegment_bounded _ _ _ _ h
    · exact countDuplicate_bounded h
    · exact breakContext_bounded _ _ _ h

theorem contextSegment_bounded (number : Word) (f : SegmentFrame) (h : s.rx.countsBounded) :
    (contextSegment number f s).rx.countsBounded := by
  unfold contextSegment abortReceived
  split
  · split
    · exact h
    · exact breakContext_bounded _ _ _ h
  · split
    · exact firstSegment_bounded _ _ h
    · exact laterSegment_bounded _ _ h

theorem receiveSegment_bounded (number : Word) (f : SegmentFrame) (h : s.rx.countsBounded) :
    (receiveSegment number f s).rx.countsBounded := by
  unfold receiveSegment consistentSegment
  split_ifs
  · exact h
  · exact countOrphan_bounded h
  · split
    · exact contextSegment_bounded _ _ h
    · split
      · exact countDuplicate_bounded h
      · exact contextSegment_bounded _ _ h

theorem breakWhere_bounded (test : Context → Bool) (reason : DropReason) (ps : List Nat) (h : s.rx.countsBounded) :
    (breakWhere test reason ps s).rx.countsBounded := by
  induction ps generalizing s with
  | nil => exact h
  | cons p rest ih =>
    unfold breakWhere
    split
    · split
      · exact ih (breakContext_bounded _ _ _ h)
      · exact ih h
    · exact ih h
    · exact ih h

theorem receiveDepart_bounded (reason : DropReason) (h : s.rx.countsBounded) :
    (receiveDepart reason s).rx.countsBounded := breakWhere_bounded _ _ _ h

theorem goOfflineRequest_bounded (body : List Byte) (h : s.rx.countsBounded) :
    (goOfflineRequest body s).2.rx.countsBounded := by
  unfold goOfflineRequest
  dsimp only
  split
  · exact receiveDepart_bounded _ (by simpa [endWalk] using h)
  · exact h

theorem takesOnly_bounded {t : State} (h : s.rx.countsBounded) (orphan : t.rx.orphan = s.rx.orphan)
    (duplicate : t.rx.duplicate = s.rx.duplicate) : t.rx.countsBounded := by
  unfold ReceiveUnit.countsBounded
  rw [orphan, duplicate]
  exact h

end

/-- R140: every operation keeps the counters of the receive message unit within 16 bits. -/
theorem receiveCountsLaw : UnitLaw (fun s => s.rx.countsBounded) where
  untouched h _ _ _ rx := by
    rw [rx]
    exact h
  poweredOn _ := ⟨Nat.zero_le _, Nat.zero_le _⟩
  handled {c run} body s handler _ h := by
    cases c <;> cases handler
    case setGroups => exact takesOnly_bounded h (by simp) (by simp)
    case releaseMessage => exact takesOnly_bounded h (by simp) (by simp)
    case readCounts =>
      obtain same | same := readCountsRequest_cases body s
      · rw [same]
        exact h
      · rw [same]
        exact ⟨Nat.zero_le _, Nat.zero_le _⟩
    case goOnline => simpa [goOnlineRequest_only] using h
    case goOffline => exact goOfflineRequest_bounded body h
    case resetNode => exact ⟨Nat.zero_le _, Nat.zero_le _⟩
    case stageBegin => simpa [stageBeginRequest_only] using h
    case stageAdd => simpa [stageAddRequest_only] using h
    case stageRemove => simpa [stageRemoveRequest_only] using h
    case stageClose => simpa [stageCloseRequest_only] using h
    case stageDiscard => simpa [stageDiscardRequest_only] using h
    all_goals simpa using h
  switches _ _ h := by simpa using h
  accepts _ _ h := by simpa using h
  scheduleDeparts _ _ h := by simpa using h
  channelStarts _ h := by simpa using h
  channelDeparts _ h := by simpa using h
  slotEnds number owner label payload f s h := by
    rw [(channelSlotEnd_only number owner label payload f s).2.2.2.2.1]
    exact h
  transmitStarts _ h := by simpa using h
  transmitDeparts _ _ h := by simpa using h
  windowOpens _ _ _ _ h := by simpa using h
  outcome _ _ h := by simpa using h
  receiveStarts _ h := breakWhere_bounded _ _ _ h
  receiveDeparts reason _ h := receiveDepart_bounded reason h
  segment number f _ h := receiveSegment_bounded number f h

/-! ### The lengths of the banks -/

/-- R42, R46: the cycle length of the staged bank. -/
def Staged.length? : Staged → Option Nat
  | .empty => none
  | .editing n _ | .closed _ n _ | .armed _ n _ _ => some n

/-- R42, R43: every cycle length that the two banks hold is usable. -/
def ScheduleUnit.lengthsUsable (u : ScheduleUnit) : Prop :=
  (∀ n ∈ u.active.cycleLength.toList, usableLength n = true) ∧ ∀ n ∈ u.staged.length?.toList, usableLength n = true

theorem lengthsUsable_iff (s : State) : lengthsUsable s ↔
    usableLength s.cycle.bareLength = true ∧ (∀ c ∈ s.cycle.now.toList, usableLength c.length = true) ∧
    s.sched.lengthsUsable := by
  unfold lengthsUsable ScheduleUnit.lengthsUsable
  cases s.sched.staged <;> simp [Staged.length?]

section
variable {s v u : State}

theorem ScheduleUnit.lengthsUsable.keeps {x y : ScheduleUnit} (h : x.lengthsUsable) (active : y.active = x.active)
    (staged : y.staged.length? = x.staged.length? ∨ y.staged.length? = none) : y.lengthsUsable := by
  obtain ⟨usable, length⟩ := h
  refine ⟨by rwa [active], ?_⟩
  obtain eq | eq := staged <;> rw [eq]
  · exact length
  · exact nofun

theorem scheduleCycleStart_usable (number : Word) (h : s.sched.lengthsUsable) :
    (scheduleCycleStart number s).sched.lengthsUsable := by
  obtain ⟨usable, length⟩ := h
  unfold scheduleCycleStart switchBank
  split
  · next epoch n entries cycle staged =>
    have staged : s.sched.staged = .armed epoch n entries cycle := staged
    simp only [staged, Staged.length?] at length
    split
    · exact ⟨by simpa [makeSwitch] using length, by simp [makeSwitch, Staged.length?]⟩
    · exact ⟨usable, by simpa [dropAdoption, State.withTakeUp, staged, Staged.length?] using length⟩
  · next epoch n entries staged =>
    have staged : s.sched.staged = .closed epoch n entries := staged
    simp only [staged, Staged.length?] at length
    split
    · exact ⟨by simpa [makeSwitch] using length, by simp [makeSwitch, Staged.length?]⟩
    · exact ⟨usable, by simpa [dropAdoption, State.withTakeUp, staged, Staged.length?] using length⟩
  · exact ⟨usable, length⟩
  · exact ⟨usable, length⟩

theorem announced_length (epoch : Half) (cycle : Word) (s : State) :
    (announced epoch cycle s).sched.staged.length? = s.sched.staged.length? := by
  have unready (own : Option Half) : (unreadyOnce epoch cycle own s).sched.staged = s.sched.staged := by
    unfold unreadyOnce
    split <;> simp
  unfold announced
  split
  · next own length entries staged =>
    split
    · simp [armBank, staged, Staged.length?]
    · rw [unready]
  · next own length entries c staged =>
    split_ifs
    · simp [disarmUnready, staged, Staged.length?]
    · rfl
    · simp [staged, Staged.length?]
  · rw [unready]
  · rw [unready]

theorem notAnnounced_length (s : State) : (notAnnounced s).sched.staged.length? = s.sched.staged.length? := by
  unfold notAnnounced
  split
  · next epoch length entries cycle staged => simp [withdraw, staged, Staged.length?]
  all_goals simp

theorem acceptFields_length (f : CycleStartFrame) (s : State) :
    (acceptFields f s).sched.staged.length? = s.sched.staged.length? := by
  have evaluated : (evaluateAnnouncement f (evaluateListenOnly f s)).sched.staged.length? = s.sched.staged.length? := by
    unfold evaluateAnnouncement
    split
    · rw [announced_length]
      simp
    · rw [notAnnounced_length]
      simp
  rw [← evaluated, acceptFields, scheduleAccepts, markAdoption]
  split <;> rfl

theorem scheduleDepart_length (d : Destination) (s : State) :
    (scheduleDepart d s).sched.staged.length? = s.sched.staged.length? := by
  unfold scheduleDepart
  split
  · next epoch length entries cycle staged => simp [withdraw, staged, Staged.length?]
  all_goals simp

theorem stageBeginRequest_usable (body : List Byte) (h : s.sched.lengthsUsable) :
    (stageBeginRequest body s).2.sched.lengthsUsable := by
  unfold stageBeginRequest
  split
  · exact h
  all_goals
    split
    · exact h
    · next usable => exact ⟨h.1, by simpa [Staged.length?] using usable⟩

/-- R47 to R53, R61, R64: the other requests keep the length of the staged bank, or empty it. -/
theorem stageAddRequest_length (body : List Byte) (s : State) :
    (stageAddRequest body s).2.sched.staged.length? = s.sched.staged.length? := by
  unfold stageAddRequest
  split
  · next length entries staged =>
    dsimp only
    split_ifs
    · rfl
    · rfl
    · split
      · rfl
      · simp [staged, Staged.length?]
  · rfl

theorem stageRemoveRequest_length (body : List Byte) (s : State) :
    (stageRemoveRequest body s).2.sched.staged.length? = s.sched.staged.length? := by
  unfold stageRemoveRequest
  split
  · next length entries staged =>
    split
    · simp [staged, Staged.length?]
    · rfl
  · rfl

theorem stageCloseRequest_length (body : List Byte) (s : State) :
    (stageCloseRequest body s).2.sched.staged.length? = s.sched.staged.length? := by
  unfold stageCloseRequest
  split
  · next length entries staged =>
    split
    · rfl
    · split
      · rfl
      · simp [staged, Staged.length?]
  · rfl

theorem stageDiscardRequest_length (body : List Byte) (s : State) :
    (stageDiscardRequest body s).2.sched.staged.length? = s.sched.staged.length? ∨
    (stageDiscardRequest body s).2.sched.staged.length? = none := by
  unfold stageDiscardRequest
  split
  · exact .inl rfl
  all_goals exact .inr rfl

theorem commitRequest_length (body : List Byte) (s : State) :
    (commitRequest body s).2.sched.staged.length? = s.sched.staged.length? := by
  unfold commitRequest
  split
  · rfl
  · split
    · next staged =>
      split
      · rfl
      · simp [armBank, staged, Staged.length?]
    all_goals rfl

theorem cancelRequest_length (body : List Byte) (s : State) :
    (cancelRequest body s).2.sched.staged.length? = s.sched.staged.length? := by
  unfold cancelRequest
  split
  · rfl
  · split
    · next staged => simp [withdraw, staged, Staged.length?]
    all_goals rfl

theorem goOfflineRequest_length (body : List Byte) (s : State) :
    (goOfflineRequest body s).2.sched.staged.length? = s.sched.staged.length? := by
  unfold goOfflineRequest
  dsimp only
  split
  · simp [depart, signalDeparture, scheduleDepart_length, endWalk]
  · rfl

end

/-- R42, R46: every operation keeps the lengths of the banks usable. -/
theorem bankLengthsLaw : UnitLaw (fun s => s.sched.lengthsUsable) where
  untouched h sched _ _ _ := by
    rw [sched]
    exact h
  poweredOn _ := ⟨nofun, nofun⟩
  handled {c run} body s handler _ h := by
    cases c <;> cases handler
    case stageBegin => exact stageBeginRequest_usable body h
    case stageAdd => exact h.keeps (by rw [(stageAddRequest_only body s).2.2.1]) (.inl (stageAddRequest_length body s))
    case stageRemove =>
      exact h.keeps (by rw [(stageRemoveRequest_only body s).2.2.1]) (.inl (stageRemoveRequest_length body s))
    case stageClose =>
      exact h.keeps (by rw [(stageCloseRequest_only body s).2.2.1]) (.inl (stageCloseRequest_length body s))
    case stageDiscard =>
      exact h.keeps (by rw [(stageDiscardRequest_only body s).2.2.1]) (stageDiscardRequest_length body s)
    case commit => exact h.keeps (by simp) (.inl (commitRequest_length body s))
    case cancel => exact h.keeps (by simp) (.inl (cancelRequest_length body s))
    case goOnline => simpa [goOnlineRequest_only] using h
    case goOffline => exact h.keeps (by simp) (.inl (goOfflineRequest_length body s))
    case resetNode => exact ⟨nofun, nofun⟩
    all_goals simpa using h
  switches number _ h := scheduleCycleStart_usable number h
  accepts f _ h := h.keeps (by simp) (.inl (acceptFields_length f _))
  scheduleDeparts d _ h := h.keeps (by simp) (.inl (scheduleDepart_length d _))
  channelStarts _ h := by simpa using h
  channelDeparts _ h := by simpa using h
  slotEnds number owner label payload f s h := by
    rw [(channelSlotEnd_only number owner label payload f s).2.2.1]
    exact h
  transmitStarts _ h := by simpa using h
  transmitDeparts _ _ h := by simpa using h
  windowOpens _ _ _ _ h := by simpa using h
  outcome _ _ h := by simpa using h
  receiveStarts _ h := by simpa using h
  receiveDeparts _ _ h := by simpa using h
  segment _ _ _ h := by simpa using h

/-! ### The length of the cycle -/

section
variable {s v u : State}

/-- R23, R24, R39: the bare cycle length and that of the cycle in use are usable. -/
def CycleUnit.lengthsUsable (c : CycleUnit) : Prop :=
  usableLength c.bareLength = true ∧ ∀ n ∈ c.now.toList, usableLength n.length = true

theorem CycleUnit.lengthsUsable.keeps {x y : CycleUnit} (h : x.lengthsUsable) (bare : y.bareLength = x.bareLength)
    (now : ∀ n, y.now = some n → x.now = some n ∨ usableLength n.length = true) : y.lengthsUsable := by
  refine ⟨by rw [bare]; exact h.1, fun n hn => ?_⟩
  obtain same | usable := now n (by simpa using hn)
  · exact h.2 n (by simp [same])
  · exact usable

/-- R43: the length read from the ACTIVE bank is usable. -/
theorem State.activeLength_usable (bare : usableLength s.cycle.bareLength = true)
    (bank : ∀ n ∈ s.sched.active.cycleLength.toList, usableLength n = true) : usableLength s.activeLength = true := by
  unfold State.activeLength
  split
  · exact bare
  · cases length : s.sched.active.cycleLength with
    | none => exact bare
    | some n => exact bank n (by simp [length])

/-- R24, R63: a leading node's cycle has the length of the ACTIVE bank as it is after the switch. -/
theorem beginCycle_now (now : CycleNow) (s : State) : (beginCycle now s).cycle.now = some { now with
    length := if s.cycle.timing = .leading then (beginCycle now s).activeLength else now.length } := by
  let opened := (s.withCycle { s.cycle with now := some now }).atInstant now.origin
  let switched := scheduleCycleStart now.number (advanceQuiet (takeUpCycle opened))
  have length : (beginCycle now s).activeLength = switched.activeLength := by
    have sched : (beginCycle now s).sched = switched.sched := by simp [beginCycle, signalCycleStart, switched, opened]
    have bare : (beginCycle now s).cycle.bareLength = switched.cycle.bareLength := by
      simp [switched, opened]
    rw [State.activeLength, sched, bare, ← State.activeLength]
  rw [length]
  by_cases leading : s.cycle.timing = .leading
  · simp [beginCycle, signalCycleStart_cycle, leading, opened, switched]
  · simp [beginCycle, signalCycleStart_cycle, leading]

theorem beginCycle_usable (now : CycleNow) (banks : s.sched.lengthsUsable) (bare : usableLength s.cycle.bareLength = true)
    (length : usableLength now.length = true) : (beginCycle now s).cycle.lengthsUsable := by
  have switched := bankLengthsLaw.beginCycle now banks
  have bare' : usableLength (beginCycle now s).cycle.bareLength = true := by
    rwa [(beginCycle_only now s).2.2.2.2.2.2.1]
  refine ⟨bare', ?_⟩
  simp only [beginCycle_now, Option.toList_some, List.mem_singleton, forall_eq]
  split
  · exact State.activeLength_usable bare' switched.1
  · exact length

theorem Missed.usable {c : CycleNow} (m : Missed c s u) (h : s.cycle.lengthsUsable) (now : s.cycle.now = some c) :
    u.cycle.lengthsUsable := by
  cases m with
  | counted => exact h
  | lost => exact h.keeps (by simp) (by simp)
  | tookOver =>
    refine h.keeps (by simp [CycleUnit.leads]) (fun n hn => .inl ?_)
    simp only [takeOver_only] at hn
    rw [now, hn]

/-- R24: the length adopted from a frame is usable. -/
theorem Heard.usable {stamp : Word} (e : Heard stamp s u) (h : s.cycle.lengthsUsable) : u.cycle.lengthsUsable := by
  cases e with
  | noted i => rwa [i.cycle_eq]
  | segment f i => rwa [(receiveSegment_only _ _ _).2.1, i.cycle_eq]
  | missed i _ now m => exact m.usable (by rwa [i.cycle_eq]) (by rw [i.cycle_eq, now])
  | accepted i _ _ usable =>
    rw [← i.cycle_eq] at h
    refine h.keeps (by simp [acceptFrame, CycleUnit.accepts]) (fun n hn => .inr ?_)
    simp only [acceptFrame, acceptFields_only, CycleUnit.accepts, Option.some.injEq] at hn
    rw [← hn]
    exact usable
  | jumped _ i => exact h.keeps (by simp [jump, i.cycle_eq]) (by simp [jump])
  | yielded i => exact h.keeps (by simp [yieldTo, i.cycle_eq]) (by simp [yieldTo])
  | claimed i => exact h.keeps (by simp [i.cycle_eq]) (fun n hn => .inl (by simpa [i.cycle_eq] using hn))
  | conflicted i => exact h.keeps (by simp [i.cycle_eq]) (fun n hn => .inl (by simpa [i.cycle_eq] using hn))
  | candidate i => exact h.keeps (by simp [i.cycle_eq]) (fun n hn => .inl (by simpa [i.cycle_eq] using hn))
  | locked i _ _ usable =>
    refine h.keeps (by simp [lockOn, endWalk, CycleUnit.lockedOn, i.cycle_eq]) (fun n hn => .inr ?_)
    simp [lockOn, signalCycleStart_cycle, endWalk, CycleUnit.lockedOn] at hn
    rw [← hn]
    exact usable

theorem setCycleRequest_usable (body : List Byte) (h : s.cycle.lengthsUsable) :
    (setCycleRequest body s).2.cycle.lengthsUsable := by
  unfold setCycleRequest
  split
  · next usable => exact ⟨usable, h.2⟩
  · exact h

theorem handler_usable {c : Instr} {run : Handler} (handler : requestHandler c = some run) (body : List Byte)
    (h : s.cycle.lengthsUsable) : (run body s).2.cycle.lengthsUsable := by
  by_cases node : c = .resetNode
  · subst node
    cases handler
    exact ⟨rfl, nofun⟩
  by_cases cycle : c = .setCycle
  · subst cycle
    cases handler
    exact setCycleRequest_usable body h
  · refine h.keeps ((handler_configKept handler node body s).2.1 cycle) (fun n hn => .inl ?_)
    obtain same | none := handler_now handler body s
    · rw [← same, hn]
    · rw [none] at hn
      cases hn

/-- R23, R24: every command keeps the bare length and the length in use usable. -/
theorem Effect.usable {c : Instr} (e : Effect s c u) (banks : s.sched.lengthsUsable) (h : s.cycle.lengthsUsable) :
    u.cycle.lengthsUsable := by
  cases e with
  | handled _ handler => exact handler_usable (s := s) handler _ h
  | poweredOn => exact ⟨rfl, nofun⟩
  | claimed =>
    exact beginCycle_usable _ (by simpa using banks) (by simpa [CycleUnit.leads] using h.1)
      (State.activeLength_usable h.1 banks.1)
  | @cycleBegun _ now _ current =>
    have length : usableLength now.length = true := h.2 now (by simp [(State.current_some.1 current).2])
    exact beginCycle_usable (s := keepLate now s) now.following banks h.1 length
  | frameHeard => exact (handFrame_heard _ _ (heard (s.atInstant _))).usable h
  | windowClosed _ pending =>
    exact (missCycleStart_missed _ (settleWindow (s.atInstant _))).usable h (pendingWindow_following pending).2
  | slotEnded =>
    rw [handSlotEnd, (channelSlotEnd_only _ _ _ _ _ _).2.1]
    simpa using h
  | _ => simpa using h

end

/-- What O13 speaks of: the counters of both units, the lengths of the cycle unit and of the banks. -/
structure RangesHold (s : State) : Prop where
  trunk : s.trunk.countsBounded
  receive : s.rx.countsBounded
  cycle : s.cycle.lengthsUsable
  banks : s.sched.lengthsUsable

theorem rangesHold_iff (s : State) : RangesHold s ↔ countersSound s ∧ lengthsUsable s := by
  rw [lengthsUsable_iff]
  exact ⟨fun ⟨⟨crc, malformed, wrongSlot, stray, disturbed⟩, ⟨orphan, duplicate⟩, ⟨bare, now⟩, banks⟩ =>
      ⟨⟨crc, malformed, wrongSlot, stray, disturbed, orphan, duplicate⟩, bare, now, banks⟩,
    fun ⟨⟨crc, malformed, wrongSlot, stray, disturbed, orphan, duplicate⟩, bare, now, banks⟩ =>
      ⟨⟨crc, malformed, wrongSlot, stray, disturbed⟩, ⟨orphan, duplicate⟩, ⟨bare, now⟩, banks⟩⟩

/-- Settles O13. -/
theorem countersAndLengthsStayInRange : Obligations.CountersAndLengthsStayInRange := by
  intro s t counters lengths runs
  rw [← rangesHold_iff]
  refine step_keeps (P := RangesHold) (fun _ _ h => ⟨h.trunk, h.receive, h.cycle, h.banks⟩)
    (fun _ h => ⟨h.trunk, h.receive, h.cycle, h.banks⟩) (fun _ s u h e => ?_) ((rangesHold_iff s).2 ⟨counters, lengths⟩) runs
  have receive : u.rx.countsBounded := receiveCountsLaw.effect e h.receive
  have banks : u.sched.lengthsUsable := bankLengthsLaw.effect e h.banks
  exact ⟨e.countsBounded h.trunk, receive, e.usable h.banks h.cycle, banks⟩

end Sys2Proof.Machine
end

section
/-! PROOFS. R157 to R168: the receiver, the request buffer and the outbound side stay sound. Settles O11. -/

namespace Sys2Proof.Machine

set_option Elab.async false

/-! ### Soundness by name -/

/-- What `HostLink.sound` says, each law under a name. -/
structure HostLink.Laws (l : HostLink) : Prop where
  inbound : inboundSound l.rx
  buffer : bufferSound l.buffer
  outbound : frameAnswers l.outbound l.buffer
  held : frameAnswers l.held l.buffer
  onlyOne : l.outbound.isSome → l.held = none
  holdsInSpi : l.held.isSome → l.spi
  selInSpi : l.sel → l.spi
  breakInUart : l.breakLow → ¬ l.spi
  breakHunts : l.breakLow → l.rx = []

theorem HostLink.sound_iff (l : HostLink) : l.sound ↔ l.Laws :=
  ⟨fun ⟨inbound, buffer, outbound, held, onlyOne, holdsInSpi, selInSpi, breakInUart, breakHunts⟩ =>
    ⟨inbound, buffer, outbound, held, onlyOne, holdsInSpi, selInSpi, breakInUart, breakHunts⟩,
   fun h => ⟨h.inbound, h.buffer, h.outbound, h.held, h.onlyOne, h.holdsInSpi, h.selInSpi, h.breakInUart, h.breakHunts⟩⟩

theorem bufferSound_nil : bufferSound [] := ⟨Nat.zero_le _, .nil, nofun, .nil⟩

theorem HostLink.powerOn_laws (straps : Straps) : (HostLink.powerOn straps).Laws :=
  ⟨.inl rfl, bufferSound_nil, nofun, nofun, nofun, nofun, nofun, nofun, nofun⟩

/-! ### The request buffer -/

section
variable {buffer : List Request} {f : Option OutFrame}

theorem frameAnswers_none (buffer : List Request) : frameAnswers none buffer := nofun

/-- R163: the reply that a frame carries stays there while its entry does. -/
theorem frameAnswers.mono {buffer' : List Request} (h : frameAnswers f buffer)
    (kept : ∀ q ∈ buffer, q.reply.isSome → ∃ q' ∈ buffer', q'.tag = q.tag ∧ q'.reply.isSome) :
    frameAnswers f buffer' := by
  intro tag mem
  obtain ⟨q, hq, rfl, taken⟩ := h tag mem
  exact kept q hq taken

/-- R161: a request with a free tag joins a buffer that has room. -/
theorem bufferSound.accept (h : bufferSound buffer) {tag : Byte} (nonzero : tag ≠ 0) (free : ∀ q ∈ buffer, q.tag ≠ tag)
    (room : buffer.length < Config.bufferSize) (code : Byte) (body : List Byte) :
    bufferSound (buffer ++ [{ tag := tag, code := code, body := body, reply := none }]) := by
  obtain ⟨-, tags, nonzeros, taken⟩ := h
  refine ⟨by simpa using room, ?_, ?_, ?_⟩
  · rw [List.map_append, List.nodup_append]
    refine ⟨tags, by simp, ?_⟩
    simp only [List.mem_map, forall_exists_index, and_imp, List.map_cons, List.map_nil, List.mem_singleton]
    rintro _ q hq rfl _ rfl
    exact free q hq
  · simp only [List.mem_append, List.mem_singleton]
    rintro q (hq | rfl)
    · exact nonzeros q hq
    · exact nonzero
  · rw [List.pairwise_append]
    exact ⟨taken, by simp, by simp⟩

theorem frameAnswers.accept (h : frameAnswers f buffer) (q : Request) : frameAnswers f (buffer ++ [q]) :=
  h.mono fun p hp taken => ⟨p, List.mem_append_left _ hp, rfl, taken⟩

/-- R162: the reply joins the oldest ACCEPTED entry, behind the TAKEN ones. -/
theorem answerOldest_cases (r : Reply) (buffer : List Request) :
    answerOldest r buffer = buffer ∨ ∃ before q after, buffer = before ++ q :: after ∧ (∀ p ∈ before, p.reply.isSome) ∧
      q.reply = none ∧ answerOldest r buffer = before ++ { q with reply := some r } :: after := by
  cases oldest : oldestAccepted buffer with
  | none =>
    refine .inl ?_
    have taken : ∀ q ∈ buffer, q.reply.isSome := by simpa [oldestAccepted, Option.isSome_iff_ne_none] using oldest
    clear oldest
    induction buffer with
    | nil => rfl
    | cons q rest ih =>
      have first := taken q (List.mem_cons_self ..)
      rw [answerOldest, if_neg (by simpa [Option.isSome_iff_ne_none] using first),
        ih (fun p hp => taken p (List.mem_cons_of_mem _ hp))]
  | some q =>
    obtain ⟨before, after, rfl, taken, accepted⟩ := oldestAccepted_eq_some oldest
    exact .inr ⟨before, q, after, rfl, taken, accepted, answerOldest_append r taken accepted after⟩

theorem bufferSound.answer (h : bufferSound buffer) (r : Reply) : bufferSound (answerOldest r buffer) := by
  obtain eq | ⟨before, q, after, rfl, taken, -, eq⟩ := answerOldest_cases r buffer
  · rwa [eq]
  · rw [eq]
    obtain ⟨length, tags, nonzeros, order⟩ := h
    refine ⟨by simpa using length, by simpa using tags, ?_, ?_⟩
    · intro p hp
      obtain hp | rfl | hp := by simpa using hp
      · exact nonzeros p (by simp [hp])
      · exact nonzeros q (by simp)
      · exact nonzeros p (by simp [hp])
    · rw [List.pairwise_append, List.pairwise_cons] at order ⊢
      obtain ⟨front, ⟨-, back⟩, -⟩ := order
      exact ⟨front, ⟨fun _ _ _ => rfl, back⟩, fun p hp _ _ _ => taken p hp⟩

theorem frameAnswers.answer (h : frameAnswers f buffer) (r : Reply) : frameAnswers f (answerOldest r buffer) := by
  obtain eq | ⟨before, q, after, rfl, taken, -, eq⟩ := answerOldest_cases r buffer
  · rwa [eq]
  · rw [eq]
    refine h.mono fun p hp answered => ?_
    obtain hp | rfl | hp := by simpa using hp
    · exact ⟨p, by simp [hp], rfl, answered⟩
    · exact ⟨{ p with reply := some r }, by simp, rfl, rfl⟩
    · exact ⟨p, by simp [hp], rfl, answered⟩

theorem bufferSound.remove (h : bufferSound buffer) (tag : Byte) :
    bufferSound (buffer.filter (fun q => q.tag != tag)) := by
  obtain ⟨length, tags, nonzeros, order⟩ := h
  exact ⟨Nat.le_trans (List.length_filter_le _ _) length, tags.sublist (List.filter_sublist.map _),
    fun q hq => nonzeros q (List.mem_of_mem_filter hq), order.filter _⟩

/-- R164: the oldest reply that waits is that of a TAKEN entry. -/
theorem oldestReply_some {l : HostLink} {tag : Byte} {r : Reply} (h : oldestReply l = some (tag, r)) :
    ∃ q ∈ l.buffer, q.tag = tag ∧ q.reply = some r := by
  obtain ⟨q, hq, found⟩ := List.exists_of_findSome?_eq_some h
  split at found
  · obtain ⟨r', reply, pair⟩ := Option.map_eq_some_iff.1 found
    cases pair
    exact ⟨q, hq, rfl, reply⟩
  · cases found

end

/-! ### The operations of the link -/

section
variable {l : HostLink} {s u : State}

theorem HostLink.Laws.hunts (h : l.Laws) : ({ l with rx := [] } : HostLink).Laws :=
  { h with inbound := .inl rfl, breakHunts := fun _ => rfl }

theorem HostLink.Laws.receives {frame : List Byte} (h : l.Laws) (high : l.breakLow = false) (inbound : inboundSound frame) :
    ({ l with rx := frame } : HostLink).Laws :=
  { h with inbound := inbound, breakHunts := fun low => absurd low (by simp [high]) }

theorem HostLink.Laws.clears (h : l.Laws) :
    ({ l with buffer := [], outbound := none, held := none } : HostLink).Laws :=
  { h with buffer := bufferSound_nil, outbound := nofun, held := nofun, onlyOne := nofun, holdsInSpi := nofun }

theorem HostLink.Laws.answers (h : l.Laws) (r : Reply) : ({ l with buffer := answerOldest r l.buffer } : HostLink).Laws :=
  { h with buffer := h.buffer.answer r, outbound := h.outbound.answer r, held := h.held.answer r }

/-- R161: acceptance refuses a request with LINK_ERROR, or adds it to a sound buffer. -/
theorem considerRequest_laws (tag code : Byte) (body : List Byte) (h : s.link.Laws) :
    (considerRequest tag code body s).link.Laws := by
  unfold considerRequest
  split_ifs with zero inUse full
  · simpa using h
  · simpa using h
  · simpa using h
  · have free : ∀ q ∈ s.link.buffer, q.tag ≠ tag := by simpa using inUse
    exact { h with
      buffer := h.buffer.accept zero free (Nat.lt_of_not_le full) code body
      outbound := h.outbound.accept _
      held := h.held.accept _ }

theorem linkReset_laws (h : s.link.Laws) : (linkReset s).link.Laws ∧ (linkReset s).link.rx = [] := by
  unfold linkReset discardInbound
  split
  · next empty => exact ⟨h.clears, by simpa using empty⟩
  · have hunts : (linkError .truncated none (s.withLink { s.link with rx := [] })).link.Laws := by simpa using h.hunts
    exact ⟨hunts.clears, by simp⟩

theorem judgeHostFrame_laws (frame : List Byte) (h : s.link.Laws) : (judgeHostFrame frame s).link.Laws := by
  unfold judgeHostFrame
  split_ifs
  · simpa using h
  · simpa using h
  · exact considerRequest_laws _ _ _ h
  · simpa using h
  · exact (linkReset_laws h).1
  · simpa using h

/-- R160: a byte joins an inbound frame that opens with the sync byte. -/
theorem inboundByte_laws {frame : List Byte} (h : s.link.Laws) (high : s.link.breakLow = false)
    (sync : byteAt frame 0 = 0xA5) : (inboundByte frame s).link.Laws := by
  unfold inboundByte
  split_ifs with short range ragged
  · exact h.receives high (.inr ⟨sync, .inl short⟩)
  · have hunts : (hunt s).link.Laws := h.hunts
    simpa using hunts
  · simp only [Bool.or_eq_true, decide_eq_true_eq, not_or, not_lt] at range
    exact h.receives high (.inr ⟨sync, .inr ⟨Nat.one_le_iff_ne_zero.2 range.1, range.2, ragged⟩⟩)
  · exact judgeHostFrame_laws _ h.hunts

theorem receiveByte_laws (b : Byte) (h : s.link.Laws) : (receiveByte s b).link.Laws := by
  unfold receiveByte
  split_ifs with low passed
  · exact h
  · exact h
  · refine inboundByte_laws h (by simpa using low) ?_
    obtain empty | ⟨sync, -⟩ := h.inbound
    · rw [empty] at passed ⊢
      simpa [byteAt] using passed
    · cases rx : s.link.rx with
      | nil =>
        rw [rx] at sync
        cases sync
      | cons a rest =>
        rw [rx] at sync
        exact sync

theorem foldl_receiveByte_laws (bytes : List Byte) (h : s.link.Laws) : (bytes.foldl receiveByte s).link.Laws := by
  induction bytes generalizing s with
  | nil => exact h
  | cons b rest ih => exact ih (receiveByte_laws b h)

theorem inTransaction_laws (h : s.link.Laws) : (inTransaction s).link.Laws :=
  { h with selInSpi := fun sel => (Bool.or_eq_true _ _ ▸ sel).elim h.selInSpi id }

theorem giveUpInbound_laws (h : s.link.Laws) : (giveUpInbound s).link.Laws := by
  unfold giveUpInbound
  split
  · exact h
  · have hunts : (hunt s).link.Laws := h.hunts
    simpa using hunts

theorem holdOutbound_laws (h : s.link.Laws) (spi : s.link.spi = true) : (holdOutbound s).link.Laws := by
  unfold holdOutbound
  split
  · next f outbound =>
    exact { h with
      outbound := nofun
      held := outbound ▸ h.outbound
      onlyOne := nofun
      holdsInSpi := fun _ => spi }
  · exact h

theorem dropSel_laws (h : s.link.Laws) : (dropSel s).link.Laws := { h with selInSpi := nofun }

/-- R164: the frame that is begun is the held one, or the reply of a TAKEN entry, or a notice. -/
theorem selectFrame_laws (h : s.link.Laws) : (selectFrame s).link.Laws := by
  have begun {f : OutFrame} (answers : frameAnswers (some f) s.link.buffer) :
      ({ s.link with outbound := some f, held := none } : HostLink).Laws :=
    { h with outbound := answers, held := nofun, onlyOne := fun _ => rfl, holdsInSpi := nofun }
  unfold selectFrame
  split
  · next f held => exact begun (held ▸ h.held)
  · next tag r _ oldest =>
    refine begun fun tag' mem => ?_
    obtain ⟨q, hq, named, reply⟩ := oldestReply_some oldest
    obtain rfl : tag' = tag := by simpa [OutFrame.replyTag] using mem
    exact ⟨q, hq, named, by simp [reply]⟩
  · exact begun (by simp [frameAnswers, OutFrame.replyTag])
  · exact h

/-- R163: with the end of a reply its entry leaves the buffer; no frame is held meanwhile. -/
theorem removeEntry_laws {tag : Byte} (h : s.link.Laws) (sent : s.link.outbound.bind OutFrame.replyTag = some tag) :
    (removeEntry tag s).link.Laws := by
  have held : s.link.held = none := h.onlyOne (by
    cases outbound : s.link.outbound with
    | none => simp [outbound] at sent
    | some f => rfl)
  exact { h with
    buffer := h.buffer.remove tag
    outbound := nofun
    held := by
      show frameAnswers s.link.held _
      rw [held]
      exact frameAnswers_none _
    onlyOne := nofun }

/-- R157 to R168: every command keeps the host link sound. -/
theorem Effect.linkLaws {c : Instr} (e : Effect s c u) (h : s.link.Laws) : u.link.Laws := by
  by_cases trunk : onTrunk c = true
  · rwa [(e.hostSideKept trunk).1]
  · cases e with
    | handled _ handler =>
      rw [State.answer, (handler_linkKept handler _ s).1]
      exact h.answers _
    | wrongLength => exact h.answers _
    | unknownCode => exact h.answers _
    | bytesReceived bytes => exact foldl_receiveByte_laws bytes (inTransaction_laws h)
    | broke uart =>
      obtain ⟨laws, empty⟩ := linkReset_laws h
      have straps : (linkReset s).link.spi = s.link.spi := by simp [HostLink.spi]
      exact { laws with
        breakInUart := fun _ => by
          show ¬ (linkReset s).link.spi = true
          rw [straps, uart]
          nofun
        breakHunts := fun _ => empty }
    | breakEnded => exact { h with breakInUart := nofun, breakHunts := nofun }
    | cutShort => exact giveUpInbound_laws h
    | selNegated spi =>
      exact dropSel_laws (holdOutbound_laws (giveUpInbound_laws h) (by simpa [HostLink.spi] using spi))
    | selected => exact selectFrame_laws (inTransaction_laws h)
    | replySent sent => exact removeEntry_laws h sent
    | noticeSent => exact { h with outbound := nofun, onlyOne := nofun }
    | poweredOn => exact HostLink.powerOn_laws _
    | slotEnded ends => exact absurd (slotEnd_onTrunk ends) trunk
    | cycleBegun begins => exact absurd (cycleStart_onTrunk begins) trunk
    | frameHeard received => exact absurd (receivedFrame_onTrunk received) trunk
    | windowClosed closes => exact absurd (windowClose_onTrunk closes) trunk
    | segmentDisturbed disturbs => exact absurd (disturbance_onTrunk disturbs) trunk
    | _ => exact absurd rfl trunk

end

/-- Settles O11. -/
theorem hostLinkStaysSound : Obligations.HostLinkStaysSound := by
  intro s t h runs
  rw [HostLink.sound_iff] at h ⊢
  exact step_keeps (P := fun s => s.link.Laws) (fun _ _ h => h) (fun _ h => h)
    (fun _ _ _ h e => { e.linkLaws h with }) h runs

end Sys2Proof.Machine
end

section
/-! PROOFS. 10.1: fields of two and four bytes and the bytes they are spelled with. -/

namespace Sys2Proof.Machine

set_option Elab.async false

/-- The two bytes of a field, put together again. -/
theorem half_of_bytes (h : Half) : (h.extractLsb' 8 8 ++ h.extractLsb' 0 8 : Half) = h :=
  BitVec.extractLsb'_append_extractLsb' (w := 8) (len := 8)

/-- The bytes of a field that two bytes make. -/
theorem halfBytes_append (a b : Byte) : halfBytes (a ++ b) = [a, b] := by
  have high : (a ++ b : BitVec (8 + 8)).extractLsb' 8 8 = a := by
    rw [BitVec.extractLsb'_append_eq_of_le (by decide)]
    exact BitVec.extractLsb'_eq_self
  have low : (a ++ b : BitVec (8 + 8)).extractLsb' 0 8 = b := by
    rw [BitVec.extractLsb'_append_eq_of_add_le (by decide)]
    exact BitVec.extractLsb'_eq_self
  exact congrArg₂ (fun x y => [x, y]) high low

theorem halfBytesOf_length (n : Nat) : (halfBytesOf n).length = 2 := rfl

/-- The four bytes of a field, put together again. -/
theorem word_of_bytes (w : Word) :
    ((w.extractLsb' 24 8 ++ w.extractLsb' 16 8 : Half) ++ (w.extractLsb' 8 8 ++ w.extractLsb' 0 8 : Half) : Word) = w := by
  have high : (w.extractLsb' 24 8 ++ w.extractLsb' 16 8 : Half) = w.extractLsb' 16 16 :=
    BitVec.extractLsb'_append_extractLsb'_eq_extractLsb' rfl
  have low : (w.extractLsb' 8 8 ++ w.extractLsb' 0 8 : Half) = w.extractLsb' 0 16 :=
    BitVec.extractLsb'_append_extractLsb'_eq_extractLsb' rfl
  rw [high, low]
  exact BitVec.extractLsb'_append_extractLsb' (w := 16) (len := 16)

/-- The four bytes of a field are those of its two halves. -/
theorem wordBytes_append (a b : Half) : wordBytes (a ++ b) = halfBytes a ++ halfBytes b := by
  have a1 : (a ++ b : BitVec (16 + 16)).extractLsb' 24 8 = a.extractLsb' 8 8 :=
    BitVec.extractLsb'_append_eq_of_le (by decide)
  have a0 : (a ++ b : BitVec (16 + 16)).extractLsb' 16 8 = a.extractLsb' 0 8 :=
    BitVec.extractLsb'_append_eq_of_le (by decide)
  have b1 : (a ++ b : BitVec (16 + 16)).extractLsb' 8 8 = b.extractLsb' 8 8 :=
    BitVec.extractLsb'_append_eq_of_add_le (by decide)
  have b0 : (a ++ b : BitVec (16 + 16)).extractLsb' 0 8 = b.extractLsb' 0 8 :=
    BitVec.extractLsb'_append_eq_of_add_le (by decide)
  show [_, _, _, _] = [_, _, _, _]
  rw [a1, a0, b1, b0]

/-- The bytes of a field that four bytes make. -/
theorem wordBytes_of_bytes (a b c d : Byte) : wordBytes ((a ++ b : Half) ++ (c ++ d : Half)) = [a, b, c, d] := by
  rw [wordBytes_append, halfBytes_append, halfBytes_append]
  rfl

theorem byteOf_toNat (b : Byte) : byteOf b.toNat = b := by
  simp [byteOf]

theorem toNat_byteOf {n : Nat} (h : n < 256) : (byteOf n).toNat = n := Nat.mod_eq_of_lt h

theorem toNat_ofNat_half {n : Nat} (h : n < 65536) : (BitVec.ofNat 16 n).toNat = n := Nat.mod_eq_of_lt h

end Sys2Proof.Machine
end

section
/-! PROOFS. The resets and the requests of the cycle unit: what POWER_ON_RESET, RESET_NODE, SET_CYCLE, GO_ONLINE, GO_OFFLINE,
READ_SYNC and READ_COUNTS leave and reply. Settles O4, O33, O34, O35. -/

namespace Sys2Proof.Machine

set_option Elab.async false

/-- A request that is taken is answered as its handler computes. -/
theorem request_replied {code : Byte} {body : List Byte} {run : Handler} {s : State} {p : Reply × State}
    (h : s.takes code body) (allowed : (bodyShape code).any (fun shape => shape.allows body) = true)
    (eq : run body s = p) : takeRequest code run s = replied p.1 p.2 := by
  rw [takeRequest_takes h allowed, eq]

/-! ### Resets -/

theorem State.powerOn_ranges (straps : Straps) : RangesHold (State.powerOn straps) where
  trunk := TrunkInterface.reset_countsBounded
  receive := ⟨Nat.zero_le _, Nat.zero_le _⟩
  cycle := ⟨rfl, nofun⟩
  banks := ⟨nofun, nofun⟩

theorem State.powerOn_trunkSound (straps : Straps) : (State.powerOn straps).trunkSound :=
  ⟨TrunkInterface.reset_sound, fun _ => TrunkInterface.reset_walksNothing⟩

/-- R155, R166: after a reset a notice waits, and ATTN is asserted for it. -/
theorem State.powerOn_attnRight (straps : Straps) : attnRight (State.powerOn straps) := rfl

theorem State.powerOn_sound (straps : Straps) : (State.powerOn straps).sound := by
  obtain ⟨counters, lengths⟩ := (rangesHold_iff _).1 (State.powerOn_ranges straps)
  exact ⟨(CycleUnit.sound_iff _).2 CycleUnit.reset_laws, ScheduleUnit.reset_sound, channelsSound_unbound,
    TransmitUnit.reset_sound, ReceiveUnit.reset_sound, NoticeUnit.reset_sound _,
    (HostLink.sound_iff _).2 (HostLink.powerOn_laws straps), State.powerOn_trunkSound straps, counters, lengths,
    State.powerOn_attnRight straps⟩

/-- Settles O4. -/
theorem powerOnResetIsSound : Obligations.PowerOnResetIsSound :=
  fun _ _ _ _ => ⟨rfl, State.powerOn_sound _⟩

/-- Settles O34: at once, or from the end of the frame that is being sent. -/
theorem resetNodeResult : Obligations.ResetNodeResult := by
  intro s h
  show takeRequest 0x06 resetNodeRequest s = _
  rw [takeRequest_takes h rfl]
  by_cases busy : s.trunk.busy = true
  · rw [if_pos busy]
    simp only [resetNodeRequest, nodeReset, nodeResetTrunk, if_pos busy]
    rfl
  · rw [if_neg busy]
    simp only [resetNodeRequest, nodeReset, nodeResetTrunk, if_neg busy]
    rfl

/-! ### The operating state -/

theorem usableLength_iff (n : Nat) : usableLength n = true ↔ 250 ≤ n ∧ n ≤ 25000 := by
  rw [usableLength, Bool.and_eq_true, decide_eq_true_iff, decide_eq_true_iff]
  rfl

theorem setCycleRequest_eq (b0 b1 : Byte) (s : State) :
    setCycleRequest [b0, b1] s =
      if 250 ≤ (b0 ++ b1).toNat ∧ (b0 ++ b1).toNat ≤ 25000 then
        (⟨.ok, []⟩, { s with cycle := { s.cycle with bareLength := (b0 ++ b1).toNat } })
      else (⟨.badValue, []⟩, s) := by
  have length : (halfAt [b0, b1] 0).toNat = (b0 ++ b1).toNat := rfl
  unfold setCycleRequest
  rw [length]
  by_cases usable : usableLength (b0 ++ b1).toNat = true
  · rw [if_pos usable, if_pos ((usableLength_iff _).1 usable)]
    rfl
  · rw [if_neg usable, if_neg (fun h => usable ((usableLength_iff _).2 h))]
    rfl

theorem goOnlineRequest_eq (s : State) :
    goOnlineRequest [] s =
      if s.cycle.timing ≠ .offline ∨ s.cycle.address = 0 then (⟨.wrongState, []⟩, s)
      else (⟨.ok, []⟩, { s with
        trunk := { s.trunk with hearsFrom := some s.trunk.lineClock },
        cycle := match s.cycle.role with
          | .member => { s.cycle with timing := .hunting, run := none, missCount := 0, listenOnly := false }
          | .master => { s.cycle with timing := .claiming, missCount := 0, listenOnly := false,
                                      claim := some { opened := s.trunk.lineClock, lastHigher := none } } }) := by
  have refused : (s.online || decide (s.cycle.address = 0)) = true ↔ s.cycle.timing ≠ .offline ∨ s.cycle.address = 0 := by
    rw [Bool.or_eq_true, State.online_iff, decide_eq_true_iff]
  unfold goOnlineRequest
  by_cases h : s.cycle.timing ≠ .offline ∨ s.cycle.address = 0
  · rw [if_pos h, if_pos (refused.2 h)]
    rfl
  · rw [if_neg h, if_neg (fun r => h (refused.1 r))]
    rfl

theorem goOfflineRequest_eq (s : State) :
    goOfflineRequest [] s = (⟨.ok, []⟩,
      if s.cycle.timing = .offline then s
      else if s.trunk.busy = true ∧ s.trunk.deferred = none then
        depart .offline [] none { s with trunk := { s.trunk with deferred := some .offline } }
      else depart .offline [] none s) := by
  have deferred : deferOffline s = if s.trunk.busy = true ∧ s.trunk.deferred = none then
      { s with trunk := { s.trunk with deferred := some .offline } } else s := by
    simp [deferOffline]
  unfold goOfflineRequest
  rw [deferred]
  by_cases offline : s.cycle.timing = .offline
  · simp [State.online, offline, Reply.okWith]
  · simp only [(State.online_iff s).2 offline, if_pos, if_neg offline]
    split <;> rfl

/-- Settles O33. -/
theorem onlineRequestsResult : Obligations.OnlineRequestsResult := by
  intro s
  refine ⟨fun b0 b1 h => ?_, fun h => ?_, fun h => ?_⟩
  · refine (request_replied h rfl (setCycleRequest_eq b0 b1 s)).trans ?_
    split <;> rfl
  · refine (request_replied h rfl (goOnlineRequest_eq s)).trans ?_
    split <;> rfl
  · refine (request_replied h rfl (goOfflineRequest_eq s)).trans ?_
    split_ifs <;> rfl

/-! ### The readings of the cycle unit -/

theorem readSyncRequest_eq (s : State) :
    readSyncRequest [] s = (⟨.ok,
      [s.cycle.timing.code] ++ optionBytes 4 (s.current.map (fun c => wordBytes c.number)) ++
      halfBytesOf (match s.current with
        | some c => c.length
        | none => s.cycle.bareLength) ++
      [s.cycle.lastMaster, BitVec.ofInt 8 s.cycle.phaseError, byteOf s.cycle.missCount, flagByte s.cycle.listenOnly] ++
      halfBytes s.sched.active.epoch ++ [s.sched.staged.state.code]⟩, s) := by
  unfold readSyncRequest State.cycleNumber State.reportedLength signedByte
  cases s.current <;> rfl

theorem readCountsRequest_eq (clear : Byte) (s : State) :
    readCountsRequest [clear] s =
      if 1 < clear.toNat then (⟨.badValue, []⟩, s)
      else (⟨.ok, counterBytes s⟩, if clear = 1 then clearCounters s else s) := by
  have first : byteAt [clear] 0 = clear := rfl
  unfold readCountsRequest
  rw [first]
  by_cases zero : clear = 0
  · subst zero
    rfl
  by_cases one : clear = 1
  · subst one
    rfl
  · have above : 1 < clear.toNat := by bv_omega
    rw [if_neg zero, if_neg one, if_pos above]
    rfl

/-- Settles O35. -/
theorem readSyncAndCountsResult : Obligations.ReadSyncAndCountsResult := by
  intro s
  refine ⟨fun h => ?_, fun clear h => ?_⟩
  · exact request_replied h rfl (readSyncRequest_eq s)
  · refine (request_replied h rfl (readCountsRequest_eq clear s)).trans ?_
    split
    · rfl
    · split <;> rfl

end Sys2Proof.Machine
end

section
/-! PROOFS. The requests of the schedule unit: STAGE_BEGIN, STAGE_ADD, STAGE_REMOVE, STAGE_CLOSE, STAGE_DISCARD,
READ_SCHEDULE, COMMIT and CANCEL. Settles O36, O37, O38, O39. -/

namespace Sys2Proof.Machine

set_option Elab.async false

/-! ### STAGE_BEGIN, STAGE_DISCARD and READ_SCHEDULE -/

theorem stageBeginRequest_eq (b0 b1 : Byte) (s : State) :
    stageBeginRequest [b0, b1] s =
      if s.sched.staged.state = .armed then (⟨.stageArmed, []⟩, s)
      else if 250 ≤ (b0 ++ b1).toNat ∧ (b0 ++ b1).toNat ≤ 25000 then
        (⟨.ok, []⟩, { s with sched := { s.sched with staged := .editing (b0 ++ b1).toNat [], adoption := false } })
      else (⟨.badValue, []⟩, s) := by
  have unarmed : (if (!usableLength (halfAt [b0, b1] 0).toNat) = true then (Reply.refuse .badValue [], s) else
      (Reply.okWith [], { s with sched := { s.sched with
        staged := .editing (halfAt [b0, b1] 0).toNat [], adoption := false } })) =
      if 250 ≤ (b0 ++ b1).toNat ∧ (b0 ++ b1).toNat ≤ 25000 then
        (⟨.ok, []⟩, { s with sched := { s.sched with staged := .editing (b0 ++ b1).toNat [], adoption := false } })
      else (⟨.badValue, []⟩, s) := by
    have length : (halfAt [b0, b1] 0).toNat = (b0 ++ b1).toNat := rfl
    rw [length]
    by_cases usable : usableLength (b0 ++ b1).toNat = true
    · rw [if_neg (by simp [usable]), if_pos ((usableLength_iff _).1 usable)]
      rfl
    · rw [if_pos (by simp [usable]), if_neg (fun h => usable ((usableLength_iff _).2 h))]
      rfl
  unfold stageBeginRequest
  cases staged : s.sched.staged with
  | armed => rfl
  | empty => exact unarmed
  | editing => exact unarmed
  | closed => exact unarmed

theorem stageDiscardRequest_eq (s : State) :
    stageDiscardRequest [] s =
      if s.sched.staged.state = .armed then (⟨.stageArmed, []⟩, s)
      else (⟨.ok, []⟩, { s with sched := { s.sched with staged := .empty, adoption := false } }) := by
  unfold stageDiscardRequest
  cases staged : s.sched.staged <;> rfl

theorem readScheduleRequest_eq (bank first count : Byte) (s : State) :
    readScheduleRequest [bank, first, count] s =
      if 63 < first.toNat ∨ count.toNat < 1 ∨ 16 < count.toNat ∨ (bank ≠ 1 ∧ bank ≠ 2) then (⟨.badValue, []⟩, s)
      else if bank = 1 then (⟨.ok, scheduleReply 1 4 (some s.sched.active.epoch) (some s.activeLength) none
        s.sched.active.entries first.toNat count.toNat⟩, s)
      else (⟨.ok, stagedReply s.sched.staged first.toNat count.toNat⟩, s) := by
  have fields : byteAt [bank, first, count] 0 = bank ∧ byteAt [bank, first, count] 1 = first ∧
      byteAt [bank, first, count] 2 = count := ⟨rfl, rfl, rfl⟩
  unfold readScheduleRequest
  rw [fields.1, fields.2.1, fields.2.2]
  dsimp only
  by_cases range : 63 < first.toNat ∨ count.toNat < 1 ∨ 16 < count.toNat
  · rw [if_pos (by simpa [or_assoc] using range), if_pos (by tauto)]
    rfl
  · rw [if_neg (by simpa [or_assoc] using range)]
    by_cases active : bank = 1
    · rw [if_pos active, if_neg (by tauto), if_pos active]
      rfl
    · rw [if_neg active]
      by_cases staged : bank = 2
      · rw [if_pos staged, if_neg (by tauto), if_neg active]
        rfl
      · rw [if_neg staged, if_pos (by tauto)]
        rfl

/-- Settles O36. -/
theorem stageBeginDiscardReadResult : Obligations.StageBeginDiscardReadResult := by
  refine ⟨fun s => ⟨fun b0 b1 h => ?_, fun h => ?_⟩, fun bank first count s h => ?_⟩
  · refine (request_replied h rfl (stageBeginRequest_eq b0 b1 s)).trans ?_
    split_ifs <;> rfl
  · refine (request_replied h rfl (stageDiscardRequest_eq s)).trans ?_
    split <;> rfl
  · refine (request_replied h rfl (readScheduleRequest_eq bank first count s)).trans ?_
    dsimp only
    split_ifs with refused active
    · rfl
    · subst active
      simp only [scheduleReply, entrySlice, byteOf_toNat]
    · have second : bank = 2 := by tauto
      subst second
      cases s.sched.staged <;> simp only [stagedReply, scheduleReply, entrySlice, byteOf_toNat] <;> rfl

/-! ### STAGE_ADD and STAGE_REMOVE -/

/-- R47: the reply and the bank for what checking the entries of a request has given. -/
def addResult (length : Nat) (s : State) : Except (Nat × Nat) (List Entry) → Reply × State
  | .error (place, check) => (⟨.badValue, [byteOf place, byteOf check]⟩, s)
  | .ok new => (⟨.ok, [byteOf new.length]⟩, { s with sched := { s.sched with staged := .editing length new } })

section
variable {s : State} {length : Nat} {bank : List Entry}

theorem stageAddRequest_editing (staged : s.sched.staged = .editing length bank) (body : List Byte) :
    stageAddRequest body s =
      if (byteAt body 0).toNat < 1 ∨ 8 < (byteAt body 0).toNat then (⟨.badValue, [0, 0]⟩, s)
      else if 64 < bank.length + (byteAt body 0).toNat then (⟨.bankFull, [byteOf (64 - bank.length)]⟩, s)
      else addResult length s (addEntries length 1 bank (rawEntries body (byteAt body 0).toNat)) := by
  unfold stageAddRequest
  rw [staged]
  dsimp only
  by_cases count : (byteAt body 0).toNat < 1 ∨ 8 < (byteAt body 0).toNat
  · rw [if_pos count, if_pos (by simpa using count)]
    rfl
  · rw [if_neg count, if_neg (by simpa using count)]
    by_cases full : 64 < bank.length + (byteAt body 0).toNat
    · rw [if_pos full, if_pos (show Config.bankSize < _ from full)]
      rfl
    · rw [if_neg full, if_neg (show ¬ Config.bankSize < _ from full)]
      cases addEntries length 1 bank (rawEntries body (byteAt body 0).toNat) <;> rfl

theorem stageAddRequest_not_editing (other : s.sched.staged.state ≠ .editing) (body : List Byte) :
    stageAddRequest body s = (⟨if s.sched.staged.state = .armed then .stageArmed else .stageNotEditing, []⟩, s) := by
  unfold stageAddRequest
  cases staged : s.sched.staged with
  | editing => simp [staged, Staged.state] at other
  | _ => rfl

theorem stageRemoveRequest_editing (staged : s.sched.staged = .editing length bank) (b0 b1 : Byte) :
    stageRemoveRequest [b0, b1] s =
      if ∃ e ∈ bank, e.start = (b0 ++ b1).toNat then
        (⟨.ok, [byteOf (bank.filter (fun e => e.start != (b0 ++ b1).toNat)).length]⟩,
          { s with sched := { s.sched with
            staged := .editing length (bank.filter (fun e => e.start != (b0 ++ b1).toNat)) } })
      else (⟨.badValue, []⟩, s) := by
  have start : (halfAt [b0, b1] 0).toNat = (b0 ++ b1).toNat := rfl
  unfold stageRemoveRequest
  rw [staged]
  dsimp only
  rw [start]
  by_cases found : ∃ e ∈ bank, e.start = (b0 ++ b1).toNat
  · rw [if_pos found, if_pos (by simpa using found)]
    rfl
  · rw [if_neg found, if_neg (by simpa using found)]
    rfl

theorem stageRemoveRequest_not_editing (other : s.sched.staged.state ≠ .editing) (body : List Byte) :
    stageRemoveRequest body s = (⟨if s.sched.staged.state = .armed then .stageArmed else .stageNotEditing, []⟩, s) := by
  unfold stageRemoveRequest
  cases staged : s.sched.staged with
  | editing => simp [staged, Staged.state] at other
  | _ => rfl

/-- R50: in a bank whose starts are distinct one entry alone has a start. -/
theorem filter_start_middle {before after : List Entry} {e : Entry} (ordered : startOrdered (before ++ e :: after)) :
    (before ++ e :: after).filter (fun f => f.start != e.start) = before ++ after := by
  obtain ⟨-, rest, front⟩ := List.pairwise_append.1 ordered
  obtain ⟨back, -⟩ := List.pairwise_cons.1 rest
  rw [List.filter_append, List.filter_cons_of_neg (by simp),
    List.filter_eq_self.2 (fun f hf => by simpa using (front f hf e (List.mem_cons_self ..)).ne),
    List.filter_eq_self.2 (fun f hf => by simpa using (back f hf).ne')]

/-- R48, R49: whether one more entry may join a bank depends on the entries it holds, not on their order. -/
theorem entriesAdmitted_perm {bank' : List Entry} (perm : bank'.Perm bank) (added : List Entry) :
    entriesAdmitted length bank' added ↔ entriesAdmitted length bank added := by
  unfold entriesAdmitted
  simp only [perm.mem_iff]

end

theorem counted_request_allows {size : Nat} {code : Byte} {body : List Byte}
    (shape : bodyShape code = some (.counted size)) (nonempty : body.length = 1 + size * (byteAt body 0).toNat) :
    (bodyShape code).any (fun shape => shape.allows body) = true := by
  rw [shape]
  simp [BodyShape.allows, nonempty]

/-- Settles O37: what `addEntries` does with admitted entries and with the first that is not. -/
theorem stageAddAndRemoveResult : Obligations.StageAddAndRemoveResult := by
  refine ⟨?_, ?_, ?_⟩
  · intro body s length bank added raw pre post n h shape staged
    have replies {p : Reply × State} (eq : stageAddRequest body s = p) : exec .stageAdd s = replied p.1 p.2 :=
      request_replied h (counted_request_allows rfl shape) eq
    have admits (least : 1 ≤ n) (most : n ≤ 8) (room : bank.length + n ≤ 64) : stageAddRequest body s =
        addResult length s (addEntries length 1 bank (rawEntries body n)) := by
      rw [stageAddRequest_editing staged, if_neg (show ¬ (n < 1 ∨ 8 < n) by omega),
        if_neg (show ¬ 64 < bank.length + n by omega)]
    refine ⟨fun count => ?_, fun least most full => ?_, fun least most room ranged admitted => ?_,
      fun least most room split ranged admitted fails => ?_⟩
    · refine replies (p := (⟨.badValue, [0, 0]⟩, s)) ?_
      rw [stageAddRequest_editing staged, if_pos (show n < 1 ∨ 8 < n by omega)]
    · refine replies (p := (⟨.bankFull, _⟩, s)) ?_
      rw [stageAddRequest_editing staged, if_neg (show ¬ (n < 1 ∨ 8 < n) by omega), if_pos full]
    · obtain ⟨new, adds, perm, ordered⟩ := addEntries_admitted ranged admitted 1 []
      refine ⟨new, replies (p := (⟨.ok, [byteOf new.length]⟩, _)) ?_, perm, ordered⟩
      rw [List.append_nil] at adds
      rw [admits least most room, adds]
      rfl
    · obtain ⟨new, adds, perm, -⟩ := addEntries_admitted ranged admitted 1 (raw :: post)
      have failed := addEntries_failed (length := length) (bank := new) (r := raw)
        (fun e he => by rw [entriesAdmitted_perm perm]; exact fails e he) (1 + pre.length) post
      refine replies (p := (⟨.badValue, _⟩, s)) ?_
      rw [admits least most room, split, adds, failed, Nat.add_comm 1]
      cases raw.inRange with
      | none => rfl
      | some e =>
        dsimp only
        split_ifs <;> rfl
  · intro b0 b1 s length bank before after e h staged
    refine ⟨fun absent => ?_, fun bankEq start ordered => ?_⟩
    · refine request_replied h rfl ?_ (p := (⟨.badValue, []⟩, s))
      rw [stageRemoveRequest_editing staged, if_neg (by simpa using absent)]
    · subst bankEq
      refine request_replied h rfl ?_ (p := (⟨.ok, _⟩, _))
      rw [stageRemoveRequest_editing staged, if_pos ⟨e, by simp, start⟩, ← start, filter_start_middle ordered]
      simp
  · intro body s other
    refine ⟨fun h shape => ?_, fun h shape => ?_⟩
    · exact request_replied h (counted_request_allows rfl shape) (stageAddRequest_not_editing other body)
    · exact request_replied h (by simp [bodyShape, BodyShape.allows, shape]) (stageRemoveRequest_not_editing other body)

/-! ### STAGE_CLOSE -/

section
variable {s : State} {length : Nat} {bank : List Entry}

theorem stageCloseRequest_editing (staged : s.sched.staged = .editing length bank) (b0 b1 : Byte) :
    stageCloseRequest [b0, b1] s = match closeFault [] bank with
      | some (start, reason) => (⟨.scheduleInvalid, halfBytesOf start ++ [byteOf reason]⟩, s)
      | none =>
        if b0 ++ b1 = (0 : Half) ∨ b0 ++ b1 = s.sched.active.epoch then (⟨.scheduleInvalid, [0, 0, 3]⟩, s)
        else (⟨.ok, [b0, b1, byteOf bank.length]⟩,
          { s with sched := { s.sched with staged := .closed (b0 ++ b1) length bank } }) := by
  have epoch : halfAt [b0, b1] 0 = b0 ++ b1 := rfl
  unfold stageCloseRequest
  rw [staged]
  dsimp only
  cases closeFault [] bank with
  | some fault => rfl
  | none =>
    dsimp only
    rw [epoch, halfBytes_append]
    simp only [Bool.or_eq_true, decide_eq_true_eq]
    split <;> rfl

theorem stageCloseRequest_not_editing (other : s.sched.staged.state ≠ .editing) (body : List Byte) :
    stageCloseRequest body s = (⟨if s.sched.staged.state = .armed then .stageArmed else .stageNotEditing, []⟩, s) := by
  unfold stageCloseRequest
  cases staged : s.sched.staged with
  | editing => simp [staged, Staged.state] at other
  | _ => rfl

/-- R51: the walk names the first entry that repeats a label or overlaps the next one. -/
theorem closeFault_first {before after : List Entry} {e : Entry}
    (separate : (before ++ [e]).Pairwise (fun a b => a.finish ≤ b.start))
    (distinct : (before.filterMap Entry.label?).Nodup) :
    closeFault [] (before ++ e :: after) =
      if e.label?.any (fun l => (before.filterMap Entry.label?).contains l) = true then some (e.start, 2)
      else if overlapsNext e after = true then some (e.start, 1)
      else closeFault (e.label?.toList ++ (before.filterMap Entry.label?).reverse) after := by
  obtain ⟨front, -, last⟩ := List.pairwise_append.1 separate
  rw [closeFault_passes (by simpa using last) front distinct (by simp), closeFault]
  simp

end

theorem overlapsNext_eq (e : Entry) (after : List Entry) :
    overlapsNext e after = after.head?.any (fun f => f.start < e.finish) := by
  cases after <;> rfl

/-- Settles O38. -/
theorem stageCloseResult : Obligations.StageCloseResult := by
  refine ⟨?_, ?_⟩
  · intro b0 b1 s length bank before after e h staged
    refine ⟨fun closed => ?_, fun bankEq separate distinct => ?_⟩
    · refine (request_replied h rfl (stageCloseRequest_editing staged b0 b1)).trans ?_
      rw [closeFault_of_closed closed]
      dsimp only
      split <;> rfl
    · subst bankEq
      have walk := closeFault_first (after := after) separate distinct
      refine ⟨fun repeated => ?_, fun fresh overlaps => ?_⟩
      · rw [if_pos repeated] at walk
        refine (request_replied h rfl (stageCloseRequest_editing staged b0 b1)).trans ?_
        rw [walk]
        rfl
      · rw [if_neg (by rw [fresh]; nofun), if_pos (by rw [overlapsNext_eq]; exact overlaps)] at walk
        refine (request_replied h rfl (stageCloseRequest_editing staged b0 b1)).trans ?_
        rw [walk]
        rfl
  · intro b0 b1 s h other
    exact request_replied h rfl (stageCloseRequest_not_editing other _)

/-! ### COMMIT and CANCEL -/

section
variable {s : State}

/-- R61, R64: a node that is not a leading master has no number to lead with. -/
theorem leadingNumber_none (other : s.cycle.role ≠ .master ∨ s.cycle.timing ≠ .leading) : s.leadingNumber = none := by
  unfold State.leadingNumber
  rw [if_neg]
  simp only [Bool.and_eq_true, decide_eq_true_eq, not_and]
  tauto

theorem leadingNumber_some {c : CycleNow} (role : s.cycle.role = .master) (leading : s.cycle.timing = .leading)
    (now : s.cycle.now = some c) : s.leadingNumber = some c.number := by
  simp [State.leadingNumber, role, leading, now]

theorem commitLead_iff (n c : Word) : commitLead n c = true ↔ 16 ≤ (c - n).toNat ∧ (c - n).toNat ≤ 65535 := by
  simp [commitLead]

/-- R61: COMMIT with a CLOSED bank at a leading master. -/
theorem commitRequest_closed {number : Word} (leads : s.leadingNumber = some number) {epoch : Half} {length : Nat}
    {entries : List Entry} (staged : s.sched.staged = .closed epoch length entries) (b0 b1 b2 b3 : Byte) :
    commitRequest [b0, b1, b2, b3] s =
      let cycle : Word := (b0 ++ b1) ++ (b2 ++ b3)
      if 16 ≤ (cycle - number).toNat ∧ (cycle - number).toNat ≤ 65535 then
        (⟨.ok, halfBytes epoch ++ [b0, b1, b2, b3]⟩, giveNotice (.activationArmed epoch cycle .commit)
          { s with sched := { s.sched with staged := .armed epoch length entries cycle, unready := none,
                                           adoption := false } })
      else (⟨.badValue, []⟩, s) := by
  have cycle : wordAt [b0, b1, b2, b3] 0 = (b0 ++ b1) ++ (b2 ++ b3) := rfl
  unfold commitRequest
  rw [leads, staged]
  dsimp only
  rw [cycle, wordBytes_of_bytes]
  by_cases lead : commitLead number ((b0 ++ b1) ++ (b2 ++ b3)) = true
  · rw [if_neg (by simp [lead]), if_pos ((commitLead_iff _ _).1 lead)]
    rfl
  · rw [if_pos (by simp [lead]), if_neg (fun h => lead ((commitLead_iff _ _).2 h))]
    rfl

end

/-- Settles O39. -/
theorem commitAndCancelResult : Obligations.CommitAndCancelResult := by
  intro s
  refine ⟨fun b0 b1 b2 b3 h => ⟨fun other => ?_, fun c role leading now => ?_⟩,
    fun h => ⟨fun other => ?_, fun role leading now => ?_⟩⟩
  · refine request_replied h rfl ?_ (p := (⟨.notMaster, []⟩, s))
    simp [commitRequest, leadingNumber_none other, Reply.refuse]
  · have leads := leadingNumber_some role leading now
    cases staged : s.sched.staged with
    | closed epoch length entries =>
      refine (request_replied h rfl (commitRequest_closed leads staged b0 b1 b2 b3)).trans ?_
      dsimp only
      split <;> rfl
    | _ =>
      refine request_replied h rfl ?_ (p := (⟨.wrongState, []⟩, s))
      simp [commitRequest, leads, staged, Reply.refuse]
  · refine request_replied h rfl ?_ (p := (⟨.notMaster, []⟩, s))
    simp [cancelRequest, leadingNumber_none other, Reply.refuse]
  · obtain ⟨c, now⟩ := Option.isSome_iff_exists.1 now
    have leads := leadingNumber_some role leading now
    refine (request_replied h rfl rfl).trans ?_
    unfold cancelRequest
    rw [leads]
    cases s.sched.staged with
    | armed epoch length entries cycle => rfl
    | _ =>
      dsimp only
      unfold tooLateDetail
      cases s.sched.lastSwitch <;> rfl

end Sys2Proof.Machine
end

section
/-! PROOFS. R3, R171, 10.7: what the CRC leaves in the register, and the bytes of the trunk frames. Settles O27, O28. -/

namespace Sys2Proof.Machine

set_option Elab.async false

/-! ### The residue -/

/-- A register into which `i` of its own bits have gone, most significant first, takes in the next one. -/
theorem crcBit_own (r : Half) (i : Nat) (h : i < 16) : crcBit (r <<< i) (r.getLsbD (15 - i)) = r <<< (i + 1) := by
  have top : (r <<< i).msb = r.getLsbD (15 - i) := by
    rw [BitVec.msb_eq_getLsbD_last, BitVec.getLsbD_shiftLeft]
    simp [show ¬15 < i by omega]
  rw [crcBit, if_pos (beq_iff_eq.2 top), ← BitVec.shiftLeft_add]

/-- The first byte of the register itself moves it up by a byte. -/
theorem crcByte_high (r : Half) : crcByte r (r.extractLsb' 8 8) = r <<< 8 := by
  have bit (i : Nat) (h : i < 8) : (r.extractLsb' 8 8).getLsbD (7 - i) = r.getLsbD (15 - i) := by
    rw [BitVec.getLsbD_extractLsb', show 8 + (7 - i) = 15 - i by omega]
    simp [show 7 - i < 8 by omega]
  have step (i : Nat) (h : i < 8) : crcBit (r <<< i) ((r.extractLsb' 8 8).getLsbD (7 - i)) = r <<< (i + 1) := by
    rw [bit i h, crcBit_own r i (by omega)]
  have first := step 0 (by decide)
  rw [BitVec.shiftLeft_zero] at first
  simp only [crcByte, List.foldl_cons, List.foldl_nil, first, step 1 (by decide), step 2 (by decide), step 3 (by decide),
    step 4 (by decide), step 5 (by decide), step 6 (by decide), step 7 (by decide)]

/-- The second byte of the register itself empties it. -/
theorem crcByte_low (r : Half) : crcByte (r <<< 8) (r.extractLsb' 0 8) = 0 := by
  have same : (r <<< 8 : Half).extractLsb' 8 8 = r.extractLsb' 0 8 := by
    ext i h
    simp [show ¬8 + i < 8 by omega, show 8 + i < 16 by omega, BitVec.getLsbD_eq_getElem (show i < 16 by omega)]
  rw [← same, crcByte_high, ← BitVec.shiftLeft_add]
  exact BitVec.shiftLeft_eq_zero (by decide)

/-- Settles O28. -/
theorem crcResidueIsZero : Obligations.CrcResidueIsZero := by
  refine ⟨fun covered => ?_, by simp [crc, crcByte, crcBit, BitVec.msb_eq_getLsbD_last]⟩
  calc crc (covered ++ halfBytes (crc covered))
      = crcByte (crcByte (crc covered) ((crc covered).extractLsb' 8 8)) ((crc covered).extractLsb' 0 8) := by
        simp [crc, halfBytes]
    _ = 0 := by rw [crcByte_high, crcByte_low]


/-! ### What a frame's own fields give as its length -/

theorem byteAt_take (b : List Byte) (n i : Nat) : byteAt (b.take n) i = if i < n then byteAt b i else 0 := by
  simp only [byteAt, List.getD_eq_getElem?_getD, List.getElem?_take]
  split <;> rfl

theorem take_lead {b : List Byte} {n : Nat} (h : 3 ≤ n) : (b.take n).take 3 = b.take 3 := by
  rw [List.take_take, Nat.min_eq_left h]

section
variable {b : List Byte}

theorem expectedLength_noLead (lead : b.take 3 ≠ [0x55, 0x55, 0x4E]) : expectedLength b = none ∧ failsAt b = 4 :=
  ⟨if_pos lead, if_pos lead⟩

theorem expectedLength_noKind (kind : byteAt b 3 ∉ [0x1E, 0x2D, 0x4B]) : expectedLength b = none ∧ failsAt b = 4 := by
  simp only [List.mem_cons, List.not_mem_nil, or_false, not_or] at kind
  obtain ⟨start, cyclic, segment⟩ := kind
  unfold expectedLength failsAt
  rw [if_neg start, if_neg cyclic, if_neg cyclic, if_neg segment, if_neg segment]
  exact ⟨ite_self _, ite_self _⟩

theorem expectedLength_start (lead : b.take 3 = [0x55, 0x55, 0x4E]) (kind : byteAt b 3 = 0x1E) :
    expectedLength b = some 22 := by
  unfold expectedLength
  rw [if_neg (not_not_intro lead), if_pos kind]

theorem expectedLength_cyclic (lead : b.take 3 = [0x55, 0x55, 0x4E]) (kind : byteAt b 3 = 0x2D) :
    expectedLength b =
      (if 1 ≤ (byteAt b 7).toNat ∧ (byteAt b 7).toNat ≤ 64 then some ((byteAt b 7).toNat + 10) else none) ∧
    failsAt b = 8 := by
  have other : (0x2D : Byte) ≠ 0x1E := by decide
  unfold expectedLength failsAt
  rw [if_neg (not_not_intro lead), if_neg (not_not_intro lead), kind, if_neg other, if_pos rfl, if_pos rfl]
  simp

theorem expectedLength_segment (lead : b.take 3 = [0x55, 0x55, 0x4E]) (kind : byteAt b 3 = 0x4B) :
    expectedLength b =
      (if (byteAt b 11).toNat ≤ 40 then some (segmentHeader b + (byteAt b 11).toNat + 2) else none) ∧
    failsAt b = 12 := by
  have other : (0x4B : Byte) ≠ 0x1E ∧ (0x4B : Byte) ≠ 0x2D := by decide
  unfold expectedLength failsAt
  rw [if_neg (not_not_intro lead), if_neg (not_not_intro lead), kind, if_neg other.1, if_neg other.2, if_neg other.2,
    if_pos rfl, if_pos rfl]
  exact ⟨rfl, rfl⟩

/-- Cut before its end, a frame asks for more bytes than there are, or a check fails at the last of them. -/
theorem expectedLength_take {m n : Nat} (known : expectedLength b = some m) (short : n < m) :
    (∃ k, expectedLength (b.take n) = some k ∧ n < k) ∨
      expectedLength (b.take n) = none ∧ n ≤ failsAt (b.take n) := by
  by_cases few : n ≤ 3
  · have kind : byteAt (b.take n) 3 ∉ [0x1E, 0x2D, 0x4B] := by
      rw [byteAt_take, if_neg (by omega)]
      decide
    obtain ⟨none, at4⟩ := expectedLength_noKind kind
    exact .inr ⟨none, by omega⟩
  · have lead : b.take 3 = [0x55, 0x55, 0x4E] := by
      by_contra no
      simp [(expectedLength_noLead no).1] at known
    have cutLead : (b.take n).take 3 = [0x55, 0x55, 0x4E] := (take_lead (by omega)).trans lead
    have cutKind : byteAt (b.take n) 3 = byteAt b 3 := (byteAt_take b n 3).trans (if_pos (by omega))
    have kinds : byteAt b 3 ∈ [0x1E, 0x2D, 0x4B] := by
      by_contra no
      simp [(expectedLength_noKind no).1] at known
    simp only [List.mem_cons, List.not_mem_nil, or_false] at kinds
    obtain start | cyclic | segment := kinds
    · rw [expectedLength_start lead start] at known
      obtain rfl : 22 = m := Option.some.inj known
      exact .inl ⟨22, expectedLength_start cutLead (cutKind.trans start), short⟩
    · rw [(expectedLength_cyclic lead cyclic).1] at known
      obtain ⟨cut, at8⟩ := expectedLength_cyclic cutLead (cutKind.trans cyclic)
      rw [cut, at8, byteAt_take]
      by_cases in8 : 7 < n
      · rw [if_pos in8]
        exact .inl ⟨m, known, short⟩
      · rw [if_neg in8]
        exact .inr ⟨rfl, by omega⟩
    · rw [(expectedLength_segment lead segment).1] at known
      obtain ⟨cut, -⟩ := expectedLength_segment cutLead (cutKind.trans segment)
      rw [cut, byteAt_take]
      by_cases in12 : 11 < n
      · have header : segmentHeader (b.take n) = segmentHeader b := by
          simp only [segmentHeader, byteAt_take, if_pos (show 9 < n by omega)]
        rw [if_pos in12, header]
        exact .inl ⟨m, known, short⟩
      · have header : 12 ≤ segmentHeader (b.take n) := by
          unfold segmentHeader
          split <;> decide
        rw [if_neg in12]
        exact .inl ⟨segmentHeader (b.take n) + 0 + 2, rfl, by omega⟩

end

/-! ### Judging -/

/-- A frame cut before its end is malformed, and is read for all that there is of it. -/
theorem judge_take {b : List Byte} {m n : Nat} (known : expectedLength b = some m) (short : n < m)
    (within : n ≤ b.length) : judge (b.take n) = .malformed ∧ readTime (b.take n) = n := by
  have length : (b.take n).length = n := List.length_take_of_le within
  unfold judge readTime
  rw [length]
  obtain ⟨k, more, lt⟩ | ⟨none, fails⟩ := expectedLength_take known short
  · rw [more]
    exact ⟨if_pos lt, Nat.min_eq_left (Nat.le_of_lt lt)⟩
  · rw [none]
    exact ⟨rfl, Nat.min_eq_left fails⟩

theorem judge_unreadable {b : List Byte} (h : expectedLength b = none) :
    judge b = .malformed ∧ readTime b = min b.length (failsAt b) := by
  unfold judge readTime
  rw [h]
  exact ⟨rfl, rfl⟩

theorem halfAt_halfBytes (a t : List Byte) (h : Half) : halfAt (a ++ (halfBytes h ++ t)) a.length = h := by
  have at0 : byteAt (a ++ (halfBytes h ++ t)) a.length = h.extractLsb' 8 8 := by simp [byteAt, halfBytes]
  have at1 : byteAt (a ++ (halfBytes h ++ t)) (a.length + 1) = h.extractLsb' 0 8 := by simp [byteAt, halfBytes]
  rw [halfAt, at0, at1]
  exact half_of_bytes h

/-- 10.7: the bytes of a frame up to its CRC. -/
def framed (covered : List Byte) : List Byte := [0x55, 0x55, 0x4E] ++ covered

theorem trunkBytes_eq (covered : List Byte) : trunkBytes covered = framed covered ++ halfBytes (crc covered) := rfl

/-- Checks 3 and 4 (R3) where the frame's fields give the length that there is. -/
theorem judge_framed {covered : List Byte} {check : Half} {t : List Byte}
    (size : expectedLength (framed covered ++ (halfBytes check ++ t)) = some (covered.length + 5)) :
    judge (framed covered ++ (halfBytes check ++ t)) =
      if crc covered ≠ check then .crcError else .good (readFrame (framed covered ++ (halfBytes check ++ t))) := by
  have long : ¬(framed covered ++ (halfBytes check ++ t)).length < covered.length + 5 := by
    simp [framed, halfBytes]
  have body : ((framed covered ++ (halfBytes check ++ t)).drop 3).take (covered.length + 5 - 5) = covered := by
    simp [framed]
  have crcAt : halfAt (framed covered ++ (halfBytes check ++ t)) (covered.length + 5 - 2) = check := by
    have place : covered.length + 5 - 2 = (framed covered).length := by simp [framed]
    rw [place, halfAt_halfBytes]
  unfold judge
  simp only [size, if_neg long, body, crcAt]

/-- What R3 asks of the bytes of a frame: they are read back as the frame, whatever follows; cut short they are malformed;
with another CRC they count in CRC_ERRORS. -/
def Checked (bytes : List Byte) (f : TrunkFrame) : Prop :=
  (∀ tail, judge (bytes ++ tail) = .good f ∧ readTime (bytes ++ tail) = bytes.length) ∧
  (∀ n < bytes.length, judge (bytes.take n) = .malformed ∧ readTime (bytes.take n) = n) ∧
  ∀ (check : Half) (tail : List Byte), halfBytes check ≠ bytes.drop (bytes.length - 2) →
    judge (bytes.take (bytes.length - 2) ++ halfBytes check ++ tail) = .crcError

/-- A frame is checked as R3 asks once its own fields give its length and are read back, whatever follows them. -/
theorem trunkBytes_checked {covered : List Byte} {f : TrunkFrame}
    (size : ∀ t, expectedLength (framed covered ++ t) = some (covered.length + 5))
    (fields : ∀ t, readFrame (framed covered ++ t) = f) :
    (trunkBytes covered).length = covered.length + 5 ∧ Checked (trunkBytes covered) f := by
  have length : (trunkBytes covered).length = covered.length + 5 := by simp [trunkBytes, halfBytes]
  have place : (trunkBytes covered).length - 2 = (framed covered).length := by simp [length, framed]
  refine ⟨length, fun tail => ⟨?_, ?_⟩, fun n short => ?_, fun check tail other => ?_⟩
  · rw [trunkBytes_eq, List.append_assoc, judge_framed (size _), if_neg (not_not_intro rfl), fields]
  · unfold readTime
    rw [show trunkBytes covered ++ tail = framed covered ++ (halfBytes (crc covered) ++ tail) by
      simp [trunkBytes_eq], size, ← List.append_assoc, ← trunkBytes_eq, List.length_append, Option.getD_some]
    omega
  · exact judge_take (size (halfBytes (crc covered))) (length ▸ short) (Nat.le_of_lt short)
  · have differs : crc covered ≠ check := by
      rintro rfl
      exact other (by rw [place, trunkBytes_eq, List.drop_left])
    rw [place, trunkBytes_eq, List.take_left, List.append_assoc, judge_framed (size _), if_pos differs]


/-! ### The three kinds of frame -/

/-- R173: an announcement is read back; a clear flag leaves zeros. -/
theorem CycleStartFrame.announcement_eq (f : CycleStartFrame)
    (clear : f.announces = false → f.announcedEpoch = 0 ∧ f.activation = 0) :
    f.announcement = flagByte f.announces :: (halfBytes f.announcedEpoch ++ wordBytes f.activation) := by
  unfold CycleStartFrame.announcement
  cases flag : f.announces with
  | true => rfl
  | false =>
    obtain ⟨epoch, activation⟩ := clear flag
    rw [epoch, activation]
    rfl

theorem CycleStartFrame.bytes_checked (f : CycleStartFrame) (length : f.length < 65536)
    (clear : f.announces = false → f.announcedEpoch = 0 ∧ f.activation = 0) :
    f.bytes.length = 22 ∧ Checked f.bytes (.cycleStart f) := by
  have flag : (flagByte f.announces).getLsbD 0 = f.announces := by cases f.announces <;> rfl
  unfold CycleStartFrame.bytes
  rw [f.announcement_eq clear]
  refine trunkBytes_checked (fun t => expectedLength_start rfl rfl) fun t => ?_
  refine (if_pos rfl).trans (congrArg TrunkFrame.cycleStart ?_)
  have number := word_of_bytes f.number
  have epoch := half_of_bytes f.epoch
  have counts := half_of_bytes (BitVec.ofNat 16 f.length)
  have announced := half_of_bytes f.announcedEpoch
  have activation := word_of_bytes f.activation
  have read : (BitVec.ofNat 16 f.length).toNat = f.length := toNat_ofNat_half length
  cases f
  simp_all [readCycleStart, framed, byteAt, halfAt, wordAt, wordBytes, halfBytesOf, halfBytes]

theorem CyclicFrame.bytes_checked (f : CyclicFrame) (some : 1 ≤ f.payload.length) (few : f.payload.length ≤ 64) :
    f.bytes.length = f.payload.length + 10 ∧ Checked f.bytes (.cyclic f) := by
  have size : (byteOf f.payload.length).toNat = f.payload.length := toNat_byteOf (by omega)
  refine trunkBytes_checked (fun t => (expectedLength_cyclic rfl rfl).1.trans ?_) fun t => ?_
  · refine (if_pos ?_).trans ?_
    · exact ⟨size.ge.trans' some, size.le.trans few⟩
    · exact congrArg Option.some (congrArg (· + 10) size)
  · refine (if_neg (show ¬(0x2D : Byte) = 0x1E by decide)).trans ((if_pos rfl).trans (congrArg TrunkFrame.cyclic ?_))
    cases f
    simp_all [readCyclic, framed, byteAt]

theorem SegmentFrame.flags_bits (f : SegmentFrame) :
    f.flags.getLsbD 7 = f.first ∧ f.flags.getLsbD 6 = f.last ∧ f.flags.getLsbD 5 = f.abort := by
  unfold SegmentFrame.flags
  cases f.first <;> cases f.last <;> cases f.abort <;> decide

/-- 10.7: the total length is there exactly with FIRST. -/
theorem SegmentFrame.totalBytes_length (f : SegmentFrame) (present : f.total.isSome = f.first) :
    f.totalBytes.length = if f.first then 2 else 0 := by
  unfold SegmentFrame.totalBytes
  rw [← present]
  cases f.total <;> rfl

theorem SegmentFrame.bytes_checked (f : SegmentFrame) (index : f.index < 256) (cls : f.cls < 256)
    (few : f.payload.length ≤ 40) (present : f.total.isSome = f.first) (total : ∀ n ∈ f.total, n < 65536) :
    f.bytes.length = f.payload.length + (if f.first then 16 else 14) ∧ Checked f.bytes (.segment f) := by
  obtain ⟨bit7, bit6, bit5⟩ := f.flags_bits
  have size : (byteOf f.payload.length).toNat = f.payload.length := toNat_byteOf (by omega)
  have covers : ∀ n, ([0x4B, f.key, f.source, f.dest, f.id, byteOf f.index, f.flags, byteOf f.cls,
      byteOf f.payload.length] ++ f.totalBytes ++ f.payload).length + n =
      f.payload.length + ((if f.first then 11 else 9) + n) := by
    intro n
    simp only [List.length_append, f.totalBytes_length present, List.length_cons, List.length_nil]
    split <;> omega
  have bytes := trunkBytes_checked (covered := [0x4B, f.key, f.source, f.dest, f.id, byteOf f.index, f.flags,
    byteOf f.cls, byteOf f.payload.length] ++ f.totalBytes ++ f.payload) (f := .segment f) (fun t => ?_) fun t => ?_
  · refine ⟨bytes.1.trans ((covers 5).trans (congrArg (f.payload.length + ·) ?_)), bytes.2⟩
    split <;> rfl
  · refine (expectedLength_segment rfl rfl).1.trans ((if_pos (size.le.trans few)).trans (congrArg Option.some ?_))
    rw [covers]
    show (if f.flags.getLsbD 7 then 14 else 12) + (byteOf f.payload.length).toNat + 2 = _
    rw [bit7, size]
    split <;> omega
  · refine (if_neg (show ¬(0x4B : Byte) = 0x1E by decide)).trans ((if_neg (show ¬(0x4B : Byte) = 0x2D by decide)).trans
      (congrArg TrunkFrame.segment ?_))
    have readIndex := toNat_byteOf index
    have readClass := toNat_byteOf cls
    show SegmentFrame.mk f.key f.source f.dest f.id (byteOf f.index).toNat (f.flags.getLsbD 7) (f.flags.getLsbD 6)
      (f.flags.getLsbD 5) (byteOf f.cls).toNat (if f.flags.getLsbD 7 then some (halfAt _ 12).toNat else none)
      ((List.drop (if f.flags.getLsbD 7 then 14 else 12) _).take (byteOf f.payload.length).toNat) = f
    rw [bit7, bit6, bit5, size, readIndex, readClass]
    unfold SegmentFrame.totalBytes
    cases isFirst : f.first with
    | false =>
      have absent : f.total = none := by simpa [isFirst] using present
      rw [absent]
      cases f
      simp_all [framed]
    | true =>
      obtain ⟨n, found⟩ := Option.isSome_iff_exists.1 (present.trans isFirst)
      have readTotal : (BitVec.ofNat 16 n).toNat = n := toNat_ofNat_half (total n found)
      have halves := half_of_bytes (BitVec.ofNat 16 n)
      rw [found]
      cases f
      simp_all [framed, halfAt, byteAt, halfBytesOf, halfBytes]


/-! ### Given up at a check -/

theorem judge_noLead {b : List Byte} (h : b.take 3 ≠ [0x55, 0x55, 0x4E] ∨ byteAt b 3 ∉ [0x1E, 0x2D, 0x4B]) :
    judge b = .malformed ∧ readTime b = min b.length 4 := by
  obtain ⟨none, fails⟩ := h.elim expectedLength_noLead expectedLength_noKind
  exact fails ▸ judge_unreadable none

theorem judge_cyclicLength {b : List Byte} (lead : b.take 3 = [0x55, 0x55, 0x4E]) (kind : byteAt b 3 = 0x2D)
    (wrong : byteAt b 7 = 0 ∨ 64 < (byteAt b 7).toNat) : judge b = .malformed ∧ readTime b = min b.length 8 := by
  obtain ⟨size, fails⟩ := expectedLength_cyclic lead kind
  have out : ¬(1 ≤ (byteAt b 7).toNat ∧ (byteAt b 7).toNat ≤ 64) := by
    rintro ⟨low, high⟩
    obtain zero | more := wrong
    · simp [zero] at low
    · exact absurd high (by omega)
  exact fails ▸ judge_unreadable (size.trans (if_neg out))

theorem judge_segmentLength {b : List Byte} (lead : b.take 3 = [0x55, 0x55, 0x4E]) (kind : byteAt b 3 = 0x4B)
    (wrong : 40 < (byteAt b 11).toNat) : judge b = .malformed ∧ readTime b = min b.length 12 := by
  obtain ⟨size, fails⟩ := expectedLength_segment lead kind
  exact fails ▸ judge_unreadable (size.trans (if_neg (Nat.not_le.2 wrong)))

/-- Settles O27: kind by kind, the fields of a frame give its length and are read back from its bytes. -/
theorem trunkFramesRoundTrip : Obligations.TrunkFramesRoundTrip :=
  ⟨CycleStartFrame.bytes_checked, CyclicFrame.bytes_checked, SegmentFrame.bytes_checked,
    fun _ => ⟨judge_noLead, judge_cyclicLength, judge_segmentLength⟩⟩

end Sys2Proof.Machine
end

section
/-! PROOFS. R13, R14: two contenders part at the first bit in which their keys differ. Settles O29. -/

namespace Sys2Proof.Machine

set_option Elab.async false

/-! ### Where two runs of bits part -/

/-- Two runs of bits agree for a stretch, and then `a` has the dominant level where `b` has the recessive one. -/
def PartAt (stretch a b : List Bool) : Prop := ∃ more other, a = stretch ++ false :: more ∧ b = stretch ++ true :: other

theorem PartAt.append {stretch a b : List Bool} (h : PartAt stretch a b) (before x y : List Bool) :
    PartAt (before ++ stretch) (before ++ a ++ x) (before ++ b ++ y) := by
  obtain ⟨more, other, rfl, rfl⟩ := h
  exact ⟨more ++ x, other ++ y, by simp, by simp⟩

/-- Of two bytes the lower has the dominant level at the highest bit in which they differ. -/
theorem exists_highest_difference {a b : Byte} (h : a < b) :
    ∃ i < 8, a.getLsbD i = false ∧ b.getLsbD i = true ∧ ∀ j, i < j → a.getLsbD j = b.getLsbD j := by
  have less : a.toNat < b.toNat := h
  have differ : a.toNat ^^^ b.toNat ≠ 0 := by
    rw [Ne, Nat.xor_eq_zero_iff]
    omega
  obtain ⟨i, differs, above⟩ := Nat.exists_most_significant_bit differ
  have equal : ∀ j, i < j → a.toNat.testBit j = b.toNat.testBit j := fun j hj => by
    simpa [Nat.testBit_xor] using above j hj
  rw [Nat.testBit_xor] at differs
  cases low : a.toNat.testBit i with
  | true =>
    have high : b.toNat.testBit i = false := by simpa [low] using differs
    exact absurd (Nat.lt_of_testBit i high low fun j hj => (equal j hj).symm) (by omega)
  | false =>
    have high : b.toNat.testBit i = true := by simpa [low] using differs
    have inByte : i < 8 := by
      by_contra out
      exact absurd (b.getLsbD_of_ge i (by omega)) (by simpa [BitVec.getLsbD] using high)
    exact ⟨i, inByte, low, high, equal⟩

/-- The places of the bits of a byte, cut at one of them. -/
theorem bitPlaces_split : ∀ i < 8, [7, 6, 5, 4, 3, 2, 1, 0] =
      [7, 6, 5, 4, 3, 2, 1, 0].take (7 - i) ++ i :: [7, 6, 5, 4, 3, 2, 1, 0].drop (8 - i) ∧
    ∀ j ∈ [7, 6, 5, 4, 3, 2, 1, 0].take (7 - i), i < j := by
  decide

theorem bitsOf_part {a b : Byte} (h : a < b) : ∃ stretch, stretch.length < 8 ∧ PartAt stretch (bitsOf [a]) (bitsOf [b]) := by
  obtain ⟨i, inByte, dominant, recessive, above⟩ := exists_highest_difference h
  obtain ⟨split, higher⟩ := bitPlaces_split i inByte
  have same : ([7, 6, 5, 4, 3, 2, 1, 0].take (7 - i)).map b.getLsbD = ([7, 6, 5, 4, 3, 2, 1, 0].take (7 - i)).map a.getLsbD :=
    List.map_congr_left fun j hj => (above j (higher j hj)).symm
  refine ⟨([7, 6, 5, 4, 3, 2, 1, 0].take (7 - i)).map a.getLsbD, by simp; omega,
    ([7, 6, 5, 4, 3, 2, 1, 0].drop (8 - i)).map a.getLsbD, ([7, 6, 5, 4, 3, 2, 1, 0].drop (8 - i)).map b.getLsbD, ?_, ?_⟩
  · rw [← dominant, ← List.map_cons, ← List.map_append, ← split]
    simp [bitsOf]
  · rw [← same, ← recessive, ← List.map_cons, ← List.map_append, ← split]
    simp [bitsOf]

/-! ### What stands on the line, and what each contender makes of it -/

section
variable {stretch a b : List Bool}

theorem contest_part (h : PartAt stretch a b) : contest a b = a ∧ contest b a = a := by
  obtain ⟨more, other, rfl, rfl⟩ := h
  induction stretch with
  | nil => exact ⟨rfl, rfl⟩
  | cons x xs ih =>
    obtain ⟨first, second⟩ := ih
    simp [contest, first, second]

theorem lineOf_part (h : PartAt stretch a b) : PartAt stretch (lineOf a b) b := by
  obtain ⟨more, other, rfl, rfl⟩ := h
  refine ⟨lineOf more other, other, ?_, rfl⟩
  induction stretch with
  | nil => rfl
  | cons x xs ih =>
    simp only [lineOf, List.cons_append, List.zipWith_cons_cons, Bool.and_self] at ih ⊢
    rw [ih]

/-- R13: a 1 read as 0 in the arbitration field is LOST. -/
theorem contendOutcome_part (h : PartAt stretch a b) {field : Nat} (within : stretch.length < field) :
    contendOutcome field b a = .lost := by
  obtain ⟨more, other, rfl, rfl⟩ := h
  induction stretch generalizing field with
  | nil =>
    obtain ⟨left, rfl⟩ := Nat.exists_eq_add_of_lt within
    simp [contendOutcome]
  | cons x xs ih =>
    obtain ⟨left, rfl⟩ : ∃ left, field = left + 1 := ⟨field - 1, by simp at within; omega⟩
    simpa [contendOutcome] using ih (by simpa using within)

theorem drivenOutcome_self (line : List Bool) : drivenOutcome line line = .won := by
  induction line with
  | nil => rfl
  | cons x xs ih => simpa [drivenOutcome] using ih

theorem contendOutcome_self (field : Nat) (line : List Bool) : contendOutcome field line line = .won := by
  induction field generalizing line with
  | zero => exact drivenOutcome_self line
  | succ field ih =>
    cases line with
    | nil => rfl
    | cons x xs => simpa [contendOutcome] using ih xs

end

/-! ### Two contenders -/

/-- 10.7: the arbitration key follows the lead and the kind. -/
theorem SegmentFrame.bitsOf_bytes (f : SegmentFrame) :
    ∃ rest, bitsOf f.bytes = bitsOf [0x55, 0x55, 0x4E, 0x4B] ++ bitsOf [f.key] ++ rest :=
  ⟨_, rfl⟩

/-- R13: two contenders part inside the arbitration field. -/
theorem segments_part {f g : SegmentFrame} (lower : f.key < g.key) :
    ∃ stretch, stretch.length < arbitrationBits ∧ PartAt stretch (bitsOf f.bytes) (bitsOf g.bytes) := by
  obtain ⟨stretch, short, parted⟩ := bitsOf_part lower
  obtain ⟨x, first⟩ := f.bitsOf_bytes
  obtain ⟨y, second⟩ := g.bitsOf_bytes
  refine ⟨bitsOf [0x55, 0x55, 0x4E, 0x4B] ++ stretch, ?_, ?_⟩
  · rw [List.length_append]
    exact Nat.add_lt_add_left short 32
  · rw [first, second]
    exact parted.append _ x y

/-- Settles O29. -/
theorem lowestKeyWins : Obligations.LowestKeyWins := by
  refine ⟨fun f g lower => ?_, fun frame => contendOutcome_self _ _⟩
  obtain ⟨stretch, inField, parted⟩ := segments_part lower
  obtain ⟨line, swapped⟩ := contest_part parted
  refine ⟨line, swapped.trans line.symm, ?_, ?_, contendOutcome_part (lineOf_part parted) inField⟩
  · rw [line]
    exact contendOutcome_self _ _
  · rw [line]
    exact contendOutcome_part parted inField

end Sys2Proof.Machine
end

section
/-! PROOFS. R158 to R161: what the bytes of a host frame do, in one command or several. Settles O30. -/

namespace Sys2Proof.Machine

set_option Elab.async false

/-! ### Byte by byte -/

section
variable {s : State} {frame : List Byte}

theorem hunt_of_hunting (h : s.link.rx = []) : hunt s = s := by
  unfold hunt State.withLink
  rw [← h]

theorem receiveByte_first (hunting : s.link.rx = []) (high : s.link.breakLow = false) :
    receiveByte s 0xA5 = holdInbound [0xA5] s := by
  unfold receiveByte
  rw [if_neg (by simp [high]), if_neg (by simp), hunting]
  rfl

theorem receiveByte_next {held : List Byte} (some : held ≠ []) (high : s.link.breakLow = false) (b : Byte) :
    receiveByte (holdInbound held s) b = inboundByte (held ++ [b]) s := by
  have going : (holdInbound held s).link.rx.isEmpty = false := List.isEmpty_eq_false_iff.2 some
  unfold receiveByte
  rw [if_neg (show ¬(holdInbound held s).link.breakLow = true by simpa [holdInbound] using high),
    if_neg (by simp [going])]
  rfl

/-- R160: the length field is in range. -/
theorem lengthField_inRange {n : Nat} (range : 1 ≤ n ∧ n ≤ 259) : ¬(n = 0 || Config.maxHostLength < n) = true := by
  rw [Bool.or_eq_true, decide_eq_true_iff, decide_eq_true_iff, show Config.maxHostLength = 259 from rfl]
  omega

/-- R160: a frame is held until it is complete. -/
theorem inboundByte_short (range : 1 ≤ (halfAt frame 1).toNat ∧ (halfAt frame 1).toNat ≤ 259)
    (short : frame.length < hostLength frame) : inboundByte frame s = holdInbound frame s := by
  unfold inboundByte
  split_ifs with few out
  · rfl
  · exact absurd out (lengthField_inRange range)
  · rfl

theorem halfAt_take {i n : Nat} (b : List Byte) (h : i + 1 < n) : halfAt (b.take n) i = halfAt b i := by
  simp only [halfAt, byteAt_take, if_pos h, if_pos (Nat.lt_of_succ_lt h)]

/-- The bytes of a frame up to the last but one are held. -/
theorem foldl_receiveByte_take (hunting : s.link.rx = []) (high : s.link.breakLow = false)
    (sync : byteAt frame 0 = 0xA5) (range : 1 ≤ (halfAt frame 1).toNat ∧ (halfAt frame 1).toNat ≤ 259)
    (length : frame.length = hostLength frame) (n : Nat) (short : n + 1 < frame.length) :
    (frame.take (n + 1)).foldl receiveByte s = holdInbound (frame.take (n + 1)) s := by
  induction n with
  | zero =>
    obtain ⟨b, rest, rfl⟩ : ∃ b rest, frame = b :: rest := List.exists_cons_of_length_pos (by omega)
    obtain rfl : b = 0xA5 := sync
    exact receiveByte_first hunting high
  | succ n ih =>
    have more := ih (Nat.lt_of_succ_lt short)
    have cut : (frame.take (n + 1 + 1)).length = n + 1 + 1 := List.length_take_of_le (Nat.le_of_lt short)
    have nonempty : frame.take (n + 1) ≠ [] := List.ne_nil_of_length_pos (by simp; omega)
    rw [List.take_add_one, List.foldl_append, more, List.getElem?_eq_getElem (Nat.lt_of_succ_lt short), Option.toList_some,
      List.foldl_cons, List.foldl_nil, receiveByte_next nonempty high]
    rw [← Option.toList_some, ← List.getElem?_eq_getElem (Nat.lt_of_succ_lt short), ← List.take_add_one]
    by_cases few : n + 1 + 1 < 3
    · unfold inboundByte
      rw [if_pos (cut.symm ▸ few)]
    · have field : halfAt (frame.take (n + 1 + 1)) 1 = halfAt frame 1 := halfAt_take frame (by omega)
      refine inboundByte_short (field ▸ range) ?_
      unfold hostLength at length ⊢
      rw [cut, field]
      omega

/-- R160: a whole frame with a length field in range meets checks 3 to 5. -/
theorem foldl_receiveByte_frame (hunting : s.link.rx = []) (high : s.link.breakLow = false)
    (sync : byteAt frame 0 = 0xA5) (range : 1 ≤ (halfAt frame 1).toNat ∧ (halfAt frame 1).toNat ≤ 259)
    (length : frame.length = hostLength frame) : frame.foldl receiveByte s = judgeHostFrame frame s := by
  have long : 6 ≤ frame.length := by
    unfold hostLength at length
    omega
  obtain ⟨before, last, rfl⟩ := List.eq_nil_or_concat' frame |>.resolve_left (List.ne_nil_of_length_pos (by omega))
  have size : (before ++ [last]).length = before.length + 1 := by simp
  have nonempty : before ≠ [] := List.ne_nil_of_length_pos (by omega)
  have held := foldl_receiveByte_take hunting high sync range length (before.length - 1) (by omega)
  rw [Nat.sub_add_cancel (by omega), List.take_left] at held
  rw [List.foldl_append, held, List.foldl_cons, List.foldl_nil, receiveByte_next nonempty high]
  unfold inboundByte
  rw [if_neg (by omega), if_neg (lengthField_inRange range), if_neg (by omega), hunt_of_hunting hunting]

/-- Bytes in a break, and bytes other than A5 hex at a hunting receiver, are passed over. -/
theorem foldl_receiveByte_passed (bytes : List Byte)
    (h : s.link.breakLow = true ∨ s.link.rx = [] ∧ ∀ b ∈ bytes, b ≠ 0xA5) : bytes.foldl receiveByte s = s := by
  induction bytes with
  | nil => rfl
  | cons b rest ih =>
    have passed : receiveByte s b = s := by
      unfold receiveByte
      obtain low | ⟨hunting, other⟩ := h
      · rw [if_pos low]
      · have different : b ≠ 0xA5 := other b (List.mem_cons_self ..)
        rw [if_pos (show (s.link.rx.isEmpty && b ≠ 0xA5) = true by rw [hunting, decide_eq_true different]; rfl), ite_self]
    rw [List.foldl_cons, passed]
    exact ih (h.imp_right fun ⟨hunting, other⟩ => ⟨hunting, fun b hb => other b (List.mem_cons_of_mem _ hb)⟩)

end

/-! ### A frame as it is spelled (10.2) -/

/-- 10.2: sync, length, kind to last body byte, CRC. -/
def spelled (inner : List Byte) (check : Half) : List Byte := 0xA5 :: halfBytesOf inner.length ++ inner ++ halfBytes check

theorem hostFrame_eq (inner : List Byte) : hostFrame inner = spelled inner (crc (halfBytesOf inner.length ++ inner)) := by
  simp [hostFrame, spelled]

section
variable {inner : List Byte} {check : Half} {s : State}

theorem spelled_length : (spelled inner check).length = inner.length + 5 := by
  simp [spelled, halfBytesOf, halfBytes]

theorem spelled_field (short : inner.length < 65536) : (halfAt (spelled inner check) 1).toNat = inner.length := by
  have field : halfAt (spelled inner check) 1 = BitVec.ofNat 16 inner.length := half_of_bytes _
  rw [field, toNat_ofNat_half short]

theorem spelled_byteAt {i : Nat} (h : i < inner.length) : byteAt (spelled inner check) (i + 3) = byteAt inner i := by
  simp [spelled, byteAt, halfBytesOf, halfBytes, List.getElem?_append_left h]

theorem spelled_crcOk : hostCrcOk (spelled inner check) = (crc (halfBytesOf inner.length ++ inner) == check) := by
  have place : inner.length + 5 - 2 = (0xA5 :: halfBytesOf inner.length ++ inner).length := by simp [halfBytesOf, halfBytes]
  have covered : ((spelled inner check).drop 1).take (inner.length + 5 - 3) = halfBytesOf inner.length ++ inner := by
    have length : inner.length + 5 - 3 = (halfBytesOf inner.length ++ inner).length := by
      rw [List.length_append, halfBytesOf_length]
      omega
    rw [length]
    exact List.take_left
  have sent : halfAt (spelled inner check) (inner.length + 5 - 2) = check := by
    have := halfAt_halfBytes (0xA5 :: halfBytesOf inner.length ++ inner) [] check
    rwa [List.append_nil, ← place] at this
  unfold hostCrcOk
  rw [spelled_length, covered, sent]

/-- R160: the bytes of a frame meet checks 3 to 5 at the last of them. -/
theorem exec_spelled (hunting : s.link.rx = []) (high : s.link.breakLow = false) (some : 1 ≤ inner.length)
    (few : inner.length ≤ 259) :
    exec (.hostFrameReceived (spelled inner check)) s = finish (judgeHostFrame (spelled inner check) (inTransaction s)) := by
  have field : (halfAt (spelled inner check) 1).toNat = inner.length := spelled_field (by omega)
  refine congrArg finish (foldl_receiveByte_frame hunting high rfl ?_ ?_)
  · rw [field]
    exact ⟨some, few⟩
  · rw [hostLength, field, spelled_length]

theorem judge_badCrc (wrong : check ≠ crc (halfBytesOf inner.length ++ inner)) :
    judgeHostFrame (spelled inner check) s = giveNotice (.linkError .crc none) s := by
  have bad : (!hostCrcOk (spelled inner check)) = true := by simpa [spelled_crcOk] using wrong.symm
  exact if_pos bad

/-- Checks 4 and 5 on a frame whose CRC is right. -/
theorem judge_hostFrame (some : 1 ≤ inner.length) (few : inner.length ≤ 259) : judgeHostFrame (hostFrame inner) s =
    if byteAt inner 0 = 1 then
      if inner.length < 3 then giveNotice (.linkError .length none) s
      else considerRequest (byteAt inner 1) (byteAt inner 2) (inner.drop 3) s
    else if byteAt inner 0 = 0x0F then
      if inner.length ≠ 1 then giveNotice (.linkError .length none) s else linkReset s
    else giveNotice (.linkError .kind none) s := by
  rw [hostFrame_eq]
  have body : 3 ≤ inner.length → hostBody (spelled inner (crc (halfBytesOf inner.length ++ inner))) = inner.drop 3 := by
    intro long
    have split : spelled inner (crc (halfBytesOf inner.length ++ inner)) =
        (0xA5 :: halfBytesOf inner.length ++ inner.take 3) ++
          (inner.drop 3 ++ halfBytes (crc (halfBytesOf inner.length ++ inner))) := by
      simp [spelled, ← List.append_assoc (inner.take 3)]
    have before : (0xA5 :: halfBytesOf inner.length ++ inner.take 3).length = 6 := by
      simp [halfBytesOf_length, long]
    have rest : inner.length + 5 - 8 = (inner.drop 3).length := by simp
    unfold hostBody
    rw [spelled_length, split, ← before, List.drop_left, rest, List.take_left]
  unfold judgeHostFrame
  rw [if_neg (by simp [spelled_crcOk]), spelled_field (by omega), spelled_byteAt some]
  by_cases request : byteAt inner 0 = 1
  · rw [if_pos request, if_pos request]
    by_cases short : inner.length < 3
    · rw [if_pos short, if_pos short]
      rfl
    · rw [if_neg short, if_neg short, spelled_byteAt (by omega), spelled_byteAt (by omega), body (by omega)]
  · rw [if_neg request, if_neg request]
    rfl

end

/-! ### Several commands act as one -/

/-- The state with another level of ATTN. -/
def withAttn (level : Bool) (s : State) : State := { s with link := { s.link with attn := level } }

theorem setAttn_eq_withAttn (s : State) : s.setAttn = withAttn s.attnLevel s := rfl

theorem setAttn_withAttn (level : Bool) (s : State) : (withAttn level s).setAttn = s.setAttn := rfl

section
variable (level : Bool) (s : State)

theorem linkError_withAttn (reason : LinkReason) (tag : Option Byte) :
    linkError reason tag (withAttn level s) = withAttn level (linkError reason tag s) := by
  unfold linkError giveNotice queueNotice
  simp only [apply_ite (withAttn level)]
  rfl

theorem linkReset_withAttn : linkReset (withAttn level s) = withAttn level (linkReset s) := by
  have inbound : discardInbound (withAttn level s) = withAttn level (discardInbound s) := by
    unfold discardInbound
    rw [apply_ite (withAttn level), ← linkError_withAttn]
    rfl
  unfold linkReset
  rw [inbound]
  rfl

theorem considerRequest_withAttn (tag code : Byte) (body : List Byte) :
    considerRequest tag code body (withAttn level s) = withAttn level (considerRequest tag code body s) := by
  unfold considerRequest
  simp only [apply_ite (withAttn level), ← linkError_withAttn]
  rfl

theorem judgeHostFrame_withAttn (frame : List Byte) :
    judgeHostFrame frame (withAttn level s) = withAttn level (judgeHostFrame frame s) := by
  unfold judgeHostFrame
  simp only [apply_ite (withAttn level), linkError_withAttn, considerRequest_withAttn, linkReset_withAttn]

/-- The receiver does not read ATTN. -/
theorem receiveByte_withAttn (b : Byte) : receiveByte (withAttn level s) b = withAttn level (receiveByte s b) := by
  have inbound (frame : List Byte) : inboundByte frame (withAttn level s) = withAttn level (inboundByte frame s) := by
    unfold inboundByte
    simp only [apply_ite (withAttn level), ← linkError_withAttn, ← judgeHostFrame_withAttn]
    rfl
  unfold receiveByte
  simp only [apply_ite (withAttn level), ← inbound]
  rfl

theorem foldl_receiveByte_withAttn (bytes : List Byte) :
    bytes.foldl receiveByte (withAttn level s) = withAttn level (bytes.foldl receiveByte s) := by
  induction bytes generalizing s with
  | nil => rfl
  | cons b rest ih => rw [List.foldl_cons, receiveByte_withAttn, ih, List.foldl_cons]

end

/-! ### SEL while bytes arrive -/

section
variable (s : State)

theorem linkReset_sel : (linkReset s).link.sel = s.link.sel := by
  unfold linkReset discardInbound
  split <;> simp

theorem receiveByte_sel (b : Byte) : (receiveByte s b).link.sel = s.link.sel := by
  have consider (tag code : Byte) (body : List Byte) (u : State) :
      (considerRequest tag code body u).link.sel = u.link.sel := by
    unfold considerRequest
    split_ifs <;> simp [acceptRequest]
  have judged (frame : List Byte) (u : State) : (judgeHostFrame frame u).link.sel = u.link.sel := by
    unfold judgeHostFrame
    split_ifs <;> simp [consider, linkReset_sel]
  unfold receiveByte inboundByte
  split_ifs <;> simp [judged, holdInbound]

theorem foldl_receiveByte_sel (bytes : List Byte) : (bytes.foldl receiveByte s).link.sel = s.link.sel := by
  induction bytes generalizing s with
  | nil => rfl
  | cons b rest ih => rw [List.foldl_cons, ih, receiveByte_sel]

theorem inTransaction_of_asserted {s : State} (h : (s.link.sel || s.link.spi) = s.link.sel) : inTransaction s = s := by
  unfold inTransaction
  rw [h]
  rfl

/-- R158: SEL is asserted already when bytes have arrived in SPI mode. -/
theorem inTransaction_received (bytes : List Byte) :
    inTransaction (bytes.foldl receiveByte (inTransaction s)) = bytes.foldl receiveByte (inTransaction s) := by
  have sel := foldl_receiveByte_sel (inTransaction s) bytes
  have straps : (bytes.foldl receiveByte (inTransaction s)).link.spi = s.link.spi := by simp [HostLink.spi]
  have asserted : ((bytes.foldl receiveByte (inTransaction s)).link.sel ||
      (bytes.foldl receiveByte (inTransaction s)).link.spi) = (bytes.foldl receiveByte (inTransaction s)).link.sel := by
    rw [sel, straps]
    show (_ || _ || _) = (_ || _)
    rw [Bool.or_assoc, Bool.or_self]
  exact inTransaction_of_asserted asserted

end

/-- Bytes that come in two commands act as in one. -/
theorem exec_received_append (a b : List Byte) (s : State) :
    exec (.hostFrameReceived (a ++ b)) s =
      exec (.hostFrameReceived b) (a.foldl receiveByte (inTransaction s)).setAttn := by
  have again : inTransaction (a.foldl receiveByte (inTransaction s)).setAttn =
      withAttn (a.foldl receiveByte (inTransaction s)).attnLevel (a.foldl receiveByte (inTransaction s)) := by
    rw [setAttn_eq_withAttn, show ∀ level u, inTransaction (withAttn level u) = withAttn level (inTransaction u) from
      fun _ _ => rfl, inTransaction_received]
  show finish _ = finish _
  rw [again, foldl_receiveByte_withAttn, List.foldl_append]
  exact congrArg Host.Outcome.next (setAttn_withAttn _ _).symm

theorem exec_hostFrame {inner : List Byte} {s : State} (hunting : s.link.rx = []) (high : s.link.breakLow = false)
    (some : 1 ≤ inner.length) (few : inner.length ≤ 259) :
    exec (.hostFrameReceived (hostFrame inner)) s = finish (judgeHostFrame (hostFrame inner) (inTransaction s)) := by
  rw [hostFrame_eq]
  exact exec_spelled hunting high some few

/-- R161: the checks at acceptance, each carried to the end of the command. -/
theorem considerRequest_finished (tag code : Byte) (body : List Byte) (s : State) :
    finish (considerRequest tag code body s) =
      if tag = 0 then .next (giveNotice (.linkError .zeroTag (some 0)) s).setAttn
      else if ∃ q ∈ s.link.buffer, q.tag = tag then .next (giveNotice (.linkError .tagInUse (some tag)) s).setAttn
      else if 4 ≤ s.link.buffer.length then .next (giveNotice (.linkError .overrun (some tag)) s).setAttn
      else .next (acceptRequest tag code body s).setAttn := by
  unfold considerRequest
  simp only [List.any_eq_true, beq_iff_eq, apply_ite finish]
  rfl

/-- R160: a length field out of range is given up as soon as it is in. -/
theorem foldl_receiveByte_lengthField {s : State} (hunting : s.link.rx = []) (high : s.link.breakLow = false) {b0 b1 : Byte}
    (out : (b0 ++ b1 : Half).toNat = 0 ∨ 259 < (b0 ++ b1 : Half).toNat) :
    [0xA5, b0, b1].foldl receiveByte s = giveNotice (.linkError .length none) s := by
  have field : halfAt [0xA5, b0, b1] 1 = b0 ++ b1 := rfl
  have outside : ((halfAt [0xA5, b0, b1] 1).toNat = 0 || Config.maxHostLength < (halfAt [0xA5, b0, b1] 1).toNat) = true := by
    rw [Bool.or_eq_true, decide_eq_true_iff, decide_eq_true_iff, field]
    exact out
  have second : inboundByte ([0xA5] ++ [b0]) s = holdInbound [0xA5, b0] s := if_pos (show 2 < 3 by decide)
  rw [List.foldl_cons, receiveByte_first hunting high, List.foldl_cons, receiveByte_next (List.cons_ne_nil _ _) high, second,
    List.foldl_cons, List.foldl_nil, receiveByte_next (List.cons_ne_nil _ _) high]
  refine (if_neg (show ¬3 < 3 by decide)).trans ((if_pos outside).trans ?_)
  rw [hunt_of_hunting hunting]
  rfl

/-- Settles O30. -/
theorem hostFramesReceived : Obligations.HostFramesReceived := by
  refine ⟨fun tag code body s hunting high few => ?_, fun inner check s hunting high some few => ⟨fun wrong => ?_, ?_⟩,
    fun b0 b1 s hunting high range => ?_, fun bytes s passed => ?_,
    fun a b s => ⟨_, rfl, exec_received_append a b s⟩⟩
  · have received := exec_hostFrame (inner := [1, tag, code] ++ body) hunting high (by simp) (by simp; omega)
    have judged : judgeHostFrame (hostFrame ([1, tag, code] ++ body)) (inTransaction s) =
        considerRequest tag code body (inTransaction s) := by
      rw [judge_hostFrame (by simp) (by simp; omega)]
      exact (if_pos rfl).trans (if_neg (by simp))
    rw [received, judged, considerRequest_finished]
    rfl
  · refine (exec_spelled hunting high some few).trans ?_
    rw [judge_badCrc wrong]
    rfl
  · rw [exec_hostFrame hunting high some few, judge_hostFrame some few]
    refine ⟨fun notRequest notResync => ?_, fun request short => ?_, fun resync long => ?_⟩
    · rw [if_neg notRequest, if_neg notResync]
      rfl
    · rw [if_pos request, if_pos short]
      rfl
    · rw [if_neg (by rw [resync]; decide), if_pos resync, if_pos long]
      rfl
  · exact congrArg finish (foldl_receiveByte_lengthField (s := inTransaction s) hunting high range)
  · exact congrArg finish (foldl_receiveByte_passed (s := inTransaction s) bytes passed)

end Sys2Proof.Machine
end

section
/-! PROOFS. R151, R158, R159, R163, R164, R168: the other events of the host link. Settles O49, O50. -/

namespace Sys2Proof.Machine

set_option Elab.async false

/-! ### Frames cut short, and link resets -/

section
variable (s : State)

/-- R158, R159, R168: what a frame cut short leaves. -/
def cutInbound : State :=
  if s.link.rx = [] then s else
    { giveNotice (.linkError .truncated none) s with link := { s.link with rx := [] } }

/-- R168: what a link reset clears, once the inbound frame is gone. -/
def cleared (u : State) : State :=
  { u with
    notices := { u.notices with delivered := 0 },
    link := { u.link with buffer := [], outbound := none, held := none } }

theorem giveUpInbound_eq : giveUpInbound s = cutInbound s := by
  have notice : linkError .truncated none (hunt s) =
      { giveNotice (.linkError .truncated none) s with link := { s.link with rx := [] } } := by
    unfold linkError giveNotice queueNotice
    simp only [apply_ite (fun u : State => { u with link := { s.link with rx := [] } })]
    rfl
  unfold giveUpInbound cutInbound
  rw [notice]
  simp only [List.isEmpty_iff]

theorem linkReset_eq : linkReset s = cleared (cutInbound s) := by
  show cleared (giveUpInbound s) = _
  rw [giveUpInbound_eq]

theorem linkReset_of_hunting {s : State} (hunting : s.link.rx = []) : linkReset s = cleared s := by
  rw [linkReset_eq, cutInbound, if_pos hunting]

theorem cutInbound_link : (cutInbound s).link = { s.link with rx := [] } := by
  unfold cutInbound
  split
  · next hunting => rw [← hunting]
  · rfl

/-- R158: the end of a transaction holds the outbound frame in progress. -/
theorem dropSel_holdOutbound : dropSel (holdOutbound s) = { s with link := { s.link with
    sel := false, outbound := none, held := match s.link.outbound with
      | some f => some f
      | none => s.link.held } } := by
  unfold holdOutbound
  cases outbound : s.link.outbound with
  | some f => rfl
  | none =>
    show { s with link := { s.link with sel := false } } = { s with link := { s.link with sel := false, outbound := none } }
    rw [← outbound]

end

/-- Settles O49. -/
theorem inboundEventsResult : Obligations.InboundEventsResult := by
  intro s
  refine ⟨fun uart high => ?_, fun low => ?_, fun hunting high => ?_, fun uart => ?_, fun spi => ?_⟩
  · refine (if_neg (by simp [HostLink.spi, uart, high])).trans ?_
    rw [linkReset_eq]
    rfl
  · exact if_pos low
  · refine (exec_hostFrame (inner := [0x0F]) hunting high (by decide) (by decide)).trans ?_
    rw [judge_hostFrame (by decide) (by decide)]
    exact congrArg finish (linkReset_of_hunting (s := inTransaction s) hunting)
  · have event : finish (giveUpInbound s) = .next (cutInbound s).setAttn := congrArg finish (giveUpInbound_eq s)
    have notSpi : ¬s.link.spi = true := by simp [HostLink.spi, uart]
    exact ⟨(if_neg notSpi).trans event, (if_neg notSpi).trans event⟩
  · refine (if_pos spi).trans (congrArg finish ?_)
    rw [giveUpInbound_eq, dropSel_holdOutbound, show (cutInbound s).link.outbound = s.link.outbound by simp [cutInbound_link],
      show (cutInbound s).link.held = s.link.held by simp [cutInbound_link]]
    rfl

/-! ### The selector -/

section
variable {s : State}

/-- R164: while no frame is in progress or held, the reply of every TAKEN entry waits. -/
theorem oldestReply_of_idle (idle : s.link.outbound = none) (free : s.link.held = none) :
    oldestReply s.link = s.link.buffer.findSome? (fun q => q.reply.map (fun r => (q.tag, r))) := by
  have waits (q : Request) : s.link.replyWaits q = q.reply.isSome := by
    simp [HostLink.replyWaits, HostLink.begun, idle, free]
  unfold oldestReply
  congr
  funext q
  rw [waits]
  cases q.reply <;> rfl

theorem oldestReply_of_taken (idle : s.link.outbound = none) (free : s.link.held = none) {before after : List Request}
    {q : Request} {r : Reply} (buffer : s.link.buffer = before ++ q :: after) (reply : q.reply = some r)
    (accepted : ∀ p ∈ before, p.reply = none) : oldestReply s.link = some (q.tag, r) := by
  have none : before.findSome? (fun q => q.reply.map (fun r => (q.tag, r))) = none := by
    rw [List.findSome?_eq_none_iff]
    intro p hp
    rw [accepted p hp]
    rfl
  rw [oldestReply_of_idle idle free, buffer, List.findSome?_append, none, Option.none_or, List.findSome?_cons, reply]
  rfl

theorem oldestReply_of_accepted (idle : s.link.outbound = none) (free : s.link.held = none)
    (accepted : ∀ q ∈ s.link.buffer, q.reply = none) : oldestReply s.link = none := by
  rw [oldestReply_of_idle idle free, List.findSome?_eq_none_iff]
  intro p hp
  rw [accepted p hp]
  rfl

theorem exec_outboundSelect (idle : s.link.outbound = none) :
    exec .outboundSelect s = finish (selectFrame (inTransaction s)) :=
  if_neg (by simp [idle])

end

/-- What the selector does, by what it finds first. -/
theorem selectFrame_of_held {u : State} {f : OutFrame} (held : u.link.held = some f) :
    selectFrame u = beginOutbound f u := by
  unfold selectFrame
  rw [held]

theorem selectFrame_of_reply {u : State} {tag : Byte} {r : Reply} (free : u.link.held = none)
    (oldest : oldestReply u.link = some (tag, r)) :
    selectFrame u = beginOutbound { what := .reply tag, bytes := replyFrame tag r } u := by
  unfold selectFrame
  rw [free, oldest]

theorem selectFrame_of_notice {u : State} {n : Notice} (free : u.link.held = none) (oldest : oldestReply u.link = none)
    (next : u.notices.deliveryPoint = some n) :
    selectFrame u = beginOutbound { what := .notice n, bytes := noticeFrame n } (takeNotice u) := by
  unfold selectFrame
  rw [free, oldest, next]

theorem selectFrame_of_nothing {u : State} (free : u.link.held = none) (oldest : oldestReply u.link = none)
    (next : u.notices.deliveryPoint = none) : selectFrame u = u := by
  unfold selectFrame
  rw [free, oldest, next]

theorem beginOutbound_of_free {f : OutFrame} {u : State} (free : u.link.held = none) :
    beginOutbound f u = { u with link := { u.link with outbound := some f } } := by
  unfold beginOutbound State.withLink
  rw [← free]

/-- Settles O50. -/
theorem outboundEventsResult : Obligations.OutboundEventsResult := by
  intro s
  refine ⟨fun idle => ?_, fun tag bytes sending => ?_, fun n bytes sending => ?_⟩
  · rw [exec_outboundSelect idle]
    refine ⟨fun f held => ?_, fun before q after r free buffer reply accepted => ?_, fun n free accepted next => ?_,
      fun free accepted delivered => ?_⟩
    · exact congrArg finish (selectFrame_of_held (u := inTransaction s) held)
    · have still : (inTransaction s).link.held = none := free
      have oldest : oldestReply (inTransaction s).link = some (q.tag, r) :=
        oldestReply_of_taken (s := inTransaction s) idle free buffer reply accepted
      rw [selectFrame_of_reply still oldest, beginOutbound_of_free still]
      rfl
    · have still : (inTransaction s).link.held = none := free
      have oldest : oldestReply (inTransaction s).link = none :=
        oldestReply_of_accepted (s := inTransaction s) idle free accepted
      rw [selectFrame_of_notice still oldest next,
        beginOutbound_of_free (u := takeNotice (inTransaction s)) still]
      rfl
    · have still : (inTransaction s).link.held = none := free
      have oldest : oldestReply (inTransaction s).link = none :=
        oldestReply_of_accepted (s := inTransaction s) idle free accepted
      rw [selectFrame_of_nothing still oldest (List.getElem?_eq_none delivered)]
      rfl
  · show execReplySent s = _
    unfold execReplySent
    rw [sending]
    rfl
  · show execNoticeFrameSent s = _
    unfold execNoticeFrameSent
    rw [sending]
    rfl

end Sys2Proof.Machine
end

section
/-! PROOFS. R80 to R86, R94, R95: resolution, and the requests of the channel unit. Settles O40, O41. -/

namespace Sys2Proof.Machine

set_option Elab.async false

/-! ### Resolution -/

section
variable {entries : List Entry} {label : Byte}

theorem slotOfLabel_none (h : ∀ e ∈ entries, e.label? ≠ some label) : slotOfLabel entries label = none := by
  unfold slotOfLabel
  rw [List.findSome?_eq_none_iff]
  intro e he
  have other := h e he
  unfold Entry.label? at other
  cases slot : e.slot with
  | openSlot floor => rfl
  | cyclic n owner l payload =>
    rw [slot] at other
    exact if_neg fun same => other (congrArg some same)

theorem Entry.label?_cyclic {e : Entry} {n payload : Nat} {owner : Byte} (slot : e.slot = .cyclic n owner label payload) :
    e.label? = some label := by
  unfold Entry.label?
  rw [slot]

/-- R51, R83: where no label is repeated, the entry that carries a label is the one that is found. -/
theorem slotOfLabel_some (distinct : (entries.filterMap Entry.label?).Nodup) {e : Entry} {n payload : Nat} {owner : Byte}
    (mem : e ∈ entries) (slot : e.slot = .cyclic n owner label payload) :
    slotOfLabel entries label = some (owner, payload) := by
  have carried := e.label?_cyclic slot
  obtain ⟨before, after, rfl⟩ := List.append_of_mem mem
  rw [List.filterMap_append, List.filterMap_cons_some carried, List.nodup_middle, List.nodup_cons, ← List.filterMap_append]
    at distinct
  have none : slotOfLabel before label = none := slotOfLabel_none fun f hf same =>
    distinct.1 (List.mem_filterMap.2 ⟨f, List.mem_append_left _ hf, same⟩)
  unfold slotOfLabel at none ⊢
  rw [List.findSome?_append, none, Option.none_or, List.findSome?_cons, slot]
  simp

/-- R83: ABSENT, OWNER and LENGTH in this order. -/
theorem resolve_of_slot {address : Byte} {length payload : Nat} {owner : Byte} (d : Direction)
    (found : slotOfLabel entries label = some (owner, payload)) :
    resolve entries address label length d =
      if (match d with
        | .produce _ => owner != address
        | .consume _ => owner == address) then .owner
      else if payload ≠ length then .length else .resolved := by
  unfold resolve
  rw [found]
  cases d with
  | produce age => rfl
  | consume c =>
    simp only [Direction.ownerFits, bne, Bool.not_not]

end

/-! ### The record of a channel number -/

section
variable {s : State} (table : s.channels.length = 32)
include table

theorem State.channel_eq (n : Byte) :
    s.channel n = if 31 < n.toNat then none else some (s.channels.getD n.toNat none) := by
  unfold State.channel
  split
  · next above => exact List.getElem?_eq_none (by omega)
  · next within => rw [List.getD_eq_getElem _ _ (by omega), List.getElem?_eq_getElem (by omega)]

end

/-! ### BIND_CHANNEL and UNBIND_CHANNEL -/

/-- 10.6: the direction that a code which names one gives (R81). -/
def directionBound (dir miss stale : Byte) : Direction :=
  if dir = 1 then .produce none else
    .consume { state := .unscheduled, missCount := 0, missLimit := if miss = 0 then 3 else miss.toNat,
               staleLimit := stale, received := none }

/-- R80: the range checks of BIND_CHANNEL. -/
theorem bindFields_eq (n label dir len report miss stale : Byte) :
    bindFields [n, label, dir, len, report, miss, stale] =
      if label = 0 ∨ (dir ≠ 1 ∧ dir ≠ 2) ∨ len = 0 ∨ 64 < len.toNat ∨ 1 < report.toNat then none
      else some (directionBound dir miss stale) := by
  have least : 1 ≤ len ↔ len ≠ 0 := by bv_omega
  have most : len ≤ 64 ↔ len.toNat ≤ 64 := by bv_omega
  have flag : report ≤ 1 ↔ report.toNat ≤ 1 := by bv_omega
  have ranges : (label ≠ 0 && 1 ≤ len && len ≤ 64 && report ≤ 1) = true ↔
      label ≠ 0 ∧ len ≠ 0 ∧ len.toNat ≤ 64 ∧ report.toNat ≤ 1 := by
    simp only [Bool.and_eq_true, decide_eq_true_iff, least, most, flag, and_assoc]
  show (if (label ≠ 0 && 1 ≤ len && len ≤ 64 && report ≤ 1) = true then directionOf dir miss stale else none) = _
  by_cases good : label ≠ 0 ∧ len ≠ 0 ∧ len.toNat ≤ 64 ∧ report.toNat ≤ 1
  · obtain ⟨named, some, few, bit⟩ := good
    rw [if_pos (ranges.2 ⟨named, some, few, bit⟩)]
    have passes (code : dir = 1 ∨ dir = 2) :
        ¬(label = 0 ∨ (dir ≠ 1 ∧ dir ≠ 2) ∨ len = 0 ∨ 64 < len.toNat ∨ 1 < report.toNat) := by
      rintro (zero | other | empty | long | above)
      · exact named zero
      · exact code.elim other.1 other.2
      · exact some empty
      · omega
      · omega
    unfold directionOf directionBound
    by_cases produce : dir = 1
    · rw [if_neg (passes (.inl produce)), if_pos produce, if_pos produce]
    · by_cases consume : dir = 2
      · rw [if_neg (passes (.inr consume)), if_neg produce, if_pos consume, if_neg produce]
      · rw [if_neg produce, if_neg consume, if_pos (.inr (.inl ⟨produce, consume⟩))]
  · rw [if_neg (fun h => good (ranges.1 h)), if_pos]
    by_contra passes
    simp only [not_or, not_lt] at passes
    obtain ⟨named, -, some, few, bit⟩ := passes
    exact good ⟨named, some, few, bit⟩

/-- R81: the direction of a channel as it is bound, once its label is resolved. -/
def Direction.begun (found : Resolution) : Direction → Direction
  | .produce age => .produce age
  | .consume c => .consume { c with state := if found = .resolved then .waiting else .unscheduled }

theorem directionBound_follow (dir miss stale : Byte) (found : Resolution) :
    (directionBound dir miss stale).follow .absent found = (directionBound dir miss stale).begun found := by
  unfold directionBound
  split
  · rfl
  · by_cases resolved : found = .resolved
    · subst resolved
      rfl
    · exact (if_pos resolved).trans (by simp [Direction.begun, resolved])

/-- R81: the record of a channel that becomes bound. -/
def boundRecord (label : Byte) (length : Nat) (report : Bool) (d : Direction) (found : Resolution) : Channel :=
  { label := label, length := length, report := report, value := none, resolution := found, direction := d.begun found }

theorem boundChannel_eq (label dir miss stale : Byte) (length : Nat) (report : Bool) (s : State) :
    boundChannel s label length report (directionBound dir miss stale) =
      boundRecord label length report (directionBound dir miss stale)
        (resolve s.sched.active.entries s.cycle.address label length (directionBound dir miss stale)) := by
  unfold boundRecord
  rw [← directionBound_follow]
  rfl

theorem boundRecord_bindReply (label dir miss stale : Byte) (length : Nat) (report : Bool) (found : Resolution) :
    (boundRecord label length report (directionBound dir miss stale) found).bindReply =
      [found.code, if dir = 1 then 0
        else (if found = .resolved then ConsumeState.waiting else ConsumeState.unscheduled).code] := by
  unfold directionBound
  split <;> rfl

theorem exists_label_iff {channels : List (Option Channel)} {label : Byte} :
    (channelOfLabel label 0 channels).isSome = true ↔ ∃ o ∈ channels, o.any (fun c => c.label == label) = true := by
  have absent := channelOfLabel_none (label := label) (channels := channels) (number := 0)
  rw [Option.isSome_iff_ne_none, Ne, absent, not_not, mem_labelsOf]
  constructor
  · rintro ⟨c, hc, named⟩
    exact ⟨some c, hc, by simp [named]⟩
  · rintro ⟨o, ho, named⟩
    cases o with
    | none => cases named
    | some c => exact ⟨c, ho, by simpa using named⟩

section
variable {s : State} (table : s.channels.length = 32)
include table

theorem bindRequest_eq (n label dir len report miss stale : Byte) {d : Direction} {found : Resolution}
    (direction : d = directionBound dir miss stale)
    (resolved : found = resolve s.sched.active.entries s.cycle.address label len.toNat d) :
    bindRequest [n, label, dir, len, report, miss, stale] s =
      if 31 < n.toNat then (⟨.unknownChannel, []⟩, s)
      else if (s.channels.getD n.toNat none).isSome then (⟨.wrongState, []⟩, s)
      else if label = 0 ∨ (dir ≠ 1 ∧ dir ≠ 2) ∨ len = 0 ∨ 64 < len.toNat ∨ 1 < report.toNat then (⟨.badValue, []⟩, s)
      else if ∃ o ∈ s.channels, o.any (fun c => c.label == label) = true then (⟨.duplicateLabel, []⟩, s)
      else (⟨.ok, [found.code, if dir = 1 then 0
          else (if found = .resolved then ConsumeState.waiting else ConsumeState.unscheduled).code]⟩,
        { s with channels := s.channels.set n.toNat (some (boundRecord label len.toNat (report == 1) d found)) }) := by
  subst direction resolved
  have record := boundChannel_eq label dir miss stale len.toNat (report == 1) s
  have channel : s.channel (byteAt [n, label, dir, len, report, miss, stale] 0) = _ := s.channel_eq table n
  unfold bindRequest
  rw [channel, bindFields_eq]
  by_cases above : 31 < n.toNat
  · rw [if_pos above, if_pos above]
    rfl
  · rw [if_neg above, if_neg above]
    cases bound : s.channels.getD n.toNat none with
    | some c => rfl
    | none =>
      by_cases range : label = 0 ∨ (dir ≠ 1 ∧ dir ≠ 2) ∨ len = 0 ∨ 64 < len.toNat ∨ 1 < report.toNat
      · simp only [if_pos range]
        rfl
      · simp only [if_neg range]
        by_cases used : ∃ o ∈ s.channels, o.any (fun c => c.label == label) = true
        · refine (if_pos (exists_label_iff.2 used)).trans ?_
          rw [if_pos used]
          rfl
        · refine (if_neg (fun h => used (exists_label_iff.1 h))).trans ?_
          rw [if_neg used]
          rw [← boundRecord_bindReply label dir miss stale len.toNat (report == 1), ← record]
          rfl

theorem unbindRequest_eq (n : Byte) : unbindRequest [n] s =
    if 31 < n.toNat then (⟨.unknownChannel, []⟩, s)
    else if (s.channels.getD n.toNat none).isNone then (⟨.wrongState, []⟩, s)
    else (⟨.ok, []⟩, { s with channels := s.channels.set n.toNat none }) := by
  have channel : s.channel (byteAt [n] 0) = _ := s.channel_eq table n
  unfold unbindRequest
  rw [channel]
  by_cases above : 31 < n.toNat
  · rw [if_pos above, if_pos above]
    rfl
  · rw [if_neg above, if_neg above]
    cases s.channels.getD n.toNat none <;> rfl

end

/-- Settles O40. -/
theorem bindAndUnbindResult : Obligations.BindAndUnbindResult := by
  refine ⟨fun entries address label length d distinct => ⟨fun absent => ?_, fun e n owner payload mem slot => ?_⟩,
    fun n label dir len report miss stale s table => ⟨fun h => ?_, fun h => ?_⟩⟩
  · unfold resolve
    rw [slotOfLabel_none absent]
  · exact resolve_of_slot d (slotOfLabel_some distinct mem slot)
  · refine (request_replied h rfl (bindRequest_eq table n label dir len report miss stale rfl rfl)).trans ?_
    dsimp only [directionBound, boundRecord, Direction.begun]
    split_ifs <;> rfl
  · refine (request_replied h rfl (unbindRequest_eq table n)).trans ?_
    split_ifs <;> rfl


/-! ### WRITE_CHANNEL, READ_CHANNEL and READ_CHANNELS -/

theorem span_request_allows {least most : Nat} {code : Byte} {body : List Byte}
    (shape : bodyShape code = some (.span least most)) (enough : least ≤ body.length) (fits : body.length ≤ most) :
    (bodyShape code).any (fun shape => shape.allows body) = true := by
  rw [shape]
  simp [BodyShape.allows, enough, fits]

section
variable {s : State} (table : s.channels.length = 32)
include table

theorem writeRequest_eq (n : Byte) (value : List Byte) : writeRequest (n :: value) s =
    if 31 < n.toNat then (⟨.unknownChannel, []⟩, s)
    else match s.channels.getD n.toNat none with
      | none => (⟨.wrongState, []⟩, s)
      | some c => match c.direction with
        | .consume _ => (⟨.wrongState, []⟩, s)
        | .produce _ =>
          if value.length ≠ c.length then (⟨.badValue, [byteOf c.length]⟩, s)
          else (⟨.ok, [c.resolution.code]⟩, { s with channels := s.channels.set n.toNat (some
            { c with value := some value, direction := .produce (some 0) }) }) := by
  have channel : s.channel (byteAt (n :: value) 0) = _ := s.channel_eq table n
  unfold writeRequest
  rw [channel]
  by_cases above : 31 < n.toNat
  · rw [if_pos above, if_pos above]
    rfl
  · rw [if_neg above, if_neg above]
    cases s.channels.getD n.toNat none with
    | none => rfl
    | some c => cases direction : c.direction <;> simp only [direction] <;> rfl

theorem readRequest_eq (n : Byte) : readRequest [n] s =
    if 31 < n.toNat then (⟨.unknownChannel, []⟩, s)
    else (⟨.ok, channelRecord n.toNat (s.channels.getD n.toNat none)⟩, s) := by
  have channel : s.channel (byteAt [n] 0) = _ := s.channel_eq table n
  unfold readRequest
  rw [channel]
  by_cases above : 31 < n.toNat
  · rw [if_pos above, if_pos above]
    rfl
  · rw [if_neg above, if_neg above]
    rfl

theorem channel_isSome_iff (n : Byte) : (s.channel n).isSome = decide (n.toNat ≤ 31) := by
  rw [s.channel_eq table n]
  split
  · next above => simp [above]
  · next within => simpa using within

theorem channel_of_known {n : Byte} (known : n.toNat ≤ 31) : (s.channel n).bind id = s.channels.getD n.toNat none := by
  rw [s.channel_eq table n, if_neg (Nat.not_lt.2 known)]
  rfl

/-- R95: 14 bytes a channel, and the lengths of the bound ones. -/
theorem fitTotal_eq {numbers : List Byte} (known : ∀ k ∈ numbers, k.toNat ≤ 31) : fitTotal s numbers =
    1 + 14 * numbers.length + (numbers.map (fun k => ((s.channels.getD k.toNat none).map (·.length)).getD 0)).sum := by
  have each : numbers.map (fitBytes s) =
      numbers.map (fun k => 14 + ((s.channels.getD k.toNat none).map (·.length)).getD 0) :=
    List.map_congr_left fun k hk => by rw [fitBytes, channel_of_known table (known k hk)]
  unfold fitTotal
  rw [each, List.sum_map_add]
  simp
  omega

theorem recordOf_flatMap {numbers : List Byte} (known : ∀ k ∈ numbers, k.toNat ≤ 31) :
    numbers.flatMap (recordOf s) =
      numbers.flatMap (fun k => channelRecord k.toNat (s.channels.getD k.toNat none)) :=
  List.flatMap_congr fun k hk => by rw [recordOf, channel_of_known table (known k hk)]

theorem readManyRequest_eq (n : Byte) (numbers : List Byte) : readManyRequest (n :: numbers) s =
    if n.toNat < 1 ∨ 8 < n.toNat then (⟨.badValue, [0]⟩, s)
    else match firstFailing (fun k => decide (k.toNat ≤ 31)) 1 numbers with
      | some place => (⟨.unknownChannel, [byteOf place]⟩, s)
      | none =>
        if 256 < fitTotal s numbers then (⟨.badValue, [0]⟩, s)
        else (⟨.ok, n :: numbers.flatMap (recordOf s)⟩, s) := by
  have range : (decide (n < 1) || decide (8 < n)) = true ↔ n.toNat < 1 ∨ 8 < n.toNat := by
    rw [Bool.or_eq_true, decide_eq_true_iff, decide_eq_true_iff]
    exact Iff.rfl
  unfold readManyRequest
  simp only [channel_isSome_iff table]
  show (if (decide (n < 1) || decide (8 < n)) = true then _ else _) = _
  by_cases out : n.toNat < 1 ∨ 8 < n.toNat
  · rw [if_pos (range.2 out), if_pos out]
    rfl
  · rw [if_neg (fun h => out (range.1 h)), if_neg out]
    rfl

end

/-- Settles O41. -/
theorem channelValuesResult : Obligations.ChannelValuesResult := by
  refine fun n value numbers s table => ⟨fun some few h => ?_, fun h => ?_, fun h counted => ?_⟩
  · refine (request_replied h (span_request_allows rfl (Nat.succ_le_succ some) (Nat.succ_le_succ few))
      (writeRequest_eq table n value)).trans ?_
    split
    · rfl
    · cases s.channels.getD n.toNat none with
      | none => rfl
      | some c =>
        dsimp only
        cases c.direction with
        | consume d => rfl
        | produce age =>
          dsimp only
          split <;> rfl
  · refine (request_replied h rfl (readRequest_eq table n)).trans ?_
    split <;> rfl
  · have reading {p : Reply × State} (eq : readManyRequest (n :: numbers) s = p) :
        exec .readChannels s = replied p.1 p.2 :=
      request_replied h (counted_request_allows rfl (by simp [byteAt, counted, Nat.add_comm])) eq
    refine ⟨fun out => ?_, fun least most before bad after split known unknown => ?_, fun least most known => ?_⟩
    · exact reading ((readManyRequest_eq table n numbers).trans (if_pos out))
    · have fails : firstFailing (fun k => decide (k.toNat ≤ 31)) 1 numbers = some (before.length + 1) := by
        rw [split, Nat.add_comm]
        exact firstFailing_some (by simpa using known) (by simpa using unknown) 1
      refine reading (p := (⟨.unknownChannel, [byteOf (before.length + 1)]⟩, s))
        ((readManyRequest_eq table n numbers).trans ((if_neg (by omega)).trans ?_))
      rw [fails]
    · have passes : firstFailing (fun k => decide (k.toNat ≤ 31)) 1 numbers = none :=
        firstFailing_none (by simpa using known) 1
      have fit := fitTotal_eq table known
      rw [counted] at fit
      rw [← fit, ← recordOf_flatMap table known]
      have whole : readManyRequest (n :: numbers) s = if 256 < fitTotal s numbers then (⟨.badValue, [0]⟩, s)
          else (⟨.ok, n :: numbers.flatMap (recordOf s)⟩, s) := by
        rw [readManyRequest_eq table, if_neg (by omega), passes]
      refine (reading whole).trans ?_
      split <;> rfl

end Sys2Proof.Machine
end

section
/-! PROOFS. R104 to R107: SEND_MESSAGE, MESSAGE_PIECE and ABORT_MESSAGE. Settles O42, O44. -/

namespace Sys2Proof.Machine

set_option Elab.async false

/-- R101: the blocks of a piece, as the requests write them. -/
theorem piecesBlocks_eq (o p : Nat) : piecesBlocks o p = (o + p + 63) / 64 - (o + 63) / 64 := rfl

theorem piecesBlocks_zero (p : Nat) : piecesBlocks 0 p = (p + 63) / 64 := by
  rw [piecesBlocks_eq, Nat.zero_add]
  rfl

/-! ### SEND_MESSAGE -/

theorem destinationOk_iff (dest address : Byte) : destinationOk dest address = true ↔
    ¬(dest = 0 ∨ dest = 63 ∨ (128 ≤ dest.toNat ∧ dest.toNat ≤ 254) ∨ dest = address) := by
  have range : (128 ≤ dest ∧ dest ≤ 254) ↔ 128 ≤ dest.toNat ∧ dest.toNat ≤ 254 := Iff.rfl
  rw [← range]
  simp only [destinationOk, Bool.and_eq_true, Bool.not_eq_true', Bool.and_eq_false_iff, decide_eq_true_iff,
    decide_eq_false_iff_not]
  tauto

/-- R104: the checks of SEND_MESSAGE in order. -/
theorem sendRequest_eq (dest cls b0 b1 : Byte) (piece : List Byte) (s : State) :
    sendRequest (dest :: cls :: b0 :: b1 :: piece) s =
      if dest = 0 ∨ dest = 63 ∨ (128 ≤ dest.toNat ∧ dest.toNat ≤ 254) ∨ dest = s.cycle.address then
        (⟨.badValue, [1]⟩, s)
      else if 3 < cls.toNat then (⟨.badValue, [2]⟩, s)
      else if (b0 ++ b1).toNat = 0 ∨ 1024 < (b0 ++ b1).toNat then (⟨.badValue, [3]⟩, s)
      else if (b0 ++ b1).toNat < piece.length then (⟨.lengthExceeded, []⟩, s)
      else if 8 ≤ s.tx.queue.length then (⟨.queueFull, []⟩, s)
      else if s.tx.free < (piece.length + 63) / 64 then
        (⟨.noRoom, []⟩, { s with tx := { s.tx with roomWatch := true } })
      else acceptMessage dest cls.toNat (b0 ++ b1).toNat piece s := by
  have fields : byteAt (dest :: cls :: b0 :: b1 :: piece) 0 = dest ∧ byteAt (dest :: cls :: b0 :: b1 :: piece) 1 = cls ∧
      halfAt (dest :: cls :: b0 :: b1 :: piece) 2 = b0 ++ b1 ∧ (dest :: cls :: b0 :: b1 :: piece).drop 4 = piece :=
    ⟨rfl, rfl, rfl, rfl⟩
  obtain ⟨at0, at1, at2, rest⟩ := fields
  have range : (decide ((b0 ++ b1 : Half).toNat < 1) || decide (Config.maxMessage < (b0 ++ b1 : Half).toNat)) = true ↔
      (b0 ++ b1 : Half).toNat = 0 ∨ 1024 < (b0 ++ b1 : Half).toNat := by
    rw [Bool.or_eq_true, decide_eq_true_iff, decide_eq_true_iff, Nat.lt_one_iff]
    exact Iff.rfl
  have badDest : (!destinationOk dest s.cycle.address) = true ↔
      dest = 0 ∨ dest = 63 ∨ (128 ≤ dest.toNat ∧ dest.toNat ≤ 254) ∨ dest = s.cycle.address := by
    rw [Bool.not_eq_true', ← Bool.not_eq_true, destinationOk_iff, not_not]
  unfold sendRequest
  rw [at0, at1, at2, rest]
  simp only [badDest, range, piecesBlocks_zero]
  rfl

/-- R99, R100, R105: what a message that is taken becomes. -/
theorem acceptMessage_spec (dest : Byte) (cls total : Nat) (piece : List Byte) {s : State} (room : s.tx.queue.length < 8) :
    ∃ id before after,
      s.tx.queue = before ++ after ∧ (∀ m ∈ before, m.waiting = true → cls ≤ m.cls) ∧
      (∀ m ∈ after.head?, m.waiting = true ∧ m.cls < cls) ∧
      (∀ m ∈ s.tx.queue, m.id ≠ id) ∧
      (∀ k < (id - s.tx.idCounter).toNat, ∃ m ∈ s.tx.queue, m.id = s.tx.idCounter + BitVec.ofNat 8 k) ∧
      acceptMessage dest cls total piece s =
        (⟨.ok, id :: halfBytesOf piece.length ++ [byteOf (s.tx.free - (piece.length + 63) / 64)]⟩,
          { s with tx := { s.tx with
            queue := before ++ newMessage id dest cls total piece :: after,
            free := s.tx.free - (piece.length + 63) / 64, idCounter := id + 1 } }) := by
  obtain ⟨k, small, found, used, fresh⟩ := freeId_free (q := s.tx.queue) (by omega) s.tx.idCounter
  obtain ⟨before, after, split, inserted, passed, next⟩ :=
    insertWaiting_split (newMessage (freeId s.tx.queue 9 s.tx.idCounter) dest cls total piece) s.tx.queue
  refine ⟨freeId s.tx.queue 9 s.tx.idCounter, before, after, split, passed, next, fresh, fun j hj => ?_, ?_⟩
  · have distance : (freeId s.tx.queue 9 s.tx.idCounter - s.tx.idCounter).toNat = k := by
      rw [found, add_sub_cancel_left, BitVec.toNat_ofNat]
      omega
    exact used j (distance ▸ hj)
  · unfold acceptMessage
    simp only [inserted, piecesBlocks_zero]
    rfl

/-- Settles O42. -/
theorem sendMessageResult : Obligations.SendMessageResult := by
  intro dest cls b0 b1 piece s h short total need
  have sending {p : Reply × State} (eq : sendRequest (dest :: cls :: b0 :: b1 :: piece) s = p) :
      exec .sendMessage s = replied p.1 p.2 :=
    request_replied h (span_request_allows rfl (Nat.le_add_left 4 _) (Nat.add_le_add_right short 4)) eq
  have checks := sendRequest_eq dest cls b0 b1 piece s
  refine ⟨fun bad => sending (checks.trans (if_pos bad)), fun good => ?_⟩
  rw [if_neg good] at checks
  split_ifs with badClass badTotal exceeded full noRoom
  · exact sending (checks.trans (if_pos badClass))
  all_goals rw [if_neg badClass] at checks
  · exact sending (checks.trans (if_pos badTotal))
  all_goals rw [if_neg badTotal] at checks
  · exact sending (checks.trans (if_pos exceeded))
  all_goals rw [if_neg exceeded] at checks
  · exact sending (checks.trans (if_pos full))
  all_goals rw [if_neg full] at checks
  · exact sending (checks.trans (if_pos noRoom))
  · rw [if_neg noRoom] at checks
    obtain ⟨id, before, after, split, passed, next, fresh, used, taken⟩ :=
      acceptMessage_spec dest cls.toNat total piece (Nat.lt_of_not_le full)
    exact ⟨id, before, after, split, passed, next, fresh, used, sending (checks.trans taken)⟩


/-! ### MESSAGE_PIECE and ABORT_MESSAGE -/

section
variable {s : State} {id : Byte} {before after : List Message} {m : Message} (queue : s.tx.queue = before ++ m :: after)
  (distinct : (s.tx.queue.map (·.id)).Nodup) (named : m.id = id)
include queue distinct named

theorem messageOf_queue : messageOf s.tx.queue id = some m := by
  subst named
  rw [queue] at distinct ⊢
  exact messageOf_middle distinct

/-- R106: the checks of MESSAGE_PIECE in order. -/
theorem pieceRequest_eq (b0 b1 : Byte) (piece : List Byte) : pieceRequest (id :: b0 :: b1 :: piece) s =
    if m.abortingNow then (⟨.wrongState, []⟩, s)
    else if (b0 ++ b1).toNat ≠ m.data.length then (⟨.badValue, halfBytesOf m.data.length⟩, s)
    else if m.total < (b0 ++ b1).toNat + piece.length then (⟨.lengthExceeded, []⟩, s)
    else if s.tx.free < ((b0 ++ b1).toNat + piece.length + 63) / 64 - ((b0 ++ b1).toNat + 63) / 64 then
      (⟨.noRoom, []⟩, { s with tx := { s.tx with roomWatch := true } })
    else (⟨.ok, id :: halfBytesOf (m.data.length + piece.length) ++ [byteOf (s.tx.free -
        (((b0 ++ b1).toNat + piece.length + 63) / 64 - ((b0 ++ b1).toNat + 63) / 64))]⟩,
      { s with tx := { s.tx with
        free := s.tx.free - (((b0 ++ b1).toNat + piece.length + 63) / 64 - ((b0 ++ b1).toNat + 63) / 64),
        queue := before ++ { m with data := m.data ++ piece } :: after } }) := by
  have fields : byteAt (id :: b0 :: b1 :: piece) 0 = id ∧ halfAt (id :: b0 :: b1 :: piece) 1 = b0 ++ b1 ∧
      (id :: b0 :: b1 :: piece).drop 3 = piece := ⟨rfl, rfl, rfl⟩
  obtain ⟨at0, at1, rest⟩ := fields
  unfold pieceRequest
  rw [at0, at1, rest, messageOf_queue queue distinct named]
  dsimp only
  by_cases offset : (b0 ++ b1 : Half).toNat = m.data.length
  · have joined : replaceMessage s.tx.queue m.id { m with data := m.data ++ piece } =
        before ++ { m with data := m.data ++ piece } :: after := by
      rw [queue] at distinct ⊢
      exact replaceMessage_middle distinct _
    have appended : appendPiece m piece s = (⟨.ok, id :: halfBytesOf (m.data.length + piece.length) ++
          [byteOf (s.tx.free - ((m.data.length + piece.length + 63) / 64 - (m.data.length + 63) / 64))]⟩,
        { s with tx := { s.tx with
          free := s.tx.free - ((m.data.length + piece.length + 63) / 64 - (m.data.length + 63) / 64),
          queue := before ++ { m with data := m.data ++ piece } :: after } }) := by
      unfold appendPiece
      dsimp only
      rw [joined, named, List.length_append]
      rfl
    rw [appended, offset]
    rfl
  · simp only [if_pos offset, ne_eq]
    rfl

/-- R107: ABORT_MESSAGE on a WAITING message. -/
theorem abortRequest_waiting (waiting : m.state = .waiting) : abortRequest [id] s =
    (⟨.ok, [1]⟩, examineRoom m.blocks
      { s with tx := { s.tx with queue := before ++ after, free := s.tx.free + m.blocks } }) := by
  have removed : s.tx.queue.filter (fun x => x.id != m.id) = before ++ after := by
    rw [queue] at distinct ⊢
    exact removeMessage_middle distinct
  unfold abortRequest
  rw [show byteAt [id] 0 = id from rfl, messageOf_queue queue distinct named]
  dsimp only
  rw [waiting]
  dsimp only
  unfold removeWaiting
  rw [removed]
  rfl

theorem abortRequest_inFlight {r : InFlight} (state : m.state = .inFlight r) :
    abortRequest [id] s = (⟨.ok, [2]⟩, abortInFlight m r s) := by
  unfold abortRequest
  rw [show byteAt [id] 0 = id from rfl, messageOf_queue queue distinct named]
  dsimp only
  rw [state]
  rfl

theorem abortRequest_aborting {r : InFlight} {reason : FailReason} {k : Nat} (state : m.state = .aborting r reason k) :
    abortRequest [id] s = (⟨.ok, [3]⟩, s) := by
  unfold abortRequest
  rw [show byteAt [id] 0 = id from rfl, messageOf_queue queue distinct named]
  dsimp only
  rw [state]
  rfl

omit named in
/-- R118: an abort is pending while a segment of the message is on the line. -/
theorem abortInFlight_onLine {r : InFlight} (onLine : s.tx.onLine.isSome) : abortInFlight m r s =
    { s with tx := { s.tx with
      queue := before ++ { m with state := .inFlight { r with abortPending := true } } :: after } } := by
  have marked : replaceMessage s.tx.queue m.id { m with state := .inFlight { r with abortPending := true } } =
      before ++ { m with state := .inFlight { r with abortPending := true } } :: after := by
    rw [queue] at distinct ⊢
    exact replaceMessage_middle distinct _
  unfold abortInFlight
  rw [if_pos onLine, marked]
  rfl

end

/-- R116: a message that enters ABORTING, as the requests and the limits write it. -/
theorem enterAborting_eq (m : Message) (r : InFlight) (rest : List Message) (reason : FailReason) (s : State) :
    enterAborting m r rest reason s =
      if r.next = 0 then failFirst m rest reason false s
      else examineRoom m.blocks { s with tx := { s.tx with
        queue := { m with data := m.data.take m.sent,
                          state := .aborting { r with abortPending := false } reason 0 } :: rest,
        free := s.tx.free + m.blocks } } := rfl

theorem abortInFlight_offLine {s : State} {m : Message} {after : List Message} {r : InFlight}
    (queue : s.tx.queue = m :: after) (offLine : s.tx.onLine = none) :
    abortInFlight m r s = enterAborting m r after .host s := by
  unfold abortInFlight
  rw [if_neg (by simp [offLine]), queue]
  rfl

/-- Settles O44. -/
theorem pieceAndAbortResult : Obligations.PieceAndAbortResult := by
  intro id b0 b1 piece s some short
  have piecing {p : Reply × State} (h : s.takes 0x31 (id :: b0 :: b1 :: piece))
      (eq : pieceRequest (id :: b0 :: b1 :: piece) s = p) : exec .messagePiece s = replied p.1 p.2 :=
    request_replied h (span_request_allows rfl (Nat.add_le_add_right some 3) (Nat.add_le_add_right short 3)) eq
  have aborting {p : Reply × State} (h : s.takes 0x32 [id]) (eq : abortRequest [id] s = p) :
      exec .abortMessage s = replied p.1 p.2 := request_replied h rfl eq
  refine ⟨fun absent => ⟨fun h => ?_, fun h => ?_⟩, fun before m after queue distinct named => ⟨fun h => ?_, fun h => ?_⟩⟩
  · refine piecing h (p := (⟨.unknownHandle, []⟩, s)) ?_
    unfold pieceRequest
    rw [show byteAt (id :: b0 :: b1 :: piece) 0 = id from rfl, messageOf_none.2 absent]
    rfl
  · refine aborting h (p := (⟨.unknownHandle, []⟩, s)) ?_
    unfold abortRequest
    rw [show byteAt [id] 0 = id from rfl, messageOf_none.2 absent]
    rfl
  · refine (piecing h (pieceRequest_eq queue distinct named b0 b1 piece)).trans ?_
    split_ifs <;> rfl
  · refine ⟨fun waiting => ?_, fun r state onLine => ?_, fun r state offLine first => ?_, fun r reason k state => ?_⟩
    · exact aborting h (abortRequest_waiting queue distinct named waiting)
    · refine (aborting h (abortRequest_inFlight queue distinct named state)).trans ?_
      rw [abortInFlight_onLine queue distinct onLine]
    · have front : s.tx.queue = m :: after := by rw [queue, first]; rfl
      refine (aborting h (abortRequest_inFlight queue distinct named state)).trans ?_
      rw [abortInFlight_offLine front offLine, enterAborting_eq]
      split <;> rfl
    · exact aborting h (abortRequest_aborting queue distinct named state)

end Sys2Proof.Machine
end

section
/-! PROOFS. R108, R122, R141 to R143: the readings of the message units, SET_GROUPS, READ_MESSAGE and RELEASE_MESSAGE.
Settles O45, O46. -/

namespace Sys2Proof.Machine

set_option Elab.async false

/-! ### READ_OUTBOUND and READ_INBOUND -/

/-- R110: a message past WAITING contends with the highest class that waits, if that is higher than its own. -/
theorem effectiveClass_begun {m : Message} (begun : m.waiting = false) (q : List Message) :
    effectiveClass m q = max m.cls (highestWaiting q) := if_neg (by simp [begun])

/-- 10.4: the last bytes of an outbound record, by the state of the message. -/
theorem Message.record_state (m : Message) (q : List Message) :
    [m.state.code, byteOf m.blocks] ++ m.stateBytes q =
      match m.state with
      | .waiting => [1, byteOf m.blocks, 0, 0, 0, 0, 0, 0, 0]
      | .inFlight r => [2, byteOf m.blocks, byteOf r.next, byteOf r.sinceWon, byteOf r.starve, byteOf r.disturbed,
          byteOf (max m.cls (highestWaiting q)), 0, 0]
      | .aborting r reason k => [3, 0, byteOf r.next, byteOf r.sinceWon, byteOf r.starve, byteOf r.disturbed,
          byteOf (max m.cls (highestWaiting q)), reason.code, byteOf k] := by
  unfold Message.stateBytes
  cases state : m.state with
  | waiting => rfl
  | inFlight r =>
    rw [effectiveClass_begun (by simp [Message.waiting, state])]
    rfl
  | aborting r reason k =>
    rw [effectiveClass_begun (by simp [Message.waiting, state]), show m.blocks = 0 by simp [Message.blocks, state]]
    rfl

/-- 10.4: the open contexts, each behind its place. -/
theorem contextRecords_eq (places : List (Option Context)) (p : Nat) : contextRecords p places =
    ((places.zipIdx p).filterMap (fun x => x.1.map (fun c => (x.2, c)))).flatMap (fun x => x.2.record x.1) := by
  induction places generalizing p with
  | nil => rfl
  | cons o rest ih =>
    rw [List.zipIdx_cons]
    cases o with
    | none => exact ih (p + 1)
    | some c => exact congrArg (c.record p ++ ·) (ih (p + 1))

theorem openContexts_count (places : List (Option Context)) :
    places.countP Option.isSome = (places.filterMap id).length := by
  induction places with
  | nil => rfl
  | cons o rest ih => cases o <;> simp [ih]

/-- Settles O45. -/
theorem messageUnitsRead : Obligations.MessageUnitsRead := by
  refine fun s => ⟨fun h => ?_, fun h => ?_⟩
  · refine request_replied h rfl (p := (⟨.ok, _⟩, s)) ?_
    refine congrArg (fun body => ((⟨.ok, body⟩ : Reply), s)) (congrArg₂ (· ++ ·) rfl (List.flatMap_congr fun m _ => ?_))
    unfold Message.record
    rw [List.append_assoc _ [m.state.code, byteOf m.blocks]]
    exact congrArg₂ (· ++ ·) rfl ((m.record_state s.tx.queue).trans (by cases m.state <;> rfl))
  · refine request_replied h rfl (p := (⟨.ok, _⟩, s)) ?_
    unfold readInboundRequest
    rw [contextRecords_eq, openContexts_count, groupBytes, ← List.append_assoc _ s.rx.groups]
    rfl

/-! ### SET_GROUPS -/

section
variable {s : State} {k : Byte}

theorem groupFault_test {g : Byte} {seen : List Byte} :
    (!(64 ≤ g && g ≤ 127) || seen.contains g) = true ↔ ¬(64 ≤ g.toNat ∧ g.toNat ≤ 127) ∨ g ∈ seen := by
  rw [Bool.or_eq_true, Bool.not_eq_true', ← Bool.not_eq_true, Bool.and_eq_true, decide_eq_true_iff, decide_eq_true_iff,
    List.contains_iff_mem]
  exact Iff.rfl

/-- R122: ids in range and all different pass. -/
theorem groupFault_passes {seen ids : List Byte} (distinct : ids.Nodup) (unseen : ∀ g ∈ ids, g ∉ seen)
    (ranged : ∀ g ∈ ids, 64 ≤ g.toNat ∧ g.toNat ≤ 127) (place : Nat) : groupFault seen place ids = none := by
  induction ids generalizing seen place with
  | nil => rfl
  | cons g rest ih =>
    obtain ⟨fresh, distinct⟩ := List.nodup_cons.1 distinct
    obtain ⟨new, unseen⟩ := List.forall_mem_cons.1 unseen
    obtain ⟨range, ranged⟩ := List.forall_mem_cons.1 ranged
    rw [groupFault, if_neg (fun fault => (groupFault_test.1 fault).elim (· range) new)]
    refine ih distinct (fun x hx again => ?_) ranged (place + 1)
    obtain rfl | again := List.mem_cons.1 again
    · exact fresh hx
    · exact unseen x hx again

/-- R122: the first id out of range or named before is found. -/
theorem groupFault_finds {seen before after : List Byte} {bad : Byte} (distinct : before.Nodup)
    (unseen : ∀ g ∈ before, g ∉ seen) (ranged : ∀ g ∈ before, 64 ≤ g.toNat ∧ g.toNat ≤ 127)
    (fails : bad ∈ before ∨ bad ∈ seen ∨ ¬(64 ≤ bad.toNat ∧ bad.toNat ≤ 127)) (place : Nat) :
    groupFault seen place (before ++ bad :: after) = some (place + before.length) := by
  induction before generalizing seen place with
  | nil =>
    have found : ¬(64 ≤ bad.toNat ∧ bad.toNat ≤ 127) ∨ bad ∈ seen := by simpa [or_comm] using fails
    exact if_pos (groupFault_test.2 found)
  | cons g rest ih =>
    obtain ⟨fresh, distinct⟩ := List.nodup_cons.1 distinct
    obtain ⟨new, unseen⟩ := List.forall_mem_cons.1 unseen
    obtain ⟨range, ranged⟩ := List.forall_mem_cons.1 ranged
    have later : bad ∈ rest ∨ bad ∈ g :: seen ∨ ¬(64 ≤ bad.toNat ∧ bad.toNat ≤ 127) := by
      rw [List.mem_cons] at fails ⊢
      tauto
    rw [List.cons_append, groupFault, if_neg (fun fault => (groupFault_test.1 fault).elim (· range) new), ih distinct (fun x hx again => ?_) ranged later (place + 1),
      List.length_cons]
    · congr 1
      omega
    · obtain rfl | again := List.mem_cons.1 again
      · exact fresh hx
      · exact unseen x hx again

theorem setGroupsRequest_eq (ids : List Byte) : setGroupsRequest (k :: ids) s =
    if 8 < k.toNat then (⟨.badValue, [0]⟩, s)
    else match groupFault [] 1 ids with
      | some place => (⟨.badValue, [byteOf place]⟩, s)
      | none => (⟨.ok, [k]⟩, { s with rx := { s.rx with groups := ids } }) := rfl

end

/-! ### READ_MESSAGE and RELEASE_MESSAGE -/

section
variable {s : State} {handle : Byte}

theorem readMessageRequest_absent (absent : ∀ a ∈ s.rx.queue, a.handle ≠ handle) (b0 b1 count : Byte) :
    readMessageRequest [handle, b0, b1, count] s = (⟨.unknownHandle, []⟩, s) := by
  unfold readMessageRequest
  rw [show byteAt [handle, b0, b1, count] 0 = handle from rfl, arrivalWith_none.2 absent]
  rfl

theorem releaseRequest_absent (absent : ∀ a ∈ s.rx.queue, a.handle ≠ handle) :
    releaseRequest [handle] s = (⟨.unknownHandle, []⟩, s) := by
  unfold releaseRequest
  rw [show byteAt [handle] 0 = handle from rfl, arrivalWith_none.2 absent]
  rfl

variable {before after : List Arrival} {a : Arrival} (queue : s.rx.queue = before ++ a :: after)
  (distinct : (s.rx.queue.map (·.handle)).Nodup) (named : a.handle = handle)
include queue distinct named

theorem arrivalWith_queue : arrivalWith s.rx.queue handle = some a := by
  subst named
  rw [queue] at distinct ⊢
  exact arrivalWith_middle distinct

theorem readMessageRequest_eq (b0 b1 count : Byte) : readMessageRequest [handle, b0, b1, count] s =
    if count.toNat < 1 ∨ 200 < count.toNat ∨ a.data.length ≤ (b0 ++ b1).toNat ∨
        a.data.length < (b0 ++ b1).toNat + count.toNat then (⟨.badValue, halfBytesOf a.data.length⟩, s)
    else (⟨.ok, [handle, b0, b1, count] ++ (a.data.drop (b0 ++ b1).toNat).take count.toNat⟩, s) := by
  have offset : halfBytesOf (b0 ++ b1 : Half).toNat = [b0, b1] := by
    rw [halfBytesOf, BitVec.ofNat_toNat, BitVec.setWidth_eq, halfBytes_append]
  unfold readMessageRequest
  rw [show byteAt [handle, b0, b1, count] 0 = handle from rfl, show byteAt [handle, b0, b1, count] 3 = count from rfl,
    show halfAt [handle, b0, b1, count] 1 = b0 ++ b1 from rfl, arrivalWith_queue queue distinct named]
  dsimp only
  rw [offset, byteOf_toNat, named]
  by_cases size : count.toNat < 1 ∨ 200 < count.toNat
  · rw [if_pos (by simpa using size), if_pos (by tauto)]
    rfl
  · rw [if_neg (by simpa using size)]
    by_cases span : a.data.length ≤ (b0 ++ b1 : Half).toNat ∨ a.data.length < (b0 ++ b1 : Half).toNat + count.toNat
    · rw [if_pos (by simpa using span), if_pos (by tauto)]
      rfl
    · rw [if_neg (by simpa using span), if_neg (by tauto)]
      rfl

theorem releaseRequest_eq : releaseRequest [handle] s =
    (⟨.ok, [byteOf (s.rx.free + (a.data.length + 63) / 64)]⟩,
      { s with rx := { s.rx with queue := before ++ after, free := s.rx.free + (a.data.length + 63) / 64 } }) := by
  have removed : s.rx.queue.filter (fun x => x.handle != a.handle) = before ++ after := by
    rw [queue] at distinct ⊢
    exact removeArrival_middle distinct
  unfold releaseRequest
  rw [show byteAt [handle] 0 = handle from rfl, arrivalWith_queue queue distinct named]
  dsimp only
  rw [removed]
  rfl

end

/-- Settles O46. -/
theorem inboundRequestsResult : Obligations.InboundRequestsResult := by
  refine ⟨fun k ids s h counted => ?_, fun handle b0 b1 count s => ⟨fun absent => ⟨fun h => ?_, fun h => ?_⟩,
    fun before a after queue distinct named => ⟨fun h => ?_, fun h => ?_⟩⟩⟩
  · have setting {p : Reply × State} (eq : setGroupsRequest (k :: ids) s = p) : exec .setGroups s = replied p.1 p.2 :=
      request_replied h (counted_request_allows rfl (by simp [byteAt, counted, Nat.add_comm])) eq
    have checks := setGroupsRequest_eq (s := s) (k := k) ids
    refine ⟨fun many => setting (checks.trans (if_pos many)), fun few distinct ranged => ?_,
      fun few before bad after split distinct ranged fails => ?_⟩
    · rw [if_neg (by omega), groupFault_passes distinct (by simp) ranged] at checks
      exact setting checks
    · rw [if_neg (by omega), split, groupFault_finds distinct (by simp) ranged (by tauto), Nat.add_comm] at checks
      rw [split] at setting
      exact setting checks
  · exact request_replied h rfl (readMessageRequest_absent absent b0 b1 count)
  · exact request_replied h rfl (releaseRequest_absent absent)
  · refine (request_replied h rfl (readMessageRequest_eq queue distinct named b0 b1 count)).trans ?_
    split <;> rfl
  · exact request_replied h rfl (releaseRequest_eq queue distinct named)

end Sys2Proof.Machine
end

section
/-! PROOFS. R123 to R139: what a segment handed to the receive message unit does. Settles O47. -/

namespace Sys2Proof.Machine

set_option Elab.async false

/-! ### Appending and completing, as O47 states it -/

/-- R134: what breaking a context leaves. -/
def broken (u : State) (p : Nat) (c : Context) (reason : DropReason) (received : Nat) : State :=
  giveNotice (.messageDropped c.source c.id c.dest reason received)
    { u with rx := { u.rx with places := u.rx.places.set p none, free := u.rx.free + (c.data.length + 63) / 64 } }

/-- R133: the completion record of a message joins the others, in the place of the oldest one where there are 4. -/
def RecordAdded (f : SegmentFrame) (old new : List Completion) : Prop :=
  let fresh : Completion := { source := f.source, id := f.id, lastIndex := f.index, count := 0 }
  (old.length < 4 → new = old ++ [fresh]) ∧
  (4 ≤ old.length → ∃ before oldest after, old = before ++ oldest :: after ∧
    (∀ r ∈ before, r.count < oldest.count) ∧ (∀ r ∈ after, r.count ≤ oldest.count) ∧
    new = before ++ after ++ [fresh])

/-- R138, R139: what the completion of a context leaves, whose data is whole. -/
def Completes (number : Word) (f : SegmentFrame) (t u : State) (p : Nat) (c : Context) (data : List Byte)
    (need : Nat) : Prop :=
  ∃ records, RecordAdded f u.rx.records records ∧
    let done : ReceiveUnit := { u.rx with places := u.rx.places.set p none, records := records }
    if 8 ≤ u.rx.queue.length then
      t = giveNotice (.messageDropped c.source c.id c.dest .queueFull c.total)
        { u with rx := { done with free := u.rx.free + (c.data.length + 63) / 64 } }
    else
      ∃ k, let handle := Nat.iterate nextHandle k u.rx.handleCounter
        (∀ j < k, ∃ a ∈ u.rx.queue, a.handle = Nat.iterate nextHandle j u.rx.handleCounter) ∧
        handle ≠ 0 ∧ (∀ a ∈ u.rx.queue, a.handle ≠ handle) ∧
        t = giveNotice (.messageArrived handle c.source c.id (destKind c.dest) c.dest c.cls data.length)
          { u with rx := { done with
            free := u.rx.free - need, handleCounter := nextHandle handle,
            queue := u.rx.queue ++ [{ handle := handle, source := c.source, id := c.id, kind := destKind c.dest,
                                      dest := c.dest, cls := c.cls, data := data, cycle := number }] } }

/-- R129, R131: what appending a segment to the context at a place leaves. -/
def Appended (number : Word) (f : SegmentFrame) (t u : State) (p : Nat) (c : Context) : Prop :=
  let data := c.data ++ f.payload
  let need := (data.length + 63) / 64 - (c.data.length + 63) / 64
  if c.total < data.length then t = broken u p c .length c.data.length
  else if u.rx.free < need then t = broken u p c .noRoom c.data.length
  else if f.last = false then
    t = { u with rx := { u.rx with
      places := u.rx.places.set p (some { c with data := data, next := c.next + 1, idle := 0 }),
      free := u.rx.free - need } }
  else if data.length ≠ c.total then t = broken u p c .length data.length
  else Completes number f t u p c data need

/-- R127: what a FIRST segment of a source without a context leaves. -/
def Opened (number : Word) (f : SegmentFrame) (t u : State) : Prop :=
  ((∀ o ∈ u.rx.places, o.isSome) → t = giveNotice (.messageDropped f.source f.id f.dest .noContext 0) u) ∧
  ∀ before after, u.rx.places = before ++ none :: after → (∀ o ∈ before, o.isSome) →
    (u.rx.free = 0 → t = giveNotice (.messageDropped f.source f.id f.dest .noRoom 0) u) ∧
    (0 < u.rx.free → Appended number f t u before.length (Context.opened f))

/-- What completing asks of the unit: no record of the source, records of distinct sources, a handle counter past 0. -/
structure Fresh (f : SegmentFrame) (u : State) : Prop where
  unrecorded : ∀ r ∈ u.rx.records, r.source ≠ f.source
  sources : (u.rx.records.map (·.source)).Nodup
  counter : u.rx.handleCounter ≠ 0

section
variable {number : Word} {f : SegmentFrame} {u : State} {p : Nat} {c : Context}

theorem setRecord_added (fresh : Fresh f u) :
    RecordAdded f u.rx.records
      (setRecord { source := f.source, id := f.id, lastIndex := f.index, count := 0 } u.rx.records) := by
  have others : u.rx.records.filter (fun x => x.source != f.source) = u.rx.records :=
    List.filter_eq_self.2 fun r hr => by simpa using fresh.unrecorded r hr
  unfold setRecord RecordAdded
  dsimp only
  rw [others]
  refine ⟨fun room => by rw [makeRecordRoom_room room], fun full => ?_⟩
  obtain ⟨before, oldest, after, split, lower, most, made⟩ := makeRecordRoom_full fresh.sources full
  exact ⟨before, oldest, after, split, lower, most, by rw [made]⟩

/-- The blocks that an appending takes and those that the context held are the blocks of the grown context. -/
theorem Context.appended_release (c : Context) (f : SegmentFrame) {free : Nat} (room : ¬free < c.needs f) :
    free - c.needs f + (c.appended f).blocks = free + c.blocks := by
  rw [c.blocks_appended f]
  omega

theorem completeContext_completes (fresh : Fresh f u) (source : c.source = f.source) (id : c.id = f.id)
    (room : ¬u.rx.free < c.needs f) :
    Completes number f (completeContext number p (c.appended f) f.index
      (setRxFree (u.rx.free - c.needs f) (setPlace p (some (c.appended f)) u))) u p c (c.data ++ f.payload) (c.needs f) := by
  have record : Completion.mk (c.appended f).source (c.appended f).id f.index 0 = ⟨f.source, f.id, f.index, 0⟩ :=
    congrArg₂ (fun a b => Completion.mk a b f.index 0) source id
  refine ⟨_, setRecord_added fresh, ?_⟩
  unfold completeContext recordCompletion
  rw [record]
  by_cases full : 8 ≤ u.rx.queue.length
  · rw [if_pos full]
    refine (if_neg (show ¬u.rx.queue.length < Config.queueSize from Nat.not_lt.2 full)).trans ?_
    have release := c.appended_release f room
    unfold dropFull
    simp only [setRxFree, setPlace, List.set_set, release]
    rfl
  · rw [if_neg full]
    obtain ⟨k, found, used, nonzero, unused⟩ := freeHandle_free (q := u.rx.queue) (by omega) fresh.counter
    rw [found] at nonzero unused
    refine ⟨k, used, nonzero, unused, ?_⟩
    refine (if_pos (show u.rx.queue.length < Config.queueSize from Nat.lt_of_not_le full)).trans ?_
    simp only [setRxFree, setPlace, List.set_set, found]
    rfl

theorem closeAppended_open (last : f.last = false) : closeAppended number p c f u = u :=
  if_pos (by simp [last])

theorem closeAppended_whole (last : f.last = true) (whole : c.data.length = c.total) :
    closeAppended number p c f u = completeContext number p c f.index u :=
  (if_neg (by simp [last])).trans (if_pos whole)

theorem closeAppended_partial (last : f.last = true) (partly : c.data.length ≠ c.total) :
    closeAppended number p c f u = breakContext p c .length u :=
  (if_neg (by simp [last])).trans (if_neg partly)

/-- R134: a context broken after an appending gives back the blocks that it held before it as well. -/
theorem breakContext_appended (room : ¬u.rx.free < c.needs f) :
    breakContext p (c.appended f) .length (setRxFree (u.rx.free - c.needs f) (setPlace p (some (c.appended f)) u)) =
      broken u p c .length (c.data ++ f.payload).length := by
  have release := c.appended_release f room
  unfold breakContext broken
  simp only [setRxFree, setPlace, List.set_set, release]
  rfl

theorem appendSegment_appended (fresh : Fresh f u) (source : c.source = f.source) (id : c.id = f.id) :
    Appended number f (appendSegment number p c f u) u p c := by
  have grown : c.data.length + f.payload.length = (c.data ++ f.payload).length := (List.length_append ..).symm
  unfold appendSegment Appended
  rw [grown]
  dsimp only
  by_cases long : c.total < (c.data ++ f.payload).length
  · rw [if_pos long, if_pos long]
    rfl
  rw [if_neg long, if_neg long]
  by_cases room : u.rx.free < c.needs f
  · rw [if_pos room]
    exact (if_pos room).mpr rfl
  rw [if_neg room]
  refine (if_neg room).mpr ?_
  by_cases last : f.last = true
  · rw [if_neg (by simp [last])]
    by_cases whole : (c.data ++ f.payload).length = c.total
    · rw [if_neg (not_not_intro whole), closeAppended_whole last whole]
      exact completeContext_completes fresh source id room
    · rw [if_pos whole, closeAppended_partial last whole]
      exact breakContext_appended room
  · rw [if_pos (by simpa using last), closeAppended_open (by simpa using last)]
    rfl

theorem openContext_opened (fresh : Fresh f u) : Opened number f (openContext number f u) u := by
  unfold openContext
  refine ⟨fun full => ?_, fun before after split full => ⟨fun none => ?_, fun some => ?_⟩⟩
  · rw [freePlace_full full]
    rfl
  all_goals rw [split, freePlace_append full, Nat.zero_add]; dsimp only
  · rw [if_pos none]
    rfl
  · rw [if_neg (Nat.ne_of_gt some)]
    exact appendSegment_appended fresh rfl rfl

/-! ### The context of a source -/

/-- R125: no two open contexts have one source. -/
abbrev sourcesDistinct (places : List (Option Context)) : Prop := ((contextsOf places).map (·.source)).Nodup

theorem place_of_source (distinct : sourcesDistinct u.rx.places) {q : Nat} {d : Context}
    (held : u.rx.places[p]? = some (some c)) (other : u.rx.places[q]? = some (some d)) (same : d.source = c.source) :
    q = p := by
  rw [sourcesDistinct, contextsOf_split held, Option.toList_some, List.append_assoc, List.singleton_append, List.map_append,
    List.map_cons, List.nodup_middle, List.nodup_cons, ← List.map_append, List.mem_map] at distinct
  by_contra apart
  refine distinct.1 ⟨d, List.mem_append.2 ?_, same⟩
  obtain before | after := Nat.lt_or_gt_of_ne apart
  · refine .inl (mem_contextsOf.2 (List.mem_of_getElem? (i := q) ?_))
    rwa [List.getElem?_take_of_lt before]
  · refine .inr (mem_contextsOf.2 (List.mem_of_getElem? (i := q - (p + 1)) ?_))
    rwa [List.getElem?_drop, show p + 1 + (q - (p + 1)) = q by omega]

theorem findPlace_held (distinct : sourcesDistinct u.rx.places) {test : Context → Bool}
    (held : u.rx.places[p]? = some (some c)) (passes : test c = true) (source : ∀ d, test d = true → d.source = c.source) :
    findPlace test 0 u.rx.places = some (p, c) := by
  cases found : findPlace test 0 u.rx.places with
  | none => simp [findPlace_none.1 found c (List.mem_of_getElem? held)] at passes
  | some qd =>
    obtain ⟨q, d⟩ := qd
    obtain ⟨other, also⟩ := contextOf_held found
    obtain rfl := place_of_source distinct held other (source d also)
    rw [held] at other
    cases other
    rfl

section
variable (distinct : sourcesDistinct u.rx.places) (held : u.rx.places[p]? = some (some c)) (source : c.source = f.source)
include distinct held source

theorem contextOfSource_held : contextOfSource f.source u = some (p, c) :=
  findPlace_held distinct held (by simpa using source) fun d passes => by
    rw [source]
    simpa using passes

theorem contextOfMessage_held : contextOfMessage f.source f.id u = if c.id = f.id then some (p, c) else none := by
  split
  · next id =>
    refine findPlace_held distinct held (by simp [source, id]) fun d passes => ?_
    rw [Bool.and_eq_true, beq_iff_eq] at passes
    rw [source, passes.1]
  · next id =>
    refine findPlace_none.2 fun d hd => ?_
    obtain ⟨q, other⟩ := List.mem_iff_getElem?.1 hd
    by_contra passes
    obtain ⟨named, also⟩ : d.source = f.source ∧ d.id = f.id := by simpa using passes
    obtain rfl := place_of_source distinct held other (named.trans source.symm)
    rw [held] at other
    cases other
    exact id also

end

theorem contextOfSource_absent (absent : ∀ c, some c ∈ u.rx.places → c.source ≠ f.source) :
    contextOfSource f.source u = none :=
  findPlace_none.2 fun c hc => by simpa using absent c hc

theorem contextOfMessage_absent (absent : ∀ c, some c ∈ u.rx.places → c.source ≠ f.source) :
    contextOfMessage f.source f.id u = none :=
  findPlace_none.2 fun c hc => by simp [absent c hc]

/-! ### A segment that no completion record claims -/

theorem firstSegment_absent (absent : ∀ c, some c ∈ u.rx.places → c.source ≠ f.source) :
    firstSegment number f u = openContext number f u := by
  unfold firstSegment
  rw [contextOfSource_absent absent]

theorem laterSegment_absent (absent : ∀ c, some c ∈ u.rx.places → c.source ≠ f.source) :
    laterSegment number f u = countOrphan u := by
  unfold laterSegment orphanSegment
  rw [contextOfMessage_absent absent, contextOfSource_absent absent]

theorem abortReceived_absent (absent : ∀ c, some c ∈ u.rx.places → c.source ≠ f.source) : abortReceived f u = u := by
  unfold abortReceived
  rw [contextOfMessage_absent absent]

section
variable (distinct : sourcesDistinct u.rx.places) (held : u.rx.places[p]? = some (some c)) (source : c.source = f.source)
include distinct held source

theorem firstSegment_held : firstSegment number f u =
    if c.id = f.id ∧ c.next = 1 then countDuplicate u else openContext number f (breakContext p c .superseded u) := by
  unfold firstSegment
  rw [contextOfSource_held distinct held source]
  simp only [Bool.and_eq_true, decide_eq_true_iff]

theorem abortReceived_held : abortReceived f u = if c.id = f.id then breakContext p c .aborted u else u := by
  unfold abortReceived
  rw [contextOfMessage_held distinct held source]
  by_cases id : c.id = f.id
  · rw [if_pos id, if_pos id]
  · rw [if_neg id, if_neg id]

theorem laterSegment_held : laterSegment number f u =
    if c.id ≠ f.id then breakContext p c .superseded (countOrphan u)
    else if f.index = c.next then appendSegment number p c f u
    else if f.index + 1 = c.next then countDuplicate u
    else breakContext p c .gap u := by
  unfold laterSegment orphanSegment
  rw [contextOfMessage_held distinct held source, contextOfSource_held distinct held source]
  by_cases id : c.id = f.id
  · rw [if_pos id, if_neg (not_not_intro id)]
  · rw [if_neg id, if_pos id]

end

end

/-! ### The filter, the form and the completion records -/

section
variable {number : Word} {f : SegmentFrame} {s : State}

theorem takenSegment_iff (distinct : sourcesDistinct s.rx.places) : takenSegment f s = true ↔
    f.source ≠ s.cycle.address ∧ (f.dest = s.cycle.address ∨ f.dest ∈ s.rx.groups ∨ f.dest = 255 ∨
      ∃ c, some c ∈ s.rx.places ∧ c.source = f.source ∧ c.id = f.id ∧ c.dest = f.dest) := by
  have context : (contextOfMessage f.source f.id s).any (fun pc => pc.2.dest == f.dest) = true ↔
      ∃ c, some c ∈ s.rx.places ∧ c.source = f.source ∧ c.id = f.id ∧ c.dest = f.dest := by
    constructor
    · intro found
      cases message : contextOfMessage f.source f.id s with
      | none => simp [message] at found
      | some pc =>
        obtain ⟨held, passes⟩ := contextOf_held message
        rw [Bool.and_eq_true, beq_iff_eq, beq_iff_eq] at passes
        exact ⟨pc.2, List.mem_of_getElem? held, passes.1, passes.2, by simpa [message] using found⟩
    · rintro ⟨c, hc, source, id, dest⟩
      obtain ⟨p, held⟩ := List.mem_iff_getElem?.1 hc
      rw [contextOfMessage_held distinct held source, if_pos id]
      simpa using dest
  unfold takenSegment
  rw [Bool.and_eq_true, Bool.or_eq_true, Bool.or_eq_true, Bool.or_eq_true, context, List.contains_iff_mem]
  simp only [bne_iff_ne, beq_iff_eq, ne_eq, or_assoc]

/-- R124: the segments that depart from the form of R103. -/
theorem inconsistent_iff : f.inconsistent = true ↔
    f.source = 0 ∨ 62 < f.source.toNat ∨ 3 < f.cls ∨
      (f.abort = true ∧ (f.first = true ∨ f.last = true ∨ f.payload ≠ [] ∨ f.index = 0 ∨ 25 < f.index)) ∨
      (f.abort = false ∧ (f.payload = [] ∨ 25 < f.index ∨ (f.first = true ∧ f.index ≠ 0) ∨
        (f.first = false ∧ f.index = 0) ∨ ∃ n, f.total = some n ∧ (n = 0 ∨ 1024 < n))) := by
  have source : (!(1 ≤ f.source && f.source ≤ 62)) = true ↔ f.source = 0 ∨ 62 < f.source.toNat := by
    rw [Bool.not_eq_true', ← Bool.not_eq_true, Bool.and_eq_true, decide_eq_true_iff, decide_eq_true_iff]
    bv_omega
  have total : (!totalOk f) = true ↔ ∃ n, f.total = some n ∧ (n = 0 ∨ 1024 < n) := by
    unfold totalOk
    cases f.total with
    | none => simp
    | some n =>
      simp only [Option.all_some, Bool.not_eq_true', ← Bool.not_eq_true, Bool.and_eq_true, decide_eq_true_iff,
        Option.some.injEq, exists_eq_left', show Config.maxMessage = 1024 from rfl]
      omega
  have first : (f.first != (f.index == 0)) = true ↔ (f.first = true ∧ f.index ≠ 0) ∨ (f.first = false ∧ f.index = 0) := by
    cases f.first <;> simp
  have empty : (f.payload.length == 0) = true ↔ f.payload = [] := by simp
  unfold SegmentFrame.inconsistent
  rw [Bool.or_eq_true, Bool.or_eq_true, source, decide_eq_true_iff]
  cases f.abort with
  | true =>
    have index : (!(1 ≤ f.index && f.index ≤ 25)) = true ↔ f.index = 0 ∨ 25 < f.index := by
      rw [Bool.not_eq_true', ← Bool.not_eq_true, Bool.and_eq_true, decide_eq_true_iff, decide_eq_true_iff]
      omega
    rw [if_pos rfl, Bool.or_eq_true, Bool.or_eq_true, Bool.or_eq_true, index]
    simp [or_assoc]
  | false =>
    rw [if_neg Bool.false_ne_true, Bool.or_eq_true, Bool.or_eq_true, Bool.or_eq_true, total, first, empty, decide_eq_true_iff,
      or_right_comm (c := 25 < f.index)]
    simp only [Bool.false_eq_true, false_and, false_or, true_and, or_assoc]

theorem claims_iff (r : Completion) : r.claims f = true ↔ f.abort = false ∧ r.id = f.id ∧ r.lastIndex = f.index := by
  unfold Completion.claims
  rw [Bool.and_eq_true, Bool.and_eq_true, Bool.not_eq_true', beq_iff_eq, beq_iff_eq, and_assoc, eq_comm (a := f.id),
    eq_comm (a := f.index)]

/-- R133: the record of the source, which is the only one. -/
theorem recordOf_source (sources : (s.rx.records.map (·.source)).Nodup) {r : Completion} (mem : r ∈ s.rx.records)
    (source : r.source = f.source) : s.rx.records.find? (fun r => r.source == f.source) = some r := by
  obtain ⟨before, after, split⟩ := List.append_of_mem mem
  rw [split, List.map_append, List.map_cons, List.nodup_middle, List.nodup_cons, ← List.map_append] at sources
  refine List.find?_eq_some_iff_append.2 ⟨by simpa using source, before, after, split, fun x hx => ?_⟩
  have apart : x.source ≠ r.source := fun same =>
    sources.1 (List.mem_map.2 ⟨x, List.mem_append_left _ hx, same⟩)
  simpa [← source] using apart

theorem consistentSegment_claimed (sources : (s.rx.records.map (·.source)).Nodup) {r : Completion}
    (mem : r ∈ s.rx.records) (source : r.source = f.source) (claims : r.claims f = true) :
    consistentSegment number f s = countDuplicate s := by
  unfold consistentSegment
  rw [recordOf_source sources mem source]
  exact if_pos claims

/-- R133: the record of the segment's source is gone. -/
def withoutRecord (f : SegmentFrame) (s : State) : State :=
  { s with rx := { s.rx with records := s.rx.records.filter (fun r => r.source != f.source) } }

/-- R133: where no record claims the segment, that of its source is gone. -/
theorem consistentSegment_unclaimed
    (unclaimed : ∀ r ∈ s.rx.records, r.source = f.source → ¬r.claims f = true) :
    consistentSegment number f s = contextSegment number f (withoutRecord f s) := by
  unfold consistentSegment withoutRecord
  cases found : s.rx.records.find? (fun r => r.source == f.source) with
  | none =>
    have others : s.rx.records.filter (fun r => r.source != f.source) = s.rx.records :=
      List.filter_eq_self.2 fun r hr => by simpa using List.find?_eq_none.1 found r hr
    rw [others]
  | some r =>
    exact if_neg (unclaimed r (List.mem_of_find?_eq_some found) (by simpa using List.find?_some found))

theorem contextSegment_first (data : f.abort = false) (first : f.first = true) :
    contextSegment number f s = firstSegment number f s :=
  (if_neg (by simp [data])).trans (if_pos first)

theorem contextSegment_later (data : f.abort = false) (later : f.first = false) :
    contextSegment number f s = laterSegment number f s :=
  (if_neg (by simp [data])).trans (if_neg (by simp [later]))

/-- R133: where the record of the source is gone, that of a completion is a fresh one. -/
theorem fresh_withoutRecord (sources : (s.rx.records.map (·.source)).Nodup) (counter : s.rx.handleCounter ≠ 0) :
    Fresh f (withoutRecord f s) where
  unrecorded r hr := by simpa using (List.mem_filter.1 hr).2
  sources := sources.sublist (List.filter_sublist.map _)
  counter := counter

theorem Fresh.break {p : Nat} {c : Context} (h : Fresh f s) (reason : DropReason) :
    Fresh f (breakContext p c reason s) := by
  obtain ⟨unrecorded, sources, counter⟩ := h
  constructor
  all_goals rw [breakContext_rx]
  · exact unrecorded
  · exact sources
  · exact counter

end

/-! ### A segment of a source that holds a context -/

section
variable {number : Word} {f : SegmentFrame} {u : State} {p : Nat} {c : Context} (fresh : Fresh f u)
  (distinct : sourcesDistinct u.rx.places) (held : u.rx.places[p]? = some (some c)) (source : c.source = f.source)
include fresh distinct held source

theorem firstSegment_result :
    if c.id = f.id ∧ c.next = 1 then firstSegment number f u = countDuplicate u
    else Opened number f (firstSegment number f u) (broken u p c .superseded c.data.length) := by
  rw [firstSegment_held distinct held source]
  by_cases again : c.id = f.id ∧ c.next = 1
  · rw [if_pos again, if_pos again]
  · rw [if_neg again, if_neg again]
    exact openContext_opened (fresh.break .superseded)

theorem laterSegment_result :
    if c.id ≠ f.id then laterSegment number f u = broken (countOrphan u) p c .superseded c.data.length
    else if f.index = c.next then Appended number f (laterSegment number f u) u p c
    else if f.index + 1 = c.next then laterSegment number f u = countDuplicate u
    else laterSegment number f u = broken u p c .gap c.data.length := by
  rw [laterSegment_held distinct held source]
  by_cases other : c.id ≠ f.id
  · rw [if_pos other, if_pos other]
    rfl
  rw [if_neg other, if_neg other]
  by_cases next : f.index = c.next
  · rw [if_pos next, if_pos next]
    exact appendSegment_appended fresh source (not_not.1 other)
  rw [if_neg next, if_neg next]
  by_cases again : f.index + 1 = c.next
  · rw [if_pos again, if_pos again]
  · rw [if_neg again, if_neg again]
    rfl

end

/-- Settles O47. -/
theorem segmentContinuesMessage : Obligations.SegmentContinuesMessage := by
  intro number f s sound
  obtain ⟨-, -, ⟨distinct, -⟩, -, counter, ⟨-, sources, -⟩, -⟩ := (ReceiveUnit.sound_iff _).1 sound
  have taken := takenSegment_iff (f := f) (s := s) distinct
  have wrong := inconsistent_iff (f := f)
  refine ⟨fun passed => if_pos (by simpa using fun t => passed (taken.1 t)), fun meant bad => ?_, fun meant good => ?_⟩
  · refine (if_neg (by simp [taken.2 meant])).trans (if_pos (wrong.2 bad))
  · have handed : receiveSegment number f s = consistentSegment number f s :=
      (if_neg (by simp [taken.2 meant])).trans (if_neg (fun bad => good (wrong.1 bad)))
    dsimp only
    rw [handed]
    refine ⟨fun r hr source repeats => consistentSegment_claimed sources hr source ((claims_iff r).2 repeats),
      fun unclaimed => ?_⟩
    rw [consistentSegment_unclaimed fun r hr source claims => unclaimed r hr source ((claims_iff r).1 claims)]
    have fresh := fresh_withoutRecord (f := f) sources counter
    refine ⟨fun absent => ⟨fun abort => ?_, fun data first => ?_, fun data later => ?_⟩,
      fun p c held source => ⟨fun abort => ?_, fun data first => ?_, fun data later => ?_⟩⟩
    · exact (if_pos abort).trans (abortReceived_absent (u := withoutRecord f s) absent)
    · rw [contextSegment_first data first, firstSegment_absent (u := withoutRecord f s) absent]
      exact openContext_opened fresh
    · exact (contextSegment_later data later).trans (laterSegment_absent (u := withoutRecord f s) absent)
    · exact (if_pos abort).trans (abortReceived_held (u := withoutRecord f s) distinct held source)
    · rw [contextSegment_first data first]
      exact firstSegment_result (u := withoutRecord f s) fresh distinct held source
    · rw [contextSegment_later data later]
      exact laterSegment_result (u := withoutRecord f s) fresh distinct held source

end Sys2Proof.Machine
end

section
/-! PROOFS. R102, R114, R117, R119, R134 to R136: what the message units do at cycle starts and departures, with the notices
they give, in order. Settles O52. -/

namespace Sys2Proof.Machine

set_option Elab.async false

/-! ### Notices given in order -/

/-- What lies between two states gives these notices, in this order, and leaves the cycle number that they carry. -/
structure Gives (bodies : List NoticeBody) (s t : State) : Prop where
  notices : t.notices = (giveNotices bodies s).notices
  cycleNumber : t.cycleNumber = s.cycleNumber

theorem giveNotice_notices_congr {s t : State} (notices : t.notices = s.notices) (number : t.cycleNumber = s.cycleNumber)
    (b : NoticeBody) : (giveNotice b t).notices = (giveNotice b s).notices := by
  unfold giveNotice queueNotice
  rw [notices, number]
  split
  · exact notices
  · split <;> rfl

theorem giveNotices_notices_congr {s t : State} (notices : t.notices = s.notices) (number : t.cycleNumber = s.cycleNumber)
    (bodies : List NoticeBody) : (giveNotices bodies t).notices = (giveNotices bodies s).notices := by
  induction bodies generalizing s t with
  | nil => exact notices
  | cons b rest ih =>
    exact ih (giveNotice_notices_congr notices number b) (by rw [giveNotice_cycleNumber, giveNotice_cycleNumber, number])

theorem State.cycleNumber_congr {s t : State} (h : t.cycle = s.cycle) : t.cycleNumber = s.cycleNumber := by
  unfold State.cycleNumber State.current
  rw [h]

theorem giveNotices_append (first second : List NoticeBody) (s : State) :
    giveNotices (first ++ second) s = giveNotices second (giveNotices first s) := List.foldl_append

namespace Gives

section
variable {first second : List NoticeBody} {s t u : State}

/-- Nothing is given. -/
theorem silent (notices : t.notices = s.notices) (number : t.cycleNumber = s.cycleNumber) : Gives [] s t :=
  ⟨notices, number⟩

theorem all (bodies : List NoticeBody) (s : State) : Gives bodies s (giveNotices bodies s) :=
  ⟨rfl, State.cycleNumber_congr (giveNotices_cycle bodies s)⟩

theorem one (b : NoticeBody) (s : State) : Gives [b] s (giveNotice b s) := all [b] s

theorem trans (h : Gives first s t) (g : Gives second t u) : Gives (first ++ second) s u := by
  refine ⟨g.notices.trans ?_, g.cycleNumber.trans h.cycleNumber⟩
  rw [giveNotices_append]
  exact giveNotices_notices_congr h.notices (h.cycleNumber.trans (State.cycleNumber_congr (giveNotices_cycle first s)).symm) _

/-- What comes before and gives nothing may leave out. -/
theorem after (g : Gives second t u) (notices : t.notices = s.notices) (number : t.cycleNumber = s.cycleNumber) :
    Gives second s u :=
  (silent notices number).trans g

/-- What follows and gives nothing may leave out. -/
theorem quiet (h : Gives first s t) (notices : u.notices = t.notices) (number : u.cycleNumber = t.cycleNumber) :
    Gives first s u :=
  List.append_nil first ▸ h.trans (silent notices number)

end

end Gives

/-! ### Blocks that go back to the transmit store -/

/-- R102: the notice of the room watch, when these blocks go back. -/
def roomGiven (tx : TransmitUnit) (back : Nat) : List NoticeBody :=
  if 0 < back ∧ tx.roomWatch = true ∧ 4 ≤ tx.free + back then [.txRoom (tx.free + back)] else []

/-- R101, R102: the unit after these blocks have gone back and the room watch has been examined. -/
def TransmitUnit.regains (tx : TransmitUnit) (back : Nat) : TransmitUnit :=
  { tx with free := tx.free + back, roomWatch := tx.roomWatch && !(decide (0 < back) && decide (4 ≤ tx.free + back)) }

theorem TransmitUnit.regains_none (tx : TransmitUnit) : tx.regains 0 = tx := by
  simp [TransmitUnit.regains]

theorem roomGiven_none (tx : TransmitUnit) : roomGiven tx 0 = [] := by
  simp [roomGiven]

section
variable {s u : State} {m : Message} {r : InFlight} {rest : List Message}

/-- R102: the room watch is examined in a state to which the blocks have gone back. -/
theorem examineRoom_spec {back : Nat} {tx : TransmitUnit} (returned : s.tx = { tx with free := tx.free + back }) :
    (examineRoom back s).tx = tx.regains back ∧ Gives (roomGiven tx back) s (examineRoom back s) := by
  have watch : s.tx.roomWatch = tx.roomWatch := by rw [returned]
  have free : s.tx.free = tx.free + back := by rw [returned]
  rw [examineRoom_eq, watch, free]
  unfold TransmitUnit.regains roomGiven
  by_cases told : 0 < back ∧ tx.roomWatch = true ∧ 4 ≤ tx.free + back
  · obtain ⟨some, watching, room⟩ := told
    rw [if_pos ⟨some, watching, room⟩, if_pos ⟨some, watching, room⟩]
    refine ⟨?_, (Gives.one _ _).after rfl rfl⟩
    rw [giveNotice_tx, returned]
    simp [some, room]
  · rw [if_neg told, if_neg told]
    refine ⟨?_, Gives.silent rfl rfl⟩
    have kept : (tx.roomWatch && !(decide (0 < back) && decide (4 ≤ tx.free + back))) = tx.roomWatch := by
      cases watching : tx.roomWatch
      · rfl
      · simp only [watching, true_and] at told
        rw [Bool.true_and, Bool.not_eq_true', Bool.and_eq_false_iff, decide_eq_false_iff_not, decide_eq_false_iff_not]
        exact not_and_or.1 told
    rw [returned, kept]

/-- R113, R116, R117, R119: the first message leaves with MESSAGE_FAILED. -/
theorem failFirst_spec (m : Message) (rest : List Message) (reason : FailReason) (abortSent : Bool) (s : State) :
    (failFirst m rest reason abortSent s).tx = ({ s.tx with queue := rest } : TransmitUnit).regains m.blocks ∧
    Gives (.messageFailed m.id m.dest m.cls reason abortSent m.sent :: roomGiven s.tx m.blocks) s
      (failFirst m rest reason abortSent s) := by
  obtain ⟨tx, room⟩ := examineRoom_spec (s := giveNotice (.messageFailed m.id m.dest m.cls reason abortSent m.sent)
    (returnBlocks m.blocks (s.withQueue rest))) (back := m.blocks) (tx := { s.tx with queue := rest })
    (giveNotice_tx _ _)
  have told := Gives.one (.messageFailed m.id m.dest m.cls reason abortSent m.sent)
    (returnBlocks m.blocks (s.withQueue rest))
  exact ⟨tx, (told.trans room).after rfl rfl⟩

/-- R116: the first message enters ABORTING, or leaves at once with no segment WON. -/
theorem enterAborting_spec (m : Message) (r : InFlight) (rest : List Message) (reason : FailReason) (s : State) :
    (enterAborting m r rest reason s).tx =
      ({ s.tx with queue := if r.next = 0 then rest else m.abortingWith r reason :: rest } : TransmitUnit).regains
        m.blocks ∧
    Gives ((if r.next = 0 then [.messageFailed m.id m.dest m.cls reason false m.sent] else []) ++
      roomGiven s.tx m.blocks) s (enterAborting m r rest reason s) := by
  unfold enterAborting
  by_cases unsent : r.next = 0
  · simp only [if_pos unsent]
    exact failFirst_spec m rest reason false s
  · simp only [if_neg unsent]
    obtain ⟨tx, room⟩ := examineRoom_spec (s := returnBlocks m.blocks (s.withQueue (m.abortingWith r reason :: rest)))
      (back := m.blocks) (tx := { s.tx with queue := m.abortingWith r reason :: rest }) rfl
    exact ⟨tx, room.after rfl rfl⟩

/-! ### The transmit message unit at a cycle start -/

/-- R114: the limit that a message in flight reaches at a cycle start. -/
def Message.limitAt (m : Message) (r : InFlight) : Option FailReason :=
  if m.data.length < min (40 * (r.next + 1)) m.total ∧ 32 ≤ r.starve + 1 then some .starved
  else if 48 ≤ r.sinceWon + 1 then some .contention
  else none

theorem limitReached_counted (m : Message) (r : InFlight) : limitReached (r.counted m) = m.limitAt r := by
  have starve : 32 ≤ (r.counted m).starve ↔ m.data.length < min (40 * (r.next + 1)) m.total ∧ 32 ≤ r.starve + 1 := by
    show 32 ≤ (if decide (min (40 * (r.next + 1)) m.total ≤ m.data.length) = true then 0 else r.starve + 1) ↔ _
    simp only [decide_eq_true_iff]
    split <;> omega
  unfold limitReached Message.limitAt
  exact if_congr starve rfl rfl

theorem Message.blocks_stillInFlight {m : Message} {r r' : InFlight} (state : m.state = .inFlight r) :
    ({ m with state := .inFlight r' } : Message).blocks = m.blocks := by
  unfold Message.blocks
  rw [state]

theorem Message.blocks_aborting {m : Message} {reason : FailReason} {k : Nat} (state : m.state = .aborting r reason k) :
    m.blocks = 0 := by
  unfold Message.blocks
  rw [state]

/-- R114: the message in flight at a cycle start. -/
theorem countInFlight_spec (state : m.state = .inFlight r) (rest : List Message) (s : State) :
    match m.limitAt r with
    | none => (countInFlight m r rest s).tx =
          { s.tx with queue := { m with state := .inFlight (r.counted m) } :: rest } ∧
        Gives [] s (countInFlight m r rest s)
    | some reason => (countInFlight m r rest s).tx = ({ s.tx with
          queue := if r.next = 0 then rest
            else { m with data := m.data.take m.sent,
                          state := .aborting { r.counted m with abortPending := false } reason 0 } :: rest } :
            TransmitUnit).regains m.blocks ∧
        Gives ((if r.next = 0 then [.messageFailed m.id m.dest m.cls reason false m.sent] else []) ++
          roomGiven s.tx m.blocks) s (countInFlight m r rest s) := by
  unfold countInFlight
  simp only [limitReached_counted]
  cases m.limitAt r with
  | none => exact ⟨rfl, Gives.silent rfl rfl⟩
  | some reason =>
    obtain ⟨tx, given⟩ := enterAborting_spec { m with state := .inFlight (r.counted m) } (r.counted m) rest reason
      (s.withQueue ({ m with state := .inFlight (r.counted m) } :: rest))
    rw [Message.blocks_stillInFlight state] at tx given
    exact ⟨tx, given.after rfl rfl⟩

/-- R117: the ABORTING message at a cycle start; it holds no blocks. -/
theorem countAborting_spec {reason : FailReason} {k : Nat} (state : m.state = .aborting r reason k) (rest : List Message)
    (s : State) :
    (countAborting m r reason k rest s).tx =
      { s.tx with queue := if 16 ≤ k + 1 then rest else { m with state := .aborting r reason (k + 1) } :: rest } ∧
    Gives (if 16 ≤ k + 1 then [.messageFailed m.id m.dest m.cls reason false m.sent] else []) s
      (countAborting m r reason k rest s) := by
  unfold countAborting
  by_cases spent : 16 ≤ k + 1
  · rw [if_pos spent, if_pos spent, if_pos (show Config.attemptLimit ≤ k + 1 from spent)]
    obtain ⟨tx, given⟩ := failFirst_spec m rest reason false s
    rw [Message.blocks_aborting state, TransmitUnit.regains_none] at tx
    rw [Message.blocks_aborting state, roomGiven_none] at given
    exact ⟨tx, given⟩
  · rw [if_neg spent, if_neg spent, if_neg (show ¬Config.attemptLimit ≤ k + 1 from spent)]
    exact ⟨rfl, Gives.silent rfl rfl⟩

/-- The cycle start that the transmit message unit meets finds it as it was. -/
theorem beginCycle_transmits (c : CycleNow) (s : State) :
    ∃ x : State, x.tx = s.tx ∧ (beginCycle c s).tx = (transmitCycleStart x).tx :=
  ⟨channelCycleStart (fixLength (scheduleCycleStart c.number (advanceQuiet
    (takeUpCycle ((s.withCycle { s.cycle with now := some c }).atInstant c.origin))))), by simp, by
    simp [beginCycle, signalCycleStart]⟩

theorem exec_cycleStart {c : CycleNow} (current : s.current = some c) :
    exec .cycleStart s = .next (beginCycle c.following (keepLate c s)).setAttn := by
  show nextCycle s = _
  unfold nextCycle
  rw [current]
  rfl

theorem transmitCycleStart_empty (queue : s.tx.queue = []) : transmitCycleStart s = s := by
  unfold transmitCycleStart
  rw [queue]

section
variable (queue : s.tx.queue = m :: rest)
include queue

theorem transmitCycleStart_waiting (state : m.state = .waiting) : transmitCycleStart s = s := by
  unfold transmitCycleStart
  rw [queue]
  dsimp only
  rw [state]

theorem transmitCycleStart_inFlight (state : m.state = .inFlight r) :
    transmitCycleStart s = countInFlight m r rest s := by
  unfold transmitCycleStart
  rw [queue]
  dsimp only
  rw [state]

theorem transmitCycleStart_aborting {reason : FailReason} {k : Nat} (state : m.state = .aborting r reason k) :
    transmitCycleStart s = countAborting m r reason k rest s := by
  unfold transmitCycleStart
  rw [queue]
  dsimp only
  rw [state]

end

theorem InFlight.counted_eq (r : InFlight) (m : Message) : r.counted m =
    { r with sinceWon := r.sinceWon + 1,
             starve := if min (40 * (r.next + 1)) m.total ≤ m.data.length then 0 else r.starve + 1 } := by
  have supplied : m.suppliedSegment r.next = true ↔ min (40 * (r.next + 1)) m.total ≤ m.data.length :=
    decide_eq_true_iff
  unfold InFlight.counted starveAfter
  simp only [supplied]

end

/-- Settles O52. -/
theorem cycleStartCountsMessage : Obligations.CycleStartCountsMessage := by
  intro c s current
  obtain ⟨x, same, tx⟩ := beginCycle_transmits c.following (keepLate c s)
  rw [show (keepLate c s).tx = s.tx from rfl] at same
  refine ⟨_, exec_cycleStart current, fun empty => ?_, fun m rest queue => ⟨fun state => ?_, fun r state => ?_,
    fun r reason k state => ?_⟩⟩
  · rw [setAttn_tx, tx, transmitCycleStart_empty (by rw [same, empty]), same]
  all_goals rw [← same] at queue
  · rw [setAttn_tx, tx, transmitCycleStart_waiting queue state, same]
  · rw [setAttn_tx, tx, transmitCycleStart_inFlight queue state]
    have counted := r.counted_eq m
    have starve := congrArg InFlight.starve counted
    have limit := limitReached_counted m r
    have spec := countInFlight_spec state rest x
    rw [same, ← limit] at spec
    dsimp only at starve ⊢
    rw [← counted, ← starve]
    by_cases within : (r.counted m).starve < 32 ∧ r.sinceWon + 1 < 48
    · have none : limitReached (r.counted m) = none :=
        (if_neg (Nat.not_le.2 within.1)).trans (if_neg (Nat.not_le.2 within.2))
      rw [none] at spec
      rw [if_pos within]
      exact spec.1
    · have some : limitReached (r.counted m) =
          some (if 32 ≤ (r.counted m).starve then .starved else .contention) := by
        by_cases starved : 32 ≤ (r.counted m).starve
        · rw [if_pos starved]
          exact if_pos starved
        · rw [if_neg starved]
          exact (if_neg starved).trans (if_pos (show 48 ≤ r.sinceWon + 1 by omega))
      rw [some] at spec
      rw [if_neg within]
      exact spec.1
  · rw [setAttn_tx, tx, transmitCycleStart_aborting queue state, (countAborting_spec state rest x).1, same]

end Sys2Proof.Machine
end

section
/-! PROOFS. R37, R73, R93, R119, R134, R136: what a departure does to every unit, with its notices in order. Settles O26. -/

namespace Sys2Proof.Machine

set_option Elab.async false

/-! ### Contexts broken in the order of their places -/

/-- R134: the places once the contexts that a test picks have been broken. -/
def placesWithout (test : Context → Bool) (places : List (Option Context)) : List (Option Context) :=
  places.map (fun o => o.filter (fun c => !test c))

/-- R134: the notices of the contexts that a test picks. -/
def droppedContexts (test : Context → Bool) (reason : DropReason) (places : List (Option Context)) : List NoticeBody :=
  ((contextsOf places).filter test).map (fun c => c.dropped reason c.data.length)

/-- R126, R134: the unit once the contexts that a test picks have been broken. -/
def ReceiveUnit.without (test : Context → Bool) (u : ReceiveUnit) : ReceiveUnit :=
  { u with places := placesWithout test u.places,
           free := u.free + (((contextsOf u.places).filter test).map Context.blocks).sum }

section
variable (test : Context → Bool) (reason : DropReason) (rest : List (Option Context)) (c : Context)

theorem contextsOf_none : contextsOf (none :: rest) = contextsOf rest := rfl

theorem contextsOf_some : contextsOf (some c :: rest) = c :: contextsOf rest := rfl

theorem placesWithout_none : placesWithout test (none :: rest) = none :: placesWithout test rest := rfl

theorem placesWithout_some :
    placesWithout test (some c :: rest) = (if test c then none else some c) :: placesWithout test rest := by
  cases picked : test c <;> simp [placesWithout, picked]

theorem droppedContexts_some : droppedContexts test reason (some c :: rest) =
    (if test c then [c.dropped reason c.data.length] else []) ++ droppedContexts test reason rest := by
  unfold droppedContexts
  rw [contextsOf_some, List.filter_cons]
  split <;> rfl

end

/-- R134: the walk over the places from one on. -/
theorem breakWhere_from (test : Context → Bool) (reason : DropReason) (before rest : List (Option Context)) {s : State}
    (split : s.rx.places = before ++ rest) :
    (breakWhere test reason (List.range' before.length rest.length) s).rx =
      { s.rx with places := before ++ placesWithout test rest,
                  free := s.rx.free + (((contextsOf rest).filter test).map Context.blocks).sum } ∧
    Gives (droppedContexts test reason rest) s (breakWhere test reason (List.range' before.length rest.length) s) := by
  induction rest generalizing before s with
  | nil =>
    rw [List.append_nil] at split
    refine ⟨?_, Gives.silent rfl rfl⟩
    show s.rx = { s.rx with places := before ++ [], free := s.rx.free }
    rw [List.append_nil, ← split]
  | cons o rest ih =>
    have here : s.rx.places[before.length]? = some o := by simp [split]
    have next (x : Option Context) : before ++ x :: rest = (before ++ [x]) ++ rest := by simp
    have far (x : Option Context) : (before ++ [x]).length = before.length + 1 := by simp
    rw [List.length_cons, List.range'_succ]
    unfold breakWhere
    rw [here]
    cases o with
    | none =>
      obtain ⟨rx, given⟩ := ih (before ++ [none]) (split.trans (next none))
      rw [far] at rx given
      exact ⟨rx.trans (by rw [placesWithout_none, contextsOf_none, List.append_assoc]; rfl), given⟩
    | some c =>
      dsimp only
      rw [placesWithout_some, contextsOf_some, droppedContexts_some, List.filter_cons]
      by_cases picked : test c = true
      · have broken : (breakContext before.length c reason s).rx.places = (before ++ [none]) ++ rest := by
          rw [breakContext_rx, ← next]
          simp [split]
        obtain ⟨rx, given⟩ := ih (before ++ [none]) broken
        have told := (Gives.one (c.dropped reason c.data.length)
          (setRxFree (s.rx.free + c.blocks) (setPlace before.length none s))).after (s := s) rfl rfl
        rw [if_pos picked, if_pos picked, if_pos picked, if_pos picked, ← far none]
        refine ⟨rx.trans ?_, told.trans given⟩
        rw [breakContext_rx, List.map_cons, List.sum_cons, ← Nat.add_assoc, List.append_assoc]
        rfl
      · obtain ⟨rx, given⟩ := ih (before ++ [some c]) (split.trans (next (some c)))
        rw [if_neg picked, if_neg picked, if_neg picked, if_neg picked, ← far (some c)]
        exact ⟨rx.trans (by rw [List.append_assoc]; rfl), given⟩

theorem breakWhere_spec (test : Context → Bool) (reason : DropReason) {s : State}
    (size : s.rx.places.length = Config.placeCount) :
    (breakWhere test reason (List.range Config.placeCount) s).rx = s.rx.without test ∧
    Gives (droppedContexts test reason s.rx.places) s (breakWhere test reason (List.range Config.placeCount) s) := by
  rw [← size, List.range_eq_range']
  exact breakWhere_from test reason [] s.rx.places rfl


/-! ### The units at a departure -/

section
variable (d : Destination) {s : State}

/-- R73: what a departure leaves of the schedule unit. -/
def ScheduleUnit.departed (x : ScheduleUnit) : ScheduleUnit :=
  { x with adoption := false, unready := none, takeUp := .done,
           staged := match x.staged with
             | .armed epoch length entries _ => .closed epoch length entries
             | g => g }

/-- R73: the notice of an activation that a departure withdraws. -/
def withdrawnBy (reason : WithdrawReason) : Staged → List NoticeBody
  | .armed epoch _ _ cycle => [.activationWithdrawn epoch cycle reason]
  | .empty | .editing _ _ | .closed _ _ _ => []

theorem clearMarks_sched_of_staged {g : Staged} (staged : s.sched.staged = g) : (clearMarks s).sched =
    { s.sched with adoption := false, unready := none, takeUp := .done, staged := g } := by
  rw [← staged]
  rfl

theorem scheduleDepart_spec (s : State) : (scheduleDepart d s).sched = s.sched.departed ∧
    Gives (withdrawnBy d.withdrawReason s.sched.staged) s (scheduleDepart d s) := by
  unfold scheduleDepart ScheduleUnit.departed
  cases staged : s.sched.staged with
  | armed epoch length entries cycle =>
    have told := Gives.one (.activationWithdrawn epoch cycle d.withdrawReason)
      ((clearMarks s).withStaged (.closed epoch length entries))
    refine ⟨?_, told.after rfl rfl⟩
    show (giveNotice _ _).sched = _
    rw [giveNotice_sched]
    rfl
  | empty | editing | closed => exact ⟨clearMarks_sched_of_staged staged, Gives.silent rfl rfl⟩

/-- R119: the message that a departure ends, with the reason it fails for. -/
def endedBy (reason : FailReason) : List Message → Option (Message × FailReason)
  | [] => none
  | m :: _ => match m.state with
    | .waiting => none
    | .inFlight r => some (m, if r.abortPending then .host else reason)
    | .aborting _ own _ => some (m, own)

/-- R119: the blocks that go back with it. -/
def blocksOf (ended : Option (Message × FailReason)) : Nat := (ended.map (fun p => p.1.blocks)).getD 0

/-- R119: its MESSAGE_FAILED. -/
def failedBy (ended : Option (Message × FailReason)) : List NoticeBody :=
  ended.toList.map (fun p => .messageFailed p.1.id p.1.dest p.1.cls p.2 false p.1.sent)

theorem transmitDepart_eq (reason : FailReason) (s : State) : transmitDepart reason s =
    match endedBy reason s.tx.queue with
    | none => clearOnLine s
    | some (m, own) => failFirst m (s.tx.queue.drop 1) own false (clearOnLine s) := by
  unfold transmitDepart
  cases s.tx.queue with
  | nil => rfl
  | cons m rest =>
    simp only [endedBy]
    cases m.state <;> rfl

theorem transmitDepart_spec (reason : FailReason) (s : State) :
    let ended := endedBy reason s.tx.queue
    (transmitDepart reason s).tx = ({ s.tx with
      queue := if ended.isSome then s.tx.queue.drop 1 else s.tx.queue, onLine := none } : TransmitUnit).regains
        (blocksOf ended) ∧
    Gives (failedBy ended ++ roomGiven s.tx (blocksOf ended)) s (transmitDepart reason s) := by
  rw [transmitDepart_eq]
  cases endedBy reason s.tx.queue with
  | none =>
    refine ⟨(TransmitUnit.regains_none _).symm, ?_⟩
    show Gives (roomGiven s.tx 0) s (clearOnLine s)
    rw [roomGiven_none]
    exact Gives.silent rfl rfl
  | some p =>
    obtain ⟨tx, given⟩ := failFirst_spec p.1 (s.tx.queue.drop 1) p.2 false (clearOnLine s)
    exact ⟨tx, given.after rfl rfl⟩

theorem placesWithout_all (places : List (Option Context)) :
    placesWithout (fun _ => true) places = List.replicate places.length none := by
  induction places with
  | nil => rfl
  | cons o rest ih =>
    cases o with
    | none => rw [placesWithout_none, ih, List.length_cons, List.replicate_succ]
    | some c =>
      rw [placesWithout_some, ih, List.length_cons, List.replicate_succ]
      rfl

theorem receiveDepart_spec (reason : DropReason) (size : s.rx.places.length = 4) :
    (receiveDepart reason s).rx = { s.rx with
      places := List.replicate 4 none, records := [],
      free := s.rx.free + ((contextsOf s.rx.places).map Context.blocks).sum } ∧
    Gives ((contextsOf s.rx.places).map (fun c => c.dropped reason c.data.length)) s (receiveDepart reason s) := by
  obtain ⟨rx, given⟩ := breakWhere_spec (fun _ => true) reason (s := { s with rx := { s.rx with records := [] } }) size
  have every : (contextsOf s.rx.places).filter (fun _ => true) = contextsOf s.rx.places :=
    List.filter_eq_self.2 fun _ _ => rfl
  refine ⟨rx.trans ?_, ?_⟩
  · unfold ReceiveUnit.without
    rw [placesWithout_all, every]
    show ({ s.rx with places := List.replicate s.rx.places.length none, free := _, records := _ } : ReceiveUnit) = _
    rw [size]
  · unfold droppedContexts at given
    dsimp only at given
    rw [every] at given
    exact given.after rfl rfl

end

/-! ### A departure -/

/-- R37: the state in which the rule that causes a departure gives its own notices. -/
theorem leaveCycle_cycleNumber (d : Destination) (s : State) : (leaveCycle d s).cycleNumber = none := by
  cases d <;> rfl

theorem settleCycle_cycleNumber (d : Destination) (run : Option CandidateRun) (s : State) :
    (settleCycle d run s).cycleNumber = s.cycleNumber := by
  cases d <;> rfl

theorem departedNumber (s : State) : ({ s with cycle := { s.cycle with now := none } } : State).cycleNumber = none := by
  rw [State.cycleNumber_eq_ite]
  split <;> rfl

/-- R37: the notices of a departure, in the order of the units. -/
theorem depart_gives (d : Destination) (own : List NoticeBody) (run : Option CandidateRun) {s : State}
    (size : s.rx.places.length = 4) :
    let ended := endedBy d.failReason s.tx.queue
    Gives (own ++ withdrawnBy d.withdrawReason s.sched.staged ++ failedBy ended ++ roomGiven s.tx (blocksOf ended) ++
        (contextsOf s.rx.places).map (fun c => c.dropped d.dropReason c.data.length))
      { s with cycle := { s.cycle with now := none } } (depart d own run s) := by
  intro ended
  let told := giveNotices own (leaveCycle d (endWalk s))
  let settled := settleCycle d run told
  let withdrawn := channelDepart (scheduleDepart d settled)
  have first : Gives own { s with cycle := { s.cycle with now := none } } settled :=
    ((Gives.all own (leaveCycle d (endWalk s))).after (s := { s with cycle := { s.cycle with now := none } }) rfl
      ((leaveCycle_cycleNumber d _).trans (departedNumber s).symm)).quiet (settleCycle_only d run told).2.2.2.2.2.1
      (settleCycle_cycleNumber d run told)
  have second := (scheduleDepart_spec d settled).2.quiet (u := withdrawn) rfl rfl
  have third := (transmitDepart_spec d.failReason withdrawn).2
  have fourth := (receiveDepart_spec d.dropReason (s := transmitDepart d.failReason withdrawn)
    (by simpa [withdrawn, settled, told, endWalk] using size)).2
  have sched : settled.sched = s.sched := by simp [settled, told, endWalk, leaveCycle]
  have tx : withdrawn.tx = s.tx := by simp [withdrawn, settled, told, endWalk, leaveCycle]
  have rx : (transmitDepart d.failReason withdrawn).rx = s.rx := by simp [withdrawn, settled, told, endWalk, leaveCycle]
  rw [sched] at second
  rw [tx] at third
  rw [rx] at fourth
  rw [List.append_assoc _ (failedBy ended)]
  exact ((first.trans second).trans third).trans fourth


/-! ### O26 -/

theorem regains_eq (tx : TransmitUnit) (back : Nat) : tx.regains back = { tx with
    free := tx.free + back,
    roomWatch := tx.roomWatch && !(decide (0 < back) && tx.roomWatch && decide (4 ≤ tx.free + back)) } := by
  unfold TransmitUnit.regains
  cases tx.roomWatch <;> cases decide (0 < back) <;> rfl

theorem roomGiven_eq (tx : TransmitUnit) (back : Nat) : roomGiven tx back =
    if (decide (0 < back) && tx.roomWatch && decide (4 ≤ tx.free + back)) = true then [.txRoom (tx.free + back)] else [] := by
  unfold roomGiven
  simp only [Bool.and_eq_true, decide_eq_true_iff, and_assoc]

theorem endedBy_eq (d : Destination) (queue : List Message) : endedBy d.failReason queue = match queue with
    | [] => none
    | m :: _ => match m.state with
      | .waiting => none
      | .inFlight r => some (m, if r.abortPending then .host else if d = .hunting then .sync else .offline)
      | .aborting _ reason _ => some (m, reason) := by
  cases queue with
  | nil => rfl
  | cons m rest =>
    simp only [endedBy]
    cases m.state with
    | waiting | aborting => rfl
    | inFlight r => cases d <;> rfl

theorem withdrawnBy_eq (d : Destination) (g : Staged) : withdrawnBy d.withdrawReason g = match g with
    | .armed epoch _ _ cycle => [.activationWithdrawn epoch cycle (if d = .hunting then .sync else .offline)]
    | _ => [] := by
  cases g with
  | armed => cases d <;> rfl
  | empty | editing | closed => rfl

theorem dropReason_eq (d : Destination) : d.dropReason = if d = .hunting then .sync else .offline := by
  cases d <;> rfl

theorem timing_eq (d : Destination) : d.timing = if d = .hunting then .hunting else .offline := by
  cases d <;> rfl

theorem channel_departed_eq (c : Channel) : c.departed = match c.direction with
    | .consume k => if c.resolution = .resolved then
        { c with direction := .consume { k with state := .waiting, missCount := 0 } } else c
    | .produce _ => c := by
  unfold Channel.departed
  cases c.direction <;> rfl

section
variable (d : Destination) (own : List NoticeBody) (run : Option CandidateRun) (s : State)

theorem depart_sched : (depart d own run s).sched = s.sched.departed := by
  have sched := (scheduleDepart_spec d (settleCycle d run (giveNotices own (leaveCycle d (endWalk s))))).1
  simpa [depart, signalDeparture, leaveCycle, endWalk] using sched

theorem depart_channels : (depart d own run s).channels = s.channels.map (fun o => o.map Channel.departed) := by
  simp [depart, signalDeparture, channelDepart, leaveCycle, endWalk]

theorem depart_tx : let ended := endedBy d.failReason s.tx.queue
    (depart d own run s).tx = ({ s.tx with
      queue := if ended.isSome then s.tx.queue.drop 1 else s.tx.queue, onLine := none } : TransmitUnit).regains
        (blocksOf ended) := by
  have tx := (transmitDepart_spec d.failReason
    (channelDepart (scheduleDepart d (settleCycle d run (giveNotices own (leaveCycle d (endWalk s))))))).1
  simpa [depart, signalDeparture, channelDepart, leaveCycle, endWalk] using tx

theorem depart_rx {s : State} (size : s.rx.places.length = 4) : (depart d own run s).rx = { s.rx with
    places := List.replicate 4 none, records := [],
    free := s.rx.free + ((contextsOf s.rx.places).map Context.blocks).sum } := by
  have kept : (transmitDepart d.failReason (channelDepart (scheduleDepart d
      (settleCycle d run (giveNotices own (leaveCycle d (endWalk s))))))).rx = s.rx := by
    simp [channelDepart, leaveCycle, endWalk]
  have rx := (receiveDepart_spec d.dropReason (kept.symm ▸ size)).1
  rw [kept] at rx
  exact rx

end

/-- Settles O26. -/
theorem departureEffects : Obligations.DepartureEffects := by
  intro d own run s sound
  have size : s.rx.places.length = 4 := ((ReceiveUnit.sound_iff _).1 sound).2.1
  obtain ⟨trunk, cycle, -⟩ := depart_only d own run s
  have notices := (depart_gives d own run size).notices
  have tx := depart_tx d own run s
  simp only [endedBy_eq, regains_eq] at tx
  simp only [endedBy_eq, withdrawnBy_eq, roomGiven_eq, dropReason_eq] at notices
  refine ⟨by rw [cycle, timing_eq], (depart_sched d own run s).trans ?_, (depart_channels d own run s).trans ?_, tx,
    depart_rx d own run size, notices, trunk.trans ?_, by simp, by simp⟩
  · unfold ScheduleUnit.departed
    cases s.sched.staged <;> rfl
  · exact List.map_congr_left fun o _ => congrArg (fun f => o.map f) (funext channel_departed_eq)
  · rfl

end Sys2Proof.Machine
end

section
/-! PROOFS. R4, R10, R16, R36, R88: the node's own cyclic frames, and how a frame of its own ends. Settles O57. -/

namespace Sys2Proof.Machine

set_option Elab.async false

/-! ### The channel that is bound to a label -/

/-- R79: where the labels are distinct, a bound channel is found by its label. -/
theorem channelOfLabel_eq {channels : List (Option Channel)} {k : Nat} {c : Channel} (held : channels[k]? = some (some c))
    (distinct : (labelsOf channels).Nodup) (number : Nat) :
    channelOfLabel c.label number channels = some (number + k, c) := by
  induction channels generalizing number k with
  | nil => simp at held
  | cons o rest ih =>
    cases o with
    | none =>
      cases k with
      | zero => simp at held
      | succ k => exact (ih held distinct (number + 1)).trans (by rw [Nat.add_right_comm, Nat.add_assoc])
    | some d =>
      obtain ⟨fresh, distinct⟩ := List.nodup_cons.1 distinct
      cases k with
      | zero =>
        cases held
        exact if_pos rfl
      | succ k =>
        have named : d.label ≠ c.label := fun h =>
          fresh (mem_labelsOf.2 ⟨c, List.mem_of_getElem? held, h.symm⟩)
        exact (if_neg named).trans ((ih held distinct (number + 1)).trans (by rw [Nat.add_right_comm, Nat.add_assoc]))

theorem channelOfLabel_bound {channels : List (Option Channel)} {label : Byte} {place : Nat} {c : Channel}
    (h : channelOfLabel label 0 channels = some (place, c)) : some c ∈ channels ∧ c.label = label := by
  obtain ⟨-, held, named⟩ := channelOfLabel_some h
  exact ⟨List.mem_of_getElem? held, named⟩

section
variable {s : State}

/-! ### Permission and the answer -/

/-- R36, R75: permission for a cyclic frame. -/
theorem State.maySendCyclic_iff : s.maySendCyclic = true ↔
    s.cycle.timing = .leading ∨
      (s.cycle.timing.following = true ∧ s.cycle.listenOnly = false ∧ s.sched.takeUp ≠ .awaitsCycle) := by
  unfold State.maySendCyclic CycleUnit.cyclicPermission State.resting
  cases s.cycle.timing <;> simp [Timing.following]

/-- R88: a channel sends exactly when it is a RESOLVED produce channel with a value and an age. -/
theorem Channel.produceValue_none {c : Channel}
    (unable : c.resolution ≠ .resolved ∨ c.value = none ∨ ∀ age, c.direction ≠ .produce (some age)) :
    c.produceValue = none := by
  unfold Channel.produceValue
  split
  · next age v direction resolution value => simp [direction, resolution, value] at unable
  · rfl

theorem produceAnswer_some {k : Nat} {c : Channel} {v : List Byte} {age : Nat} (held : s.channels[k]? = some (some c))
    (distinct : (labelsOf s.channels).Nodup) (resolved : c.resolution = .resolved) (value : c.value = some v)
    (direction : c.direction = .produce (some age)) : produceAnswer c.label s = some (v, byteOf age) := by
  unfold produceAnswer
  rw [channelOfLabel_eq held distinct]
  simp [Channel.produceValue, resolved, value, direction]

theorem produceAnswer_none {label : Byte} (unable : ∀ c : Channel, some c ∈ s.channels → c.label = label →
    c.resolution ≠ .resolved ∨ c.value = none ∨ ∀ age, c.direction ≠ .produce (some age)) :
    produceAnswer label s = none := by
  unfold produceAnswer
  cases found : channelOfLabel label 0 s.channels with
  | none => rfl
  | some p =>
    obtain ⟨bound, named⟩ := channelOfLabel_bound (place := p.1) (c := p.2) found
    exact Channel.produceValue_none (unable p.2 bound named)

/-! ### The slot -/

/-- R10: the start of a walked CYCLIC slot of the node's own. -/
theorem exec_cyclicSlotStart {c : CycleNow} {e : Entry} {n payload : Nat} {label : Byte} (current : s.current = some c)
    (listed : e ∈ s.sched.active.entries) (distinct : (s.sched.active.entries.map (·.start)).Nodup)
    (walked : walks s c e = true) (slot : e.slot = .cyclic n s.cycle.address label payload) :
    exec (.cyclicSlotStart e.start) s =
      finish (startCyclicSlot e.start label (c.at e.start) (s.atInstant (c.at e.start))) := by
  show execCyclicSlotStart e.start s = _
  unfold execCyclicSlotStart
  rw [current]
  simp only [walkedEntry_eq listed distinct walked]
  obtain ⟨start, kind⟩ := e
  cases slot
  exact if_pos rfl

/-! ### The end of a frame -/

/-- R4, R16: a mismatch counts in DISTURBED while the node is synchronised or has a change to follow. -/
theorem countDisturbed_eq (s : State) : countDisturbed s = { s with trunk := { s.trunk with
    disturbed := if s.cycle.timing.synchronised = true ∨ s.trunk.deferred ≠ none then bump s.trunk.disturbed
      else s.trunk.disturbed } } := by
  unfold countDisturbed
  simp only [Bool.or_eq_true, ← Option.isSome_iff_ne_none]
  split <;> rfl

end

/-- Settles O57: the slot's start, then the two ends of a frame. -/
theorem ownCyclicFrames : Obligations.OwnCyclicFrames := by
  refine ⟨?_, ?_⟩
  · intro c e n payload label s current listed starts walked slot since permitted
    have run := exec_cyclicSlotStart current listed starts walked slot
    refine ⟨?_, ?_⟩
    · intro k ch v age held distinct named resolved value direction may frame
      subst named
      have may' : (s.atInstant (c.at e.start)).maySendCyclic = true := State.maySendCyclic_iff.2 may
      have answer := produceAnswer_some (s := s.atInstant (c.at e.start)) held distinct resolved value direction
      rw [run]
      unfold startCyclicSlot
      rw [if_pos may', answer]
      rfl
    · intro silent
      rw [run]
      unfold startCyclicSlot
      by_cases may : (s.atInstant (c.at e.start)).maySendCyclic = true
      · have unable := silent.resolve_left (not_not_intro (State.maySendCyclic_iff.1 may))
        rw [if_pos may, produceAnswer_none (s := s.atInstant (c.at e.start)) unable]
        rfl
      · rw [if_neg may]
        rfl
  · intro f s sending ended counts
    refine ⟨?_, ?_⟩
    · show execOwnFrameSent s = _
      unfold execOwnFrameSent
      rw [sending]
      rfl
    · show execOwnFrameMismatch s = _
      unfold execOwnFrameMismatch
      rw [sending]
      show finish (endFrame (countDisturbed s)) = _
      rw [countDisturbed_eq]
      rfl

end Sys2Proof.Machine
end

section
/-! PROOFS. R23, R37, R146: what the units beside the cycle unit and the trunk interface do depends on neither of the two, but
for the node address and the cycle number that a notice records. -/

namespace Sys2Proof.Machine

set_option Elab.async false

/-! ### Operations beside the cycle unit and the trunk interface -/

/-- The state with another trunk interface and another cycle unit. -/
def State.beside (i : TrunkInterface) (k : CycleUnit) (s : State) : State := { s with trunk := i, cycle := k }

/-- The operation leaves the cycle unit as it is, and does the same beside another trunk interface and another cycle unit of the
same address and cycle number. -/
structure UnitOp (f : State → State) : Prop where
  cycle : ∀ s, (f s).cycle = s.cycle
  beside : ∀ i k s, k.address = s.cycle.address → (s.beside i k).cycleNumber = s.cycleNumber →
    f (s.beside i k) = (f s).beside i k

/-- The state with another trunk interface. -/
def State.onTrunk (i : TrunkInterface) (s : State) : State := { s with trunk := i }

namespace UnitOp

theorem onTrunk {f : State → State} (h : UnitOp f) (i : TrunkInterface) (s : State) :
    f (s.onTrunk i) = (f s).onTrunk i := by
  refine (h.beside i s.cycle s rfl (State.cycleNumber_congr rfl)).trans ?_
  rw [← h.cycle s]
  rfl

theorem beside_cycleNumber {s t : State} (i : TrunkInterface) (k : CycleUnit) (same : t.cycle = s.cycle)
    (number : (s.beside i k).cycleNumber = s.cycleNumber) : (t.beside i k).cycleNumber = t.cycleNumber :=
  (State.cycleNumber_congr (s := s.beside i k) (t := t.beside i k) rfl).trans
    (number.trans (State.cycleNumber_congr same).symm)

theorem id : UnitOp (fun s => s) := ⟨fun _ => rfl, fun _ _ _ _ _ => rfl⟩

theorem comp {f g : State → State} (hf : UnitOp f) (hg : UnitOp g) : UnitOp (fun s => f (g s)) where
  cycle s := (hf.cycle (g s)).trans (hg.cycle s)
  beside i k s address number :=
    (congrArg f (hg.beside i k s address number)).trans (hf.beside i k (g s) (address.trans (congrArg _ (hg.cycle s)).symm)
      (beside_cycleNumber i k (hg.cycle s) number))

/-- An operation may be chosen by what another unit holds. -/
theorem reads {α : Type} (read : State → α) (other : ∀ i k s, read (s.beside i k) = read s) {act : α → State → State}
    (ops : ∀ x, UnitOp (act x)) : UnitOp (fun s => act (read s) s) where
  cycle s := (ops _).cycle s
  beside i k s address number := by
    show act (read (s.beside i k)) (s.beside i k) = _
    rw [other]
    exact (ops _).beside i k s address number

theorem branch {p : Prop} [Decidable p] {f g : State → State} (hf : UnitOp f) (hg : UnitOp g) :
    UnitOp (fun s => if p then f s else g s) := by
  by_cases h : p
  · simp only [if_pos h]
    exact hf
  · simp only [if_neg h]
    exact hg

end UnitOp

theorem giveNotice_op (b : NoticeBody) : UnitOp (giveNotice b) where
  cycle := giveNotice_cycle b
  beside i k s _ number := by
    have notices := giveNotice_notices_congr (s := s) (t := s.beside i k) rfl number b
    rw [giveNotice_frame b s, giveNotice_frame, notices]
    rfl

theorem giveNotices_op (bodies : List NoticeBody) : UnitOp (giveNotices bodies) := by
  induction bodies with
  | nil => exact UnitOp.id
  | cons b rest ih => exact ih.comp (giveNotice_op b)

/-! ### The transmit message unit -/

theorem returnBlocks_op (n : Nat) : UnitOp (returnBlocks n) := ⟨fun _ => rfl, fun _ _ _ _ _ => rfl⟩

theorem withQueue_op (q : List Message) : UnitOp (fun s => s.withQueue q) := ⟨fun _ => rfl, fun _ _ _ _ _ => rfl⟩

theorem clearOnLine_op : UnitOp clearOnLine := ⟨fun _ => rfl, fun _ _ _ _ _ => rfl⟩

theorem clearRoomWatch_op : UnitOp (fun s => { s with tx := { s.tx with roomWatch := false } }) :=
  ⟨fun _ => rfl, fun _ _ _ _ _ => rfl⟩

theorem examineRoom_op (n : Nat) : UnitOp (examineRoom n) :=
  UnitOp.reads (fun s => s.tx) (fun _ _ _ => rfl) (act := fun x s =>
    if 0 < n && x.roomWatch && Config.roomLevel ≤ x.free then
      giveNotice (.txRoom x.free) { s with tx := { s.tx with roomWatch := false } }
    else s) fun _ => .branch ((giveNotice_op _).comp clearRoomWatch_op) .id

section
variable (m : Message) (r : InFlight) (rest : List Message)

theorem failFirst_op (reason : FailReason) (abortSent : Bool) : UnitOp (failFirst m rest reason abortSent) :=
  (examineRoom_op _).comp ((giveNotice_op _).comp ((returnBlocks_op _).comp (withQueue_op rest)))

theorem sentFirst_op : UnitOp (sentFirst m rest) :=
  (examineRoom_op _).comp ((giveNotice_op _).comp ((returnBlocks_op _).comp (withQueue_op rest)))

theorem enterAborting_op (reason : FailReason) : UnitOp (enterAborting m r rest reason) :=
  .branch (failFirst_op m rest reason false) ((examineRoom_op _).comp ((returnBlocks_op _).comp (withQueue_op _)))

theorem actPending_op : UnitOp (actPending m r rest) := .branch (enterAborting_op m r rest .host) .id

theorem dataWon_op : UnitOp (dataWon m r rest) :=
  .branch (sentFirst_op m rest)
    ((actPending_op _ _ rest).comp ((examineRoom_op _).comp ((returnBlocks_op _).comp (withQueue_op _))))

theorem dataDisturbed_op : UnitOp (dataDisturbed m r rest) :=
  .branch (failFirst_op m rest .trunkFault false) ((actPending_op _ _ rest).comp (withQueue_op _))

theorem countInFlight_op : UnitOp (countInFlight m r rest) := by
  unfold countInFlight
  dsimp only
  cases limitReached (r.counted m) with
  | none => exact withQueue_op _
  | some reason => exact (enterAborting_op _ _ rest reason).comp (withQueue_op _)

theorem countAborting_op (reason : FailReason) (k : Nat) : UnitOp (countAborting m r reason k rest) :=
  .branch (failFirst_op m rest reason false) (withQueue_op _)

end

theorem applyOutcome_op (o : OnLine) (result : SegmentOutcome) : UnitOp (applyOutcome o result) := by
  refine UnitOp.reads (fun s => s.tx.queue) (fun _ _ _ => rfl) (act := fun queue s => match queue with
    | [] => s
    | m :: rest => match m.state, o.abort, result with
      | .inFlight r, false, .won => dataWon m r rest s
      | .inFlight r, false, .lost => actPending m r rest s
      | .inFlight r, false, .disturbed => dataDisturbed m r rest s
      | .aborting _ reason _, true, .won => failFirst m rest reason true s
      | _, _, _ => s) fun queue => ?_
  cases queue with
  | nil => exact UnitOp.id
  | cons m rest =>
    dsimp only
    split
    · exact dataWon_op m _ rest
    · exact actPending_op m _ rest
    · exact dataDisturbed_op m _ rest
    · exact failFirst_op m rest _ true
    · exact UnitOp.id

theorem handOutcome_op (result : SegmentOutcome) : UnitOp (handOutcome result) := by
  refine UnitOp.reads (fun s => s.tx.onLine) (fun _ _ _ => rfl) (act := fun onLine s => match onLine with
    | some o => applyOutcome o result (clearOnLine s)
    | none => s) fun onLine => ?_
  cases onLine with
  | none => exact UnitOp.id
  | some o => exact (applyOutcome_op o result).comp clearOnLine_op

theorem transmitCycleStart_op : UnitOp transmitCycleStart := by
  refine UnitOp.reads (fun s => s.tx.queue) (fun _ _ _ => rfl) (act := fun queue s => match queue with
    | [] => s
    | m :: rest => match m.state with
      | .waiting => s
      | .inFlight r => countInFlight m r rest s
      | .aborting r reason attempts => countAborting m r reason attempts rest s) fun queue => ?_
  cases queue with
  | nil => exact UnitOp.id
  | cons m rest =>
    cases state : m.state with
    | waiting =>
      simp only [state]
      exact UnitOp.id
    | inFlight r =>
      simp only [state]
      exact countInFlight_op m r rest
    | aborting r reason k =>
      simp only [state]
      exact countAborting_op m r rest reason k

/-! ### The receive message unit -/

theorem breakContext_op (p : Nat) (c : Context) (reason : DropReason) : UnitOp (breakContext p c reason) := by
  refine (giveNotice_op _).comp ?_
  exact ⟨fun _ => rfl, fun _ _ _ _ _ => rfl⟩

theorem breakWhere_op (test : Context → Bool) (reason : DropReason) (places : List Nat) :
    UnitOp (breakWhere test reason places) := by
  induction places with
  | nil => exact UnitOp.id
  | cons p rest ih =>
    refine UnitOp.reads (fun s => s.rx.places[p]?) (fun _ _ _ => rfl) (act := fun o s => match o with
      | some (some c) => breakWhere test reason rest (if test c then breakContext p c reason s else s)
      | some none | none => breakWhere test reason rest s) fun o => ?_
    match o with
    | some (some c) => exact ih.comp (.branch (breakContext_op p c reason) .id)
    | some none | none => exact ih

theorem receiveCycleStart_op : UnitOp receiveCycleStart :=
  (breakWhere_op _ .timeout _).comp (g := receiveCounts) ⟨fun _ => rfl, fun _ _ _ _ _ => rfl⟩

/-! ### The schedule unit and the channel unit -/

theorem channelCycleStart_op : UnitOp channelCycleStart := ⟨fun _ => rfl, fun _ _ _ _ _ => rfl⟩

theorem reresolve_congr {s t : State} (active : t.sched.active = s.sched.active)
    (address : t.cycle.address = s.cycle.address) : t.reresolve = s.reresolve := by
  funext c
  unfold State.reresolve State.resolutionOf
  rw [active, address]

theorem reresolveAll_op : UnitOp reresolveAll where
  cycle s := giveNotices_cycle _ _
  beside i k s address number := by
    have same := reresolve_congr (s := s) (t := s.beside i k) rfl address
    unfold reresolveAll
    rw [resolutionNotices_congr (congrFun same), same]
    exact (giveNotices_op _).beside i k { s with channels := s.channels.map (fun o => o.map s.reresolve) } address number

theorem makeSwitch_op (epoch : Half) (n : Nat) (entries : List Entry) (number : Word) (mode : SwitchMode) :
    UnitOp (makeSwitch epoch n entries number mode) := by
  refine reresolveAll_op.comp ((giveNotice_op _).comp ?_)
  exact ⟨fun _ => rfl, fun _ _ _ _ _ => rfl⟩

theorem switchBank_op (number : Word) : UnitOp (switchBank number) := by
  have drop : UnitOp dropAdoption := ⟨fun _ => rfl, fun _ _ _ _ _ => rfl⟩
  refine UnitOp.reads (fun s => s.sched) (fun _ _ _ => rfl) (act := fun x s => match x.staged with
    | .armed epoch length entries cycle =>
      if cycle = number then makeSwitch epoch length entries number .onTime s else dropAdoption s
    | .closed epoch length entries =>
      if x.adoption then makeSwitch epoch length entries number .late s else dropAdoption s
    | .empty | .editing _ _ => dropAdoption s) fun x => ?_
  cases x.staged with
  | armed epoch n entries cycle => exact .branch (makeSwitch_op epoch n entries number .onTime) drop
  | closed epoch n entries => exact .branch (makeSwitch_op epoch n entries number .late) drop
  | empty | editing => exact drop

theorem scheduleCycleStart_op (number : Word) : UnitOp (scheduleCycleStart number) :=
  (switchBank_op number).comp (g := fun s => s.withTakeUp s.sched.takeUp.begins) ⟨fun _ => rfl, fun _ _ _ _ _ => rfl⟩

end Sys2Proof.Machine
end

section
/-! PROOFS. R12 to R16, R112, R113, R116 to R119: the outcomes of the node's own segments. Settles O60. -/

namespace Sys2Proof.Machine

set_option Elab.async false

/-! ### What an outcome does to the first message -/

section
variable {o : OnLine} {m : Message} {r : InFlight} {rest : List Message} {s : State}

theorem applyOutcome_empty (queue : s.tx.queue = []) (result : SegmentOutcome) : applyOutcome o result s = s := by
  unfold applyOutcome
  rw [queue]

section
variable (queue : s.tx.queue = m :: rest)
include queue

theorem applyOutcome_won (state : m.state = .inFlight r) (data : o.abort = false) :
    applyOutcome o .won s = dataWon m r rest s := by
  unfold applyOutcome
  rw [queue]
  dsimp only
  rw [state, data]

theorem applyOutcome_lost (state : m.state = .inFlight r) (data : o.abort = false) :
    applyOutcome o .lost s = actPending m r rest s := by
  unfold applyOutcome
  rw [queue]
  dsimp only
  rw [state, data]

theorem applyOutcome_disturbed (state : m.state = .inFlight r) (data : o.abort = false) :
    applyOutcome o .disturbed s = dataDisturbed m r rest s := by
  unfold applyOutcome
  rw [queue]
  dsimp only
  rw [state, data]

/-- R117: an abort segment that is WON ends its message; one that is not leaves it as it is. -/
theorem applyOutcome_aborting {reason : FailReason} {k : Nat} (state : m.state = .aborting r reason k)
    (stop : o.abort = true) (result : SegmentOutcome) :
    applyOutcome o result s = if result = .won then failFirst m rest reason true s else s := by
  unfold applyOutcome
  rw [queue]
  dsimp only
  rw [state, stop]
  cases result <;> rfl

end

/-! ### The interface when the segment has ended -/

/-- R4, R16: the interface once a segment of the node's own has ended. -/
theorem TrunkInterface.segmentEnds_eq (i : TrunkInterface) : ({ i with segment := none } : TrunkInterface).follow =
    if i.sending.isSome then { i with segment := none }
    else if i.deferred = some .nodeReset then State.reset.trunk
    else { i with segment := none, txen := false, deferred := none } := by
  have busy : ({ i with segment := none } : TrunkInterface).busy = i.sending.isSome := Bool.or_false _
  unfold TrunkInterface.follow
  rw [busy]
  rfl

/-- R4, R14, R16: the state once a segment has ended in this interface, before its outcome has acted on the message. -/
def State.ended (s : State) (x : TrunkInterface) : State :=
  { s with
    trunk := if x.sending.isSome then { x with segment := none }
      else if x.deferred = some .nodeReset then State.reset.trunk
      else { x with segment := none, txen := false, deferred := none },
    tx := { s.tx with onLine := none } }

/-- What a handed outcome does to the message, once the frame is no longer on the line. -/
def actOn (s : State) (result : SegmentOutcome) (v : State) : State :=
  match s.tx.onLine with
  | some o => applyOutcome o result v
  | none => v

/-- R14, R16: the outcome is handed as if the segment had ended before. -/
theorem segmentOutcome_eq (result : SegmentOutcome) (x : TrunkInterface) (s : State) :
    segmentOutcome result (s.onTrunk x) = actOn s result (s.ended x) := by
  have beside := (handOutcome_op result).onTrunk
  have ended : segmentOutcome result (s.onTrunk x) =
      handOutcome result (s.onTrunk ({ x with segment := none } : TrunkInterface).follow) := by
    unfold segmentOutcome endSegment
    rw [beside x s, beside _ s]
    rfl
  rw [ended, TrunkInterface.segmentEnds_eq]
  unfold handOutcome actOn
  cases onLine : s.tx.onLine with
  | some o =>
    simp only [show ∀ i, (s.onTrunk i).tx.onLine = some o from fun _ => onLine]
    rfl
  | none =>
    simp only [show ∀ i, (s.onTrunk i).tx.onLine = none from fun _ => onLine]
    unfold State.ended State.onTrunk
    rw [← onLine]

end

/-! ### The commands -/

section
variable {g : OwnSegment} {s : State} (held : s.trunk.segment = some g)
include held

/-- R112: WON comes at the end of the segment, if the interface sends it. -/
theorem exec_segmentWon : exec .segmentWon s = match g.firstBit with
    | some first => .next (actOn s .won (s.ended (s.trunk.reach (first + BitVec.ofNat 32 g.bytes.length)))).setAttn
    | none => .next s := by
  show execSegmentWon s = _
  unfold execSegmentWon
  rw [held]
  show (match g.ends with | some ends => _ | none => _) = _
  unfold OwnSegment.ends
  cases g.firstBit with
  | none => rfl
  | some first => exact congrArg finish (segmentOutcome_eq .won _ s)

/-- R13, R14: an outcome on the line finds the segment begun. -/
theorem segmentBegun_onTrunk : s.segmentBegun = s.onTrunk (match g.way with
    | .waits first => s.trunk.reach first
    | .sends _ | .silent _ => s.trunk) := by
  unfold State.segmentBegun
  rw [held]
  show (match some g.way with | some (.waits since) => _ | some (.sends _) | some (.silent _) | none => _) = _
  cases g.way <;> rfl

/-- R113: LOST. -/
theorem exec_segmentLost : exec .segmentLost s = .next (actOn s .lost (s.ended (match g.way with
    | .waits first => { s.trunk.reach first with
        ownSlots := s.trunk.ownSlots.filter (fun o => o != { start := g.start, since := first }) }
    | .sends first => { s.trunk with
        ownSlots := s.trunk.ownSlots.filter (fun o => o != { start := g.start, since := first }) }
    | .silent lostAt => { s.trunk with lineClock := lostAt }))).setAttn := by
  show execSegmentLost s = _
  unfold execSegmentLost
  rw [held]
  dsimp only
  rw [segmentBegun_onTrunk held]
  unfold yieldSlot
  cases way : g.way with
  | waits first => exact congrArg finish (segmentOutcome_eq .lost _ s)
  | sends first => exact congrArg finish (segmentOutcome_eq .lost _ s)
  | silent lostAt =>
    have reached : s.trunk.reach lostAt = { s.trunk with lineClock := lostAt } :=
      TrunkInterface.reach_eq fun g' since hg' waits => by
        rw [held] at hg'
        cases hg'
        rw [way] at waits
        cases waits
    dsimp only
    rw [← reached]
    exact congrArg finish (segmentOutcome_eq .lost _ s)

/-- R113: DISTURBED, of a segment that the interface sends. -/
theorem segmentDisturbs_sent {first : Word} (sent : g.firstBit = some first) :
    segmentDisturbs s = .next (actOn s .disturbed (s.ended { (match g.way with
      | .waits first => s.trunk.reach first
      | .sends _ | .silent _ => s.trunk) with
        disturbed := if s.cycle.timing.synchronised = true ∨ s.trunk.deferred ≠ none then bump s.trunk.disturbed
          else s.trunk.disturbed })).setAttn := by
  unfold segmentDisturbs
  rw [held]
  have some : (some g).any (fun g => g.firstBit.isSome) = true := by simp [sent]
  rw [if_pos some, segmentBegun_onTrunk held, countDisturbed_eq]
  cases g.way with
  | waits first => exact congrArg finish (segmentOutcome_eq .disturbed _ s)
  | sends first => exact congrArg finish (segmentOutcome_eq .disturbed _ s)
  | silent lostAt => exact congrArg finish (segmentOutcome_eq .disturbed _ s)

theorem segmentDisturbs_silent (silent : g.firstBit = none) : segmentDisturbs s = .next s := by
  unfold segmentDisturbs
  rw [held]
  have none : ¬ (some g).any (fun g => g.firstBit.isSome) = true := by simp [silent]
  rw [if_neg none]
  rfl

end

/-! ### The sixteenth DISTURBED -/

section
variable {s : State} {m : Message} {r : InFlight} {rest : List Message}

theorem exec_trunkFault (s : State) :
    exec .messageTrunkFault s = if faultAhead s then segmentDisturbs s else .next s := rfl

theorem faultAhead_inFlight {o : OnLine} (queue : s.tx.queue = m :: rest) (state : m.state = .inFlight r)
    (onLine : s.tx.onLine = some o) (data : o.abort = false) : faultAhead s = true ↔ 16 ≤ r.disturbed + 1 := by
  unfold faultAhead
  rw [queue]
  dsimp only
  rw [state, onLine]
  simp [data, Config.disturbLimit]

theorem faultAhead_aborting {reason : FailReason} {k : Nat} (queue : s.tx.queue = m :: rest)
    (state : m.state = .aborting r reason k) : faultAhead s = false := by
  unfold faultAhead
  rw [queue]
  dsimp only
  rw [state]

end

/-- Settles O60: each outcome by what it does to the first message, on the state in which the segment has ended. -/
theorem segmentOutcomesApplied : Obligations.SegmentOutcomesApplied := by
  intro g s held since ended begun counts won lost disturbed
  have wins (act : State → State) (acts : ∀ x, actOn s .won (ended x) = act (ended x)) : won act := by
    intro first sent
    refine (exec_segmentWon held).trans ?_
    rw [show g.firstBit = some first from sent]
    exact congrArg finish (acts _)
  have loses (act : State → State) (acts : ∀ x, actOn s .lost (ended x) = act (ended x)) : lost act := by
    refine (exec_segmentLost held).trans (congrArg finish (Eq.trans ?_ (acts _)))
    dsimp only [ended, begun]
    cases g.way <;> rfl
  have disturbs (act : State → State) (acts : ∀ x, actOn s .disturbed (ended x) = act (ended x)) : disturbed act := by
    intro sends
    obtain ⟨first, sent⟩ := Option.isSome_iff_exists.1 sends
    refine (segmentDisturbs_sent held sent).trans (congrArg finish (Eq.trans ?_ (acts _)))
    dsimp only [ended, begun]
    cases g.way <;> rfl
  refine ⟨fun silent => ?_, fun gone => ?_, ?_⟩
  · have still : segmentDisturbs s = .next s := segmentDisturbs_silent held silent
    refine ⟨(exec_segmentWon held).trans ?_, still, ?_⟩
    · rw [show g.firstBit = none from silent]
    · rw [exec_trunkFault, still, ite_self]
  · have idle (result : SegmentOutcome) (x : TrunkInterface) : actOn s result (ended x) = ended x := by
      unfold actOn
      cases onLine : s.tx.onLine with
      | none => rfl
      | some o => exact applyOutcome_empty (s := ended x) (gone.resolve_left (by simp [onLine])) result
    exact ⟨wins id (idle .won), loses id (idle .lost), disturbs id (idle .disturbed)⟩
  intro o m rest onLine queue aborts
  have acts (result : SegmentOutcome) (v : State) : actOn s result v = applyOutcome o result v := by
    unfold actOn
    rw [onLine]
  refine ⟨?_, ?_⟩
  · intro r state data next more hit again
    have limit := faultAhead_inFlight queue state onLine data
    refine ⟨fun whole => ?_, fun partly => ?_, ?_, fun below => ?_, fun reached => ?_⟩
    · refine wins (sentFirst m rest) fun x => ?_
      rw [acts, applyOutcome_won (s := ended x) queue state data]
      exact if_pos whole
    · refine wins (fun v => actPending more next rest (examineRoom (m.blocks - more.blocks)
        (returnBlocks (m.blocks - more.blocks) (v.withQueue (more :: rest))))) fun x => ?_
      rw [acts, applyOutcome_won (s := ended x) queue state data]
      exact if_neg partly
    · refine loses (actPending m r rest) fun x => ?_
      rw [acts, applyOutcome_lost (s := ended x) queue state data]
    · refine ⟨?_, disturbs (fun v => actPending again hit rest (v.withQueue (again :: rest))) fun x => ?_⟩
      · rw [exec_trunkFault, if_neg (mt limit.1 (by omega))]
      · rw [acts, applyOutcome_disturbed (s := ended x) queue state data]
        exact if_neg (show ¬ 16 ≤ r.disturbed + 1 by omega)
    · refine ⟨disturbs (failFirst m rest .trunkFault false) fun x => ?_, ?_⟩
      · rw [acts, applyOutcome_disturbed (s := ended x) queue state data]
        exact if_pos reached
      · rw [exec_trunkFault, if_pos (limit.2 reached)]
        rfl
  · intro r reason k state stop
    have ends (result : SegmentOutcome) (x : TrunkInterface) :=
      applyOutcome_aborting (s := ended x) queue state stop result
    refine ⟨wins _ fun x => (acts _ _).trans (ends .won x), loses _ fun x => (acts _ _).trans (ends .lost x),
      disturbs _ fun x => (acts _ _).trans (ends .disturbed x), ?_⟩
    rw [exec_trunkFault, faultAhead_aborting queue state]
    rfl

end Sys2Proof.Machine
end

section
/-! PROOFS. R12, R36, R103, R109 to R111: the opening of an OPEN slot's window. Settles O59. -/

namespace Sys2Proof.Machine

set_option Elab.async false

/-! ### The candidate -/

section
variable {s : State} {m : Message} {rest : List Message} {floor : Nat} {address : Byte}

/-- R36, R75: permission for segments. -/
theorem State.maySendSegment_iff : s.maySendSegment = true ↔
    s.cycle.timing = .leading ∨
      (s.cycle.timing = .locked ∧ s.cycle.listenOnly = false ∧ s.sched.takeUp ≠ .awaitsCycle) := by
  unfold State.maySendSegment CycleUnit.segmentPermission State.resting
  cases s.cycle.timing <;> simp [Timing.following]

theorem Message.waiting_iff (m : Message) : m.waiting = true ↔ m.state = .waiting := by
  unfold Message.waiting
  cases m.state <;> simp

/-- R110: the class with which the first message contends. -/
theorem effectiveClass_eq (m : Message) (q : List Message) :
    effectiveClass m q = if m.state = .waiting then m.cls else max m.cls (highestWaiting q) := by
  unfold effectiveClass
  simp only [m.waiting_iff]

theorem candidate_refused {permission : Bool}
    (refused : ¬permission = true ∨ effectiveClass m (m :: rest) < floor) :
    candidate (m :: rest) permission floor address = none := by
  refine if_neg fun asked => ?_
  rw [Bool.and_eq_true, decide_eq_true_iff] at asked
  obtain ⟨may, class'⟩ := asked
  exact refused.elim (fun h => h may) (fun h => absurd class' (Nat.not_le.2 h))

theorem candidate_asked (clears : floor ≤ effectiveClass m (m :: rest)) :
    candidate (m :: rest) true floor address = candidateOf m (effectiveClass m (m :: rest)) address :=
  if_pos (by rw [Bool.true_and]; exact decide_eq_true clears)

theorem Message.suppliedSegment_iff (m : Message) (i : Nat) :
    m.suppliedSegment i = true ↔ min (40 * (i + 1)) m.total ≤ m.data.length := decide_eq_true_iff

theorem candidateOf_waiting (state : m.state = .waiting) (effective : Nat) : candidateOf m effective address =
    if min (40 * (0 + 1)) m.total ≤ m.data.length then some (dataSegment m 0 effective address, ⟨0, false⟩)
    else none := by
  unfold candidateOf
  rw [state]
  exact if_congr (m.suppliedSegment_iff 0) rfl rfl

theorem candidateOf_inFlight {r : InFlight} (state : m.state = .inFlight r) (effective : Nat) :
    candidateOf m effective address =
      if min (40 * (r.next + 1)) m.total ≤ m.data.length then
        some (dataSegment m r.next effective address, ⟨r.next, false⟩)
      else none := by
  unfold candidateOf
  rw [state]
  exact if_congr (m.suppliedSegment_iff r.next) rfl rfl

theorem candidateOf_aborting {r : InFlight} {reason : FailReason} {k : Nat} (state : m.state = .aborting r reason k)
    (effective : Nat) : candidateOf m effective address = some (abortSegment m r effective address, ⟨r.next, true⟩) := by
  unfold candidateOf
  rw [state]

theorem Message.offered_waiting (state : m.state = .waiting) : m.offered = { m with state := .inFlight InFlight.start } :=
  if_pos ((m.waiting_iff).2 state)

theorem Message.offered_begun (state : m.state ≠ .waiting) : m.offered = m :=
  if_neg (mt (m.waiting_iff).1 state)

end

/-! ### The window opens -/

section
variable {s : State} {start floor : Nat} {f : SegmentFrame} {o : OnLine} {m : Message} {rest : List Message}

theorem openWindow_silence (none : candidate s.tx.queue s.maySendSegment floor s.cycle.address = none)
    (way : Contention) : openWindow start floor way s = s := by
  unfold openWindow
  rw [none]

/-- R109, R111: the message unit once its frame has been offered. -/
def TransmitUnit.offers (x : TransmitUnit) (m : Message) (rest : List Message) (o : OnLine) : TransmitUnit :=
  { x with queue := m.offered :: rest, onLine := some o }

theorem offerFirst_eq (queue : s.tx.queue = m :: rest) : offerFirst o s = { s with tx := s.tx.offers m rest o } := by
  unfold offerFirst
  rw [queue]
  rfl

section
variable (queue : s.tx.queue = m :: rest)
  (offered : candidate s.tx.queue s.maySendSegment floor s.cycle.address = some (f, o))
include queue offered

theorem openWindow_waits (since : Word) : openWindow start floor (.waits since) s =
    { s with
      trunk := { s.trunk with segment := some { bytes := f.bytes, start := start, way := .waits since },
                              ownSlots := { start := start, since := since } :: s.trunk.ownSlots },
      tx := s.tx.offers m rest o } := by
  unfold openWindow
  rw [offered]
  dsimp only
  rw [offerFirst_eq queue]
  rfl

theorem openWindow_silent (lostAt : Word) : openWindow start floor (.silent lostAt) s =
    { s with
      trunk := { s.trunk with segment := some { bytes := f.bytes, start := start, way := .silent lostAt } },
      tx := s.tx.offers m rest o } := by
  unfold openWindow
  rw [offered]
  dsimp only
  rw [offerFirst_eq queue]
  rfl

end

/-- R12: of the instants from the window's opening to its close only the opening itself has come. -/
theorem begins_iff (t : Word) {k : Nat} (near : k ≤ 8) :
    0 ≤ offsetFrom (t + BitVec.ofNat 32 k) t ↔ t + BitVec.ofNat 32 k = t := by
  unfold offsetFrom
  rw [show t - (t + BitVec.ofNat 32 k) = -BitVec.ofNat 32 k by
    rw [sub_add_eq_sub_sub, sub_self, zero_sub]]
  rw [add_eq_left]
  interval_cases k <;> decide

theorem TrunkInterface.reach_silent {i : TrunkInterface} {g : OwnSegment} {lostAt t : Word} (held : i.segment = some g)
    (silent : g.way = .silent lostAt) : i.reach t = { i with lineClock := t } :=
  TrunkInterface.reach_eq fun g' since hg' waits => by
    rw [held] at hg'
    cases hg'
    rw [silent] at waits
    cases waits

/-- R4, R12: a segment that waits, at an instant of the window. -/
theorem TrunkInterface.reach_waits (i : TrunkInterface) (bytes : List Byte) (since t : Word)
    (begins : 0 ≤ offsetFrom since t ↔ since = t) :
    ({ i with segment := some { bytes := bytes, start := start, way := .waits since } } : TrunkInterface).reach t =
      { i with lineClock := t,
               segment := some { bytes := bytes, start := start,
                                 way := if since = t then .sends since else .waits since },
               txen := i.txen || since == t } := by
  by_cases now : since = t
  · rw [TrunkInterface.reach_begins (g := { bytes := bytes, start := start, way := .waits since }) (since := since) rfl rfl
      (begins.2 now)]
    simp [now]
  · rw [TrunkInterface.reach_eq fun g since' held waits => ?_]
    · simp [now]
    · cases held
      cases waits
      exact not_le.1 (mt begins.1 now)

end

/-- R12: the window of a walked OPEN slot opens. -/
theorem exec_openSlotWindowOpens {c : CycleNow} {e : Entry} {floor : Nat} {s : State} (line : OpenLine)
    (current : s.current = some c) (listed : e ∈ s.sched.active.entries)
    (distinct : (s.sched.active.entries.map (·.start)).Nodup) (walked : walks s c e = true)
    (slot : e.slot = .openSlot floor) (idle : s.trunk.segment = none) :
    exec (.openSlotWindowOpens { start := e.start, line := line }) s =
      finish ((openWindow e.start floor (wayToContend line (c.at e.start)) s).atInstant (c.at e.start - 4)) := by
  show execOpenSlotWindowOpens { start := e.start, line := line } s = _
  unfold execOpenSlotWindowOpens
  rw [current]
  simp only [walkedEntry_eq listed distinct walked]
  obtain ⟨start, kind⟩ := e
  cases slot
  exact if_neg (by simp [State.sendingSegment, idle])

/-- Settles O59: the candidate by the state of the first message, the way to contend by what the line shows. -/
theorem openSlotAsked : Obligations.OpenSlotAsked := by
  intro c e floor line s current listed starts walked slot idle own asked listens contends sends silent offers permitted
  have run := exec_openSlotWindowOpens line current listed starts walked slot idle
  have passes (none : candidate s.tx.queue s.maySendSegment floor s.cycle.address = none) : listens := by
    refine run.trans (congrArg finish ?_)
    rw [openWindow_silence none]
    unfold State.atInstant
    rw [TrunkInterface.reach_eq fun g since held _ => by rw [idle] at held; cases held]
    rfl
  refine ⟨fun empty => passes (by rw [empty]; rfl), ?_⟩
  intro m rest queue lifted key part supplied fresh
  have class' : effectiveClass m (m :: rest) = lifted := effectiveClass_eq m _
  have taken (f : SegmentFrame) (o : OnLine)
      (offered : candidate s.tx.queue s.maySendSegment floor s.cycle.address = some (f, o)) : offers f m.offered o := by
    have tail : s.tx.queue.drop 1 = rest := by rw [queue]; rfl
    have sent (k : Nat) (near : k ≤ 8) {since : Word} (place : since = own - 4 + BitVec.ofNat 32 k)
        (way : wayToContend line own = .waits since) : sends f m.offered o since := by
      subst place
      refine run.trans (congrArg finish ?_)
      dsimp only
      rw [show c.at e.start = own from rfl, way, openWindow_waits queue offered, tail]
      exact congrArg (fun i => ({ s with trunk := i, tx := s.tx.offers m rest o } : State))
        (TrunkInterface.reach_waits { s.trunk with ownSlots := { start := e.start, since := _ } :: s.trunk.ownSlots }
          f.bytes _ _ (begins_iff _ near))
    have later (k : Nat) : own + BitVec.ofNat 32 k = own - 4 + BitVec.ofNat 32 (4 + k) := by
      rw [BitVec.ofNat_add, ← add_assoc]
      exact congrArg (· + _) (sub_add_cancel own 4).symm
    have unsent (lostAt : Word) (way : wayToContend line own = .silent lostAt) : silent f m.offered o lostAt := by
      refine run.trans (congrArg finish ?_)
      dsimp only
      rw [show c.at e.start = own from rfl, way, openWindow_silent queue offered, tail]
      exact congrArg (fun i => ({ s with trunk := i, tx := s.tx.offers m rest o } : State))
        (TrunkInterface.reach_silent rfl rfl)
    refine ⟨fun after seen early => ?_, fun quiet => ?_, fun busy => ?_, fun after quiet => ⟨fun early => ?_, fun late => ?_⟩⟩
    · exact sent after (by omega) rfl (by rw [seen]; exact if_pos early)
    · exact sent 4 (by omega) (sub_add_cancel own 4).symm (by rw [quiet]; rfl)
    · exact unsent own (by rw [busy]; rfl)
    · exact sent (4 + after) (by omega) (later after) (by rw [quiet]; exact if_pos early)
    · exact unsent (own + 4) (by rw [quiet]; exact if_neg (by omega))
  refine ⟨fun refused => passes ?_, fun may clears => ?_⟩
  · rw [queue]
    exact candidate_refused (refused.imp (mt State.maySendSegment_iff.1) fun below => class' ▸ below)
  have answer : candidate s.tx.queue s.maySendSegment floor s.cycle.address = candidateOf m lifted s.cycle.address := by
    rw [queue, State.maySendSegment_iff.2 may, candidate_asked (class' ▸ clears), class']
  refine ⟨fun state => ?_, fun r state => ?_, ?_⟩
  · rw [candidateOf_waiting state] at answer
    split
    · next given =>
      rw [if_pos given] at answer
      exact m.offered_waiting state ▸ taken _ _ answer
    · next short =>
      rw [if_neg short] at answer
      exact passes answer
  · rw [candidateOf_inFlight state] at answer
    split
    · next given =>
      rw [if_pos given] at answer
      exact m.offered_begun (by simp [state]) ▸ taken _ _ answer
    · next short =>
      rw [if_neg short] at answer
      exact passes answer
  · intro r reason k state stop
    rw [candidateOf_aborting state] at answer
    exact m.offered_begun (by simp [state]) ▸ taken _ _ answer

end Sys2Proof.Machine
end

section
/-! PROOFS. R11, R89 to R92: what the end of a CYCLIC slot does to the channel unit. Settles O58. -/

namespace Sys2Proof.Machine

set_option Elab.async false

/-! ### The frame of the slot -/

section
variable {f : CyclicFrame} {owner label : Byte} {payload : Nat} {frame : Option CyclicFrame} {ch : Channel} {s : State}

theorem CyclicFrame.inPlace_iff :
    f.inPlace owner label payload = true ↔ f.label = label ∧ f.source = owner ∧ f.payload.length = payload := by
  unfold CyclicFrame.inPlace
  simp only [Bool.and_eq_true, beq_iff_eq, and_assoc]

/-- R79, R89: the frame that a channel accepts. -/
theorem Channel.takes_eq_some : ch.takes (inPlaceFrame owner label payload frame) = some f ↔
    frame = some f ∧ (f.label = label ∧ f.source = owner ∧ f.payload.length = payload) ∧
      f.payload.length = ch.length := by
  unfold Channel.takes inPlaceFrame
  simp only [Option.filter_eq_some_iff, CyclicFrame.inPlace_iff, beq_iff_eq, and_assoc]

theorem Channel.takes_eq_none (unfit : ∀ f, frame = some f →
    ¬((f.label = label ∧ f.source = owner ∧ f.payload.length = payload) ∧ f.payload.length = ch.length)) :
    ch.takes (inPlaceFrame owner label payload frame) = none :=
  Option.eq_none_iff_forall_ne_some.2 fun f taken =>
    let ⟨held, accepted⟩ := Channel.takes_eq_some.1 taken
    unfit f held accepted

theorem countsWrongSlot_iff : countsWrongSlot s f owner label payload = true ↔
    ¬(f.label = label ∧ f.source = owner ∧ f.payload.length = payload) ∧
      (f.label = label ∨ ∃ c, some c ∈ s.channels ∧ c.label = f.label) := by
  have bound : (channelOfLabel f.label 0 s.channels).isSome = true ↔ ∃ c, some c ∈ s.channels ∧ c.label = f.label := by
    rw [← mem_labelsOf, ← Option.ne_none_iff_isSome, ne_eq, channelOfLabel_none, not_not]
  unfold countsWrongSlot
  rw [Bool.and_eq_true, Bool.or_eq_true, Bool.not_eq_true', ← Bool.not_eq_true, CyclicFrame.inPlace_iff, beq_iff_eq, bound]

/-- R89: the counter WRONG_SLOT after a slot end. -/
theorem countWrongSlot_eq (frame : Option CyclicFrame) (s : State) : countWrongSlot owner label payload frame s =
    { s with trunk := { s.trunk with
        wrongSlot := if frame.any (fun f => countsWrongSlot s f owner label payload) then bump s.trunk.wrongSlot
          else s.trunk.wrongSlot } } := by
  unfold countWrongSlot
  split <;> rfl

end

/-! ### The channel of the slot -/

/-- R92: the changes of state that are told. -/
theorem freshnessReported_iff (before after : ConsumeState) : freshnessReported before after = true ↔
    (after = .lost ∧ before ≠ .lost) ∨ (after = .staleSource ∧ before ≠ .staleSource) ∨
      (after = .fresh ∧ (before = .lost ∨ before = .staleSource)) := by
  cases after <;> simp [freshnessReported]

section
variable {number : Word} {owner label : Byte} {payload k : Nat} {frame : Option CyclicFrame} {ch : Channel} {d : Consume}
  {s : State}

/-- R89: with no RESOLVED consume channel bound to the label the slot end is the trunk interface's alone. -/
theorem channelSlotEnd_unconsumed
    (none : ∀ ch, some ch ∈ s.channels → ¬(ch.label = label ∧ ch.resolution = .resolved ∧ ∃ d, ch.direction = .consume d)) :
    channelSlotEnd number owner label payload frame s = countWrongSlot owner label payload frame s := by
  unfold channelSlotEnd
  cases found : channelOfLabel label 0 s.channels with
  | none => rfl
  | some p =>
    obtain ⟨bound, named⟩ := channelOfLabel_bound (place := p.1) (c := p.2) found
    have idle := none p.2 bound
    show evaluateChannel number p.1 p.2 _ _ = _
    unfold evaluateChannel
    cases direction : p.2.direction with
    | produce _ => rfl
    | consume d => exact if_neg fun resolved => idle ⟨named, resolved, d, direction⟩

/-- R89: the RESOLVED consume channel that is bound to the label is evaluated. -/
theorem channelSlotEnd_consumed (held : s.channels[k]? = some (some ch)) (distinct : (labelsOf s.channels).Nodup)
    (named : ch.label = label) (resolved : ch.resolution = .resolved) (direction : ch.direction = .consume d) :
    let new := ch.evaluated d number (ch.takes (inPlaceFrame owner label payload frame))
    channelSlotEnd number owner label payload frame s = giveNotices (freshnessNotices k ch new)
      { countWrongSlot owner label payload frame s with channels := s.channels.set k (some new) } := by
  intro new
  have found : channelOfLabel label 0 s.channels = some (k, ch) := by
    rw [← named, channelOfLabel_eq held distinct, Nat.zero_add]
  unfold channelSlotEnd
  rw [found]
  show evaluateChannel number k ch _ _ = _
  unfold evaluateChannel
  rw [direction]
  refine (if_pos resolved).trans ?_
  rw [countWrongSlot_eq]

/-- R92: the notice unit once a slot end has left the channel in this state. -/
def freshnessTold (s : State) (k : Nat) (label : Byte) (report : Bool) (before : ConsumeState) (after : ConsumeReport) : NoticeUnit :=
  if report = true ∧ ((after.newState = .lost ∧ before ≠ .lost) ∨
      (after.newState = .staleSource ∧ before ≠ .staleSource) ∨
      (after.newState = .fresh ∧ (before = .lost ∨ before = .staleSource))) then
    (giveNotice (.channelState k label .freshness .resolved (some after)) s).notices
  else s.notices

/-- R92: a state that stays as it was is not told. -/
theorem freshnessTold_same (s : State) (k : Nat) (label : Byte) (report : Bool) (d : Consume) (age : Option Byte) :
    freshnessTold s k label report d.state
      { newState := d.state, before := d.state, missCount := d.missCount, age := age } = s.notices := by
  refine if_neg fun told => ?_
  rw [← freshnessReported_iff] at told
  cases state : d.state <;> simp [state, freshnessReported] at told

theorem freshnessNotices_given {new : Channel} {d' : Consume} (before : ch.direction = .consume d)
    (after : new.direction = .consume d') (named : new.label = label) (resolved : new.resolution = .resolved)
    {x : State} (notices : x.notices = s.notices) (cycle : x.cycle = s.cycle) :
    (giveNotices (freshnessNotices k ch new) x).notices = freshnessTold s k label ch.report d.state
      { newState := d'.state, before := d.state, missCount := d'.missCount, age := d'.reportAge } := by
  have told : channelNotice k .freshness ch new = .channelState k label .freshness .resolved (some
      { newState := d'.state, before := d.state, missCount := d'.missCount, age := d'.reportAge }) := by
    unfold channelNotice
    rw [before, after, named, resolved]
    rfl
  unfold freshnessNotices freshnessTold
  rw [before, after]
  simp only [← freshnessReported_iff, ← Bool.and_eq_true, told]
  split
  · exact giveNotice_notices_congr notices (State.cycleNumber_congr cycle) _
  · exact notices

end

/-! ### A miss -/

/-- R91: the states from which a channel misses. -/
abbrev Consume.misses (d : Consume) : Prop := d.state = .missed ∨ d.state = .fresh ∨ d.state = .staleSource

/-- R91: the miss count that a miss leaves. -/
def Consume.countAfter (d : Consume) : Nat := if d.state = .missed then d.missCount + 1 else 1

section
variable {d : Consume}

theorem Consume.miss_counted (misses : d.misses) : d.miss = d.missedBy d.countAfter := by
  unfold Consume.miss Consume.countAfter
  obtain state | state | state := misses <;> rw [state] <;> rfl

theorem Consume.miss_idle (idle : ¬d.misses) : d.miss = d := by
  unfold Consume.misses at idle
  unfold Consume.miss
  cases state : d.state <;> simp [state] at idle ⊢

/-- R91: the channel without an accepted frame enters LOST exactly when it misses and its count reaches the limit. -/
theorem Channel.losesNow_iff {ch : Channel} (resolved : ch.resolution = .resolved)
    (direction : ch.direction = .consume d) : ch.losesNow = true ↔ d.misses ∧ d.missLimit ≤ d.countAfter := by
  unfold Channel.losesNow
  rw [direction]
  simp only [resolved, beq_self_eq_true, Bool.true_and, Bool.and_eq_true, bne_iff_ne, beq_iff_eq]
  by_cases misses : d.misses
  · have unlost : d.state ≠ .lost := by
      obtain state | state | state := misses <;> simp [state]
    rw [Consume.miss_counted misses]
    simp [Consume.missedBy, unlost, misses]
  · rw [Consume.miss_idle misses]
    simp [misses]

/-- R90: the state that an accepted frame gives. -/
theorem freshness_eq (staleLimit age : Byte) :
    freshness staleLimit age = if staleLimit ≠ 0 ∧ staleLimit < age then .staleSource else .fresh := by
  unfold freshness
  by_cases stale : staleLimit ≠ 0 ∧ staleLimit < age
  · rw [if_pos stale, if_neg]
    simpa using stale
  · rw [if_neg stale, if_pos]
    simpa [or_iff_not_imp_left] using stale

end

/-- R90: an accepted frame. -/
theorem Consume.accept_eq (d : Consume) (number : Word) (age : Byte) : d.accept number age = { d with
    state := if d.staleLimit ≠ 0 ∧ d.staleLimit < age then .staleSource else .fresh, missCount := 0,
    received := some { cycle := number, age := age } } := by
  unfold Consume.accept
  rw [freshness_eq]

theorem Consume.reportAge_accept (d : Consume) (number : Word) (age : Byte) :
    (d.accept number age).reportAge = some age := by
  rw [Consume.accept_eq]
  unfold Consume.reportAge
  dsimp only
  split_ifs <;> rfl

theorem Consume.reportAge_missedBy (d : Consume) (count : Nat) : (d.missedBy count).reportAge = none := by
  unfold Consume.reportAge Consume.missedBy
  dsimp only
  split_ifs <;> rfl

/-! ### The command -/

/-- R11: the state once this slot end has been handed. -/
def State.slotEnded (s : State) (c : CycleNow) (start : Nat) (x : SlotEnd) : State :=
  (handSlotEnd c.number x (releaseSlot start (s.atInstant x.instant))).setAttn

section
variable {c : CycleNow} {start : Nat} {x : SlotEnd} {s : State}

theorem exec_cyclicSlotEnd (current : s.current = some c) (due : slotEndDue c start s = some x) :
    exec (.cyclicSlotEnd start) s = .next (s.slotEnded c start x) := by
  show cyclicSlotEnds start s = _
  unfold cyclicSlotEnds
  rw [current]
  dsimp only
  rw [due]
  rfl

theorem exec_channelLost (current : s.current = some c) (due : slotEndDue c start s = some x) :
    exec (.channelLost start) s = .next (if x.loses s then s.slotEnded c start x else s) := by
  have ended : cyclicSlotEnds start s = .next (s.slotEnded c start x) := exec_cyclicSlotEnd current due
  have lost : channelLostAt start s = x.loses s := by
    unfold channelLostAt
    rw [current]
    show (slotEndDue c start s).any _ = _
    rw [due]
    rfl
  show (if channelLostAt start s then cyclicSlotEnds start s else noEvent s) = _
  rw [lost, ended]
  cases x.loses s <;> rfl

theorem slotEnded_trunk : (s.slotEnded c start x).trunk =
    (countWrongSlot x.owner x.label x.payload x.frame (releaseSlot start (s.atInstant x.instant))).trunk := by
  unfold State.slotEnded handSlotEnd
  rw [setAttn_trunk, channelSlotEnd_trunk]

theorem slotEnded_lineClock : (s.slotEnded c start x).trunk.lineClock = x.instant := by
  rw [slotEnded_trunk, countWrongSlot_eq]
  show (releaseSlot start (s.atInstant x.instant)).trunk.lineClock = _
  rw [releaseSlot_trunk]
  rfl

/-- R89: WRONG_SLOT after the slot end. -/
theorem slotEnded_wrongSlot : (s.slotEnded c start x).trunk.wrongSlot =
    if x.frame.any (fun f => countsWrongSlot s f x.owner x.label x.payload) then bump s.trunk.wrongSlot
    else s.trunk.wrongSlot := by
  have judged (f : CyclicFrame) : countsWrongSlot (releaseSlot start (s.atInstant x.instant)) f x.owner x.label x.payload =
      countsWrongSlot s f x.owner x.label x.payload := by
    unfold countsWrongSlot
    rw [show (releaseSlot start (s.atInstant x.instant)).channels = s.channels by simp]
  rw [slotEnded_trunk, countWrongSlot_eq]
  simp only [judged]
  rw [releaseSlot_trunk]
  rfl

theorem slotEnded_unconsumed (none : ∀ ch, some ch ∈ s.channels →
      ¬(ch.label = x.label ∧ ch.resolution = .resolved ∧ ∃ d, ch.direction = .consume d)) :
    (s.slotEnded c start x).channels = s.channels ∧ (s.slotEnded c start x).notices = s.notices ∧
      x.loses s = false := by
  have released : (releaseSlot start (s.atInstant x.instant)).channels = s.channels := by simp
  have ended := channelSlotEnd_unconsumed (number := c.number) (owner := x.owner) (payload := x.payload) (frame := x.frame)
    (s := releaseSlot start (s.atInstant x.instant)) (released ▸ none)
  unfold State.slotEnded handSlotEnd
  rw [ended, countWrongSlot_eq]
  refine ⟨by simp, by simp, ?_⟩
  unfold SlotEnd.loses
  cases found : channelOfLabel x.label 0 s.channels with
  | none => rfl
  | some p =>
    obtain ⟨bound, named⟩ := channelOfLabel_bound (place := p.1) (c := p.2) found
    have unable : p.2.losesNow = false := by
      unfold Channel.losesNow
      cases direction : p.2.direction with
      | produce _ => rfl
      | consume d =>
        have unresolved : p.2.resolution ≠ .resolved := fun resolved => none p.2 bound ⟨named, resolved, d, direction⟩
        simp [unresolved]
    simp [unable]

section
variable {k : Nat} {ch : Channel} {d : Consume} (held : s.channels[k]? = some (some ch))
  (distinct : (labelsOf s.channels).Nodup) (named : ch.label = x.label)
include held distinct named

theorem loses_consumed : x.loses s =
    ((ch.takes (inPlaceFrame x.owner x.label x.payload x.frame)).isNone && ch.losesNow) := by
  unfold SlotEnd.loses
  rw [← named, channelOfLabel_eq held distinct]
  rfl

theorem slotEnded_consumed (resolved : ch.resolution = .resolved) (direction : ch.direction = .consume d)
    {new : Channel} {d' : Consume}
    (evaluated : ch.evaluated d c.number (ch.takes (inPlaceFrame x.owner x.label x.payload x.frame)) = new)
    (after : new.direction = .consume d') (kept : new.label = ch.label ∧ new.resolution = ch.resolution) :
    (s.slotEnded c start x).channels = s.channels.set k (some new) ∧
    (s.slotEnded c start x).notices = freshnessTold s k x.label ch.report d.state
      { newState := d'.state, before := d.state, missCount := d'.missCount, age := d'.reportAge } := by
  have released : (releaseSlot start (s.atInstant x.instant)).channels = s.channels := by simp
  have ended := channelSlotEnd_consumed (number := c.number) (owner := x.owner) (payload := x.payload) (frame := x.frame)
    (s := releaseSlot start (s.atInstant x.instant)) (by rw [released]; exact held) (by rw [released]; exact distinct)
    named resolved direction
  rw [evaluated, released, countWrongSlot_eq] at ended
  unfold State.slotEnded handSlotEnd
  rw [setAttn_channels, setAttn_notices, ended]
  exact ⟨by simp, freshnessNotices_given direction after (kept.1.trans named) (kept.2.trans resolved) (by simp) (by simp)⟩

end

/-! ### The slot end that is due -/

theorem Entry.slotEnd_cyclic {e : Entry} {n payload : Nat} {owner label : Byte} (slot : e.slot = .cyclic n owner label payload)
    (frame : Option CyclicFrame) (instant : Word) : e.slotEnd frame instant = some ⟨owner, label, payload, frame, instant⟩ := by
  unfold Entry.slotEnd
  rw [slot]

theorem Entry.slotLength_cyclic {e : Entry} {n payload : Nat} {owner label : Byte}
    (slot : e.slot = .cyclic n owner label payload) : e.slotLength = n := by
  unfold Entry.slotLength
  rw [slot]

/-- R11: with no late slot of that start due, the walked entry's slot ends. -/
theorem slotEndDue_walked {e : Entry} (listed : e ∈ s.sched.active.entries)
    (starts : (s.sched.active.entries.map (·.start)).Nodup) (walked : walks s c e = true)
    (timely : ∀ l ∈ s.trunk.late, l.entry.start = e.start → l.record = none) :
    slotEndDue c e.start s =
      e.slotEnd (heldFrame e.start s) (slotEndInstant (c.at e.finish) (recordOfSlot e.start s)) := by
  have none : lateSlotDue e.start s = none := by
    refine List.find?_eq_none.2 fun l hl due => ?_
    simp only [Bool.and_eq_true, beq_iff_eq] at due
    rw [timely l hl due.1] at due
    exact absurd due.2 (by decide)
  unfold slotEndDue
  rw [none, walkedEntry_eq listed starts walked]
  rfl

section
variable {before after : List LateSlot} {l : LateSlot} {r : SlotRecord} (late : s.trunk.late = before ++ l :: after)
  (record : l.record = some r) (first : ∀ y ∈ before, y.entry.start = l.entry.start → y.record = none)
include late record first

theorem lateSlotDue_first : lateSlotDue l.entry.start s = some l := by
  unfold lateSlotDue
  rw [late, List.find?_append, List.find?_eq_none.2, List.find?_cons_of_pos]
  · rfl
  · simp [record]
  · intro y hy due
    simp only [Bool.and_eq_true, beq_iff_eq] at due
    rw [first y hy due.1] at due
    exact absurd due.2 (by decide)

/-- R11: the late slot's end is handed once, and the slot is no longer waited for. -/
theorem slotEnded_late : l ∉ (s.slotEnded c l.entry.start x).trunk.late := by
  have due : lateSlotDue l.entry.start (s.atInstant x.instant) = some l := lateSlotDue_first late record first
  rw [slotEnded_trunk, countWrongSlot_eq]
  unfold releaseSlot
  rw [due]
  simp

end

end

/-- Settles O58. -/
theorem consumeChannelsEvaluated : Obligations.ConsumeChannelsEvaluated := by
  intro c e n payload owner label s current slot distinct ended later consumed evaluated
  have judged (frame : Option CyclicFrame) (instant : Word)
      (due : slotEndDue c e.start s = some ⟨owner, label, payload, frame, instant⟩) :
      evaluated frame (s.slotEnded c e.start ⟨owner, label, payload, frame, instant⟩) := by
    have lost := exec_channelLost current due
    refine ⟨?_, fun fits => ?_, fun none => ?_, fun k ch d held named resolved direction => ⟨?_, ?_⟩⟩
    · rintro ⟨f, rfl, wrong⟩
      exact slotEnded_wrongSlot.trans (if_pos (countsWrongSlot_iff.2 wrong))
    · refine slotEnded_wrongSlot.trans (if_neg fun counts => ?_)
      obtain ⟨f, given, counted⟩ := (Option.any_eq_true _ _).1 counts
      obtain ⟨misplaced, known⟩ := countsWrongSlot_iff.1 counted
      obtain ⟨unlike, unbound⟩ := (fits f given).resolve_left misplaced
      exact known.elim unlike unbound
    · obtain ⟨channels, notices, unlost⟩ := slotEnded_unconsumed (c := c) (start := e.start)
        (x := ⟨owner, label, payload, frame, instant⟩) none
      exact ⟨channels, notices, by rw [lost, unlost]; rfl⟩
    · intro f given fit state
      have takes : ch.takes (inPlaceFrame owner label payload frame) = some f := Channel.takes_eq_some.2 ⟨given, fit⟩
      have unlost := loses_consumed (x := ⟨owner, label, payload, frame, instant⟩) held distinct named
      rw [takes] at unlost
      obtain ⟨channels, notices⟩ := slotEnded_consumed (c := c) (start := e.start)
        (x := ⟨owner, label, payload, frame, instant⟩) held distinct named resolved direction
        (congrArg (ch.evaluated d c.number) takes) (d' := d.accept c.number f.age) rfl ⟨rfl, rfl⟩
      rw [Consume.reportAge_accept, Consume.accept_eq] at notices
      refine ⟨by rw [lost, unlost]; rfl, notices, channels.trans ?_⟩
      unfold Channel.evaluated
      dsimp only
      rw [Consume.accept_eq]
    · intro unfit count state
      have takes : ch.takes (inPlaceFrame owner label payload frame) = none := Channel.takes_eq_none unfit
      have loses := loses_consumed (x := ⟨owner, label, payload, frame, instant⟩) held distinct named
      rw [takes] at loses
      obtain ⟨channels, notices⟩ := slotEnded_consumed (c := c) (start := e.start)
        (x := ⟨owner, label, payload, frame, instant⟩) held distinct named resolved direction
        (congrArg (ch.evaluated d c.number) takes) (d' := d.miss) rfl ⟨rfl, rfl⟩
      refine ⟨fun misses => ?_, fun idle => ?_, ?_⟩
      · rw [Consume.miss_counted misses, Consume.reportAge_missedBy] at notices
        refine ⟨notices, channels.trans ?_⟩
        unfold Channel.evaluated
        dsimp only
        rw [Consume.miss_counted misses]
        rfl
      · rw [Consume.miss_idle idle, freshnessTold_same] at notices
        refine ⟨channels.trans ?_, notices⟩
        unfold Channel.evaluated
        dsimp only
        rw [Consume.miss_idle idle, ← direction]
        obtain ⟨within, at'⟩ := List.getElem?_eq_some_iff.1 held
        rw [← at', List.set_getElem_self]
      · refine lost.trans (congrArg Host.Outcome.next (if_congr ?_ rfl rfl))
        rw [loses]
        exact Channel.losesNow_iff resolved direction
  have instant (finish : Word) (r : Option SlotRecord) : slotEndInstant finish r = later finish r := by
    cases r <;> rfl
  refine ⟨fun listed starts walked timely => ?_, fun before l after r late same record first => ?_⟩
  · have due := slotEndDue_walked listed starts walked timely
    rw [Entry.slotEnd_cyclic slot] at due
    refine ⟨_, exec_cyclicSlotEnd current due, slotEnded_lineClock.trans ?_, judged _ _ due⟩
    dsimp only
    rw [instant, Entry.finish, Entry.slotLength_cyclic slot]
    rfl
  · subst same
    have due : slotEndDue c l.entry.start s = l.slotEnd := by
      unfold slotEndDue
      rw [lateSlotDue_first late record first]
    unfold LateSlot.slotEnd at due
    rw [Entry.slotEnd_cyclic slot, record] at due
    refine ⟨_, exec_cyclicSlotEnd current due, slotEnded_late late record first, slotEnded_lineClock.trans ?_,
      judged _ _ due⟩
    dsimp only
    rw [instant, Entry.slotLength_cyclic slot]

end Sys2Proof.Machine
end

section
/-! PROOFS. R23, R54, R63, R72, R75, R77, R84, R87, R114, R117, R133, R135: what a cycle start does to every unit, with its
notices in order. Settles O51. -/

namespace Sys2Proof.Machine

set_option Elab.async false

/-! ### The receive message unit -/

/-- R135: the open contexts that lapse at the next cycle start. -/
def lapsing (places : List (Option Context)) : List Context :=
  (contextsOf places).filter (fun x => decide (64 ≤ x.idle + 1))

/-- R133, R135: the receive message unit after a cycle start. -/
def ReceiveUnit.cycled (u : ReceiveUnit) : ReceiveUnit :=
  { u with
    places := u.places.map (fun o => o.bind (fun x =>
      if 64 ≤ x.idle + 1 then none else some { x with idle := x.idle + 1 })),
    free := u.free + ((lapsing u.places).map (fun x => (x.data.length + 63) / 64)).sum,
    records := (u.records.map (fun r => { r with count := r.count + 1 })).filter (fun r => r.count < 64) }

section
variable {s : State}

theorem placesWithout_idled (places : List (Option Context)) :
    placesWithout (fun c => Config.idleLimit ≤ c.idle) (places.map (fun o => o.map Context.idled)) =
      places.map (fun o => o.bind (fun x => if 64 ≤ x.idle + 1 then none else some { x with idle := x.idle + 1 })) := by
  unfold placesWithout
  rw [List.map_map]
  refine List.map_congr_left fun o _ => ?_
  cases o with
  | none => rfl
  | some x =>
    show (if (!decide (64 ≤ x.idle + 1)) = true then some x.idled else none) = if 64 ≤ x.idle + 1 then none else some x.idled
    by_cases lapses : 64 ≤ x.idle + 1
    · rw [if_pos lapses, decide_eq_true lapses]
      rfl
    · rw [if_neg lapses, decide_eq_false lapses]
      rfl

theorem contextsOf_idled (places : List (Option Context)) :
    (contextsOf (places.map (fun o => o.map Context.idled))).filter (fun c => Config.idleLimit ≤ c.idle) =
      (lapsing places).map Context.idled := by
  rw [contextsOf_map, List.filter_map]
  rfl

theorem receiveCycleStart_spec (size : s.rx.places.length = Config.placeCount) :
    (receiveCycleStart s).rx = s.rx.cycled ∧
    Gives ((lapsing s.rx.places).map (fun x => .messageDropped x.source x.id x.dest .timeout x.data.length)) s
      (receiveCycleStart s) := by
  obtain ⟨rx, given⟩ := breakWhere_spec (fun c => Config.idleLimit ≤ c.idle) .timeout (s := receiveCounts s)
    ((List.length_map _).trans size)
  refine ⟨rx.trans ?_, ?_⟩
  · unfold ReceiveUnit.without ReceiveUnit.cycled receiveCounts
    dsimp only
    rw [placesWithout_idled, contextsOf_idled, List.map_map]
    rfl
  · unfold droppedContexts receiveCounts at given
    dsimp only at given
    rw [contextsOf_idled, List.map_map] at given
    exact given.after rfl rfl

/-! ### The transmit message unit -/

/-- R114, R117: the reason for which the first message leaves at a cycle start. -/
def Message.goneAt (m : Message) : Option FailReason :=
  match m.state with
  | .waiting => none
  | .inFlight r => if r.next = 0 then m.limitAt r else none
  | .aborting _ reason k => if 16 ≤ k + 1 then some reason else none

/-- R114, R117: its MESSAGE_FAILED. -/
def failedAt : List Message → List NoticeBody
  | [] => []
  | m :: _ => m.goneAt.toList.map (fun reason => .messageFailed m.id m.dest m.cls reason false m.sent)

/-- R114: the blocks of a first message that goes back to the store at a cycle start. -/
def Message.backAt (m : Message) : Nat :=
  match m.state with
  | .inFlight r => if (m.limitAt r).isSome then m.blocks else 0
  | .waiting | .aborting _ _ _ => 0

def backAt : List Message → Nat
  | [] => 0
  | m :: _ => m.backAt

theorem transmitCycleStart_gives (s : State) :
    Gives (failedAt s.tx.queue ++ roomGiven s.tx (backAt s.tx.queue)) s (transmitCycleStart s) := by
  have silent {t : State} (given : Gives [] s t) : Gives ([] ++ roomGiven s.tx 0) s t := by
    rw [roomGiven_none]
    exact given
  cases queue : s.tx.queue with
  | nil =>
    rw [transmitCycleStart_empty queue]
    exact silent (Gives.silent rfl rfl)
  | cons m rest =>
    show Gives (m.goneAt.toList.map (fun reason => .messageFailed m.id m.dest m.cls reason false m.sent) ++
      roomGiven s.tx m.backAt) s (transmitCycleStart s)
    cases state : m.state with
    | waiting =>
      rw [transmitCycleStart_waiting queue state]
      simp only [Message.goneAt, Message.backAt, state]
      exact silent (Gives.silent rfl rfl)
    | aborting r reason k =>
      rw [transmitCycleStart_aborting queue state]
      simp only [Message.goneAt, Message.backAt, state]
      have given := (countAborting_spec state rest s).2
      rw [roomGiven_none, List.append_nil]
      split
      · next spent =>
        rw [if_pos spent] at given
        exact given
      · next short =>
        rw [if_neg short] at given
        exact given
    | inFlight r =>
      rw [transmitCycleStart_inFlight queue state]
      simp only [Message.goneAt, Message.backAt, state]
      have spec := countInFlight_spec state rest s
      cases limit : m.limitAt r with
      | none =>
        rw [limit] at spec
        rw [ite_self]
        exact silent spec.2
      | some reason =>
        rw [limit] at spec
        have given := spec.2
        by_cases unsent : r.next = 0
        · rw [if_pos unsent] at given ⊢
          exact given
        · rw [if_neg unsent] at given ⊢
          exact given

end

/-! ### Channels resolved afresh -/

/-- R83: the resolution of a channel against these entries. -/
def foundIn (entries : List Entry) (address : Byte) (k : Channel) : Resolution :=
  resolve entries address k.label k.length k.direction

/-- R84, R87: a channel after the cycle start at which these entries become ACTIVE. -/
def Channel.freshIn (entries : List Entry) (address : Byte) (k : Channel) : Channel :=
  { k with resolution := foundIn entries address k, direction := match k.direction with
    | .produce age => .produce (age.map (fun a => min 255 (a + 1)))
    | .consume d =>
      if foundIn entries address k ≠ .resolved then .consume { d with state := .unscheduled, missCount := 0 }
      else if k.resolution = .resolved then .consume d
      else .consume { d with state := .waiting, missCount := 0 } }

/-- R92: the CHANNEL_STATE of a channel whose resolution these entries change. -/
def Channel.changeTold (entries : List Entry) (address : Byte) (number : Nat) (k : Channel) : Option NoticeBody :=
  if k.report && foundIn entries address k != k.resolution then
    some (.channelState number k.label .resolution (foundIn entries address k) (match k.direction with
      | .produce _ => none
      | .consume d => some { newState := if foundIn entries address k = .resolved then .waiting else .unscheduled,
                             before := d.state, missCount := 0, age := none }))
  else none

section
variable {s : State} {entries : List Entry} {address : Byte}

section
variable (active : s.sched.active.entries = entries) (own : s.cycle.address = address)
include active own

theorem resolutionOf_found (k : Channel) : s.resolutionOf k.label k.length k.direction = foundIn entries address k := by
  unfold State.resolutionOf foundIn
  rw [active, own]

theorem reresolve_aged (k : Channel) : (s.reresolve k).aged = k.freshIn entries address := by
  unfold State.reresolve Channel.freshIn Channel.aged
  rw [resolutionOf_found active own]
  cases k.direction with
  | produce age => cases age <;> rfl
  | consume d =>
    dsimp only [Direction.follow]
    split_ifs <;> rfl

theorem channelNotice_changed (number : Nat) (k : Channel) (changed : foundIn entries address k ≠ k.resolution) :
    channelNotice number .resolution k (s.reresolve k) =
      .channelState number k.label .resolution (foundIn entries address k) (match k.direction with
        | .produce _ => none
        | .consume d => some { newState := if foundIn entries address k = .resolved then .waiting else .unscheduled,
                               before := d.state, missCount := 0, age := none }) := by
  unfold channelNotice State.reresolve
  rw [resolutionOf_found active own]
  cases k.direction with
  | produce age => rfl
  | consume d =>
    dsimp only [Direction.follow]
    by_cases resolved : foundIn entries address k = .resolved
    · have before : k.resolution ≠ .resolved := fun h => changed (resolved.trans h.symm)
      rw [if_neg (not_not_intro resolved), if_neg before, if_pos resolved]
      rfl
    · rw [if_pos resolved, if_neg resolved]
      rfl

theorem resolutionNotices_eq (number : Nat) (channels : List (Option Channel)) :
    resolutionNotices s number channels =
      (channels.zipIdx number).filterMap (fun p => p.1.bind (fun k => k.changeTold entries address p.2)) := by
  induction channels generalizing number with
  | nil => rfl
  | cons o rest ih =>
    rw [List.zipIdx_cons, List.filterMap_cons]
    cases o with
    | none => exact ih (number + 1)
    | some k =>
      have after : (s.reresolve k).resolution = foundIn entries address k := resolutionOf_found active own k
      unfold resolutionNotices
      rw [after, ih]
      by_cases told : (k.report && foundIn entries address k != k.resolution) = true
      · have changed : foundIn entries address k ≠ k.resolution := by
          simpa using (Bool.and_eq_true_iff.1 told).2
        have body : k.changeTold entries address number = some _ := if_pos told
        rw [if_pos told, channelNotice_changed active own number k changed]
        simp only [Option.bind_some, body]
      · have body : k.changeTold entries address number = none := if_neg told
        rw [if_neg told]
        simp only [Option.bind_some, body]

end

/-! ### The switch -/

/-- R54, R75: the schedule unit after a switch. -/
def ScheduleUnit.switched (x : ScheduleUnit) (epoch : Half) (n : Nat) (entries : List Entry) (number : Word)
    (mode : SwitchMode) : ScheduleUnit :=
  { x with active := { epoch := epoch, cycleLength := some n, entries := entries },
           staged := .empty, adoption := false, lastSwitch := some { epoch := epoch, cycle := number },
           takeUp := if mode = .late then .awaitsMatch else .done }

/-- R77, R84, R92: the notices of the channels that a switch to these entries changes. -/
def changesTold (entries : List Entry) (address : Byte) (channels : List (Option Channel)) : List NoticeBody :=
  channels.zipIdx.filterMap (fun p => p.1.bind (fun k => k.changeTold entries address p.2))

theorem makeSwitch_spec (epoch : Half) (n : Nat) (entries : List Entry) (number : Word) (mode : SwitchMode) (s : State) :
    let t := makeSwitch epoch n entries number mode s
    t.sched = s.sched.switched epoch n entries number mode ∧
    (channelCycleStart t).channels = s.channels.map (fun o => o.map (Channel.freshIn entries s.cycle.address)) ∧
    Gives (.scheduleActivated epoch n number mode :: changesTold entries s.cycle.address s.channels) s t := by
  let x : State := { s with sched := { s.sched with
    active := { epoch := epoch, cycleLength := some n, entries := entries }, staged := .empty,
    lastSwitch := some { epoch := epoch, cycle := number }, adoption := false, takeUp := mode.takeUp } }
  let y := giveNotice (.scheduleActivated epoch n number mode) x
  have active : y.sched.active.entries = entries := by simp [y, x]
  have own : y.cycle.address = s.cycle.address := by simp [y, x]
  have channels : y.channels = s.channels := by simp [y, x]
  refine ⟨?_, ?_, ?_⟩
  · show (giveNotices _ _).sched = _
    rw [giveNotices_sched]
    show y.sched = _
    rw [giveNotice_sched]
    cases mode <;> rfl
  · show (giveNotices _ _).channels.map _ = _
    rw [giveNotices_channels]
    show (y.channels.map _).map _ = _
    rw [channels, List.map_map]
    refine List.map_congr_left fun o _ => ?_
    cases o with
    | none => rfl
    | some k => exact congrArg some (reresolve_aged active own k)
  · have bodies : resolutionNotices y 0 y.channels = changesTold entries s.cycle.address s.channels := by
      rw [resolutionNotices_eq active own, channels]
      rfl
    have told := Gives.all (resolutionNotices y 0 y.channels)
      { y with channels := y.channels.map (fun o => o.map y.reresolve) }
    rw [← bodies]
    exact ((Gives.one (.scheduleActivated epoch n number mode) x).trans (told.after rfl rfl)).after (s := s) rfl rfl

theorem scheduleCycleStart_armed {epoch : Half} {n : Nat} {number : Word}
    (staged : s.sched.staged = .armed epoch n entries number) :
    scheduleCycleStart number s = makeSwitch epoch n entries number .onTime (s.withTakeUp s.sched.takeUp.begins) := by
  show switchBank _ _ = _
  unfold switchBank
  rw [show (s.withTakeUp s.sched.takeUp.begins).sched.staged = _ from staged]
  exact if_pos rfl

theorem scheduleCycleStart_adopted {epoch : Half} {n : Nat} (number : Word)
    (staged : s.sched.staged = .closed epoch n entries) (marked : s.sched.adoption = true) :
    scheduleCycleStart number s = makeSwitch epoch n entries number .late (s.withTakeUp s.sched.takeUp.begins) := by
  show switchBank _ _ = _
  unfold switchBank
  rw [show (s.withTakeUp s.sched.takeUp.begins).sched.staged = _ from staged]
  exact if_pos marked

theorem scheduleCycleStart_kept {number : Word} (unarmed : ∀ epoch n entries, s.sched.staged ≠ .armed epoch n entries number)
    (unmarked : s.sched.staged.state = .closed → s.sched.adoption = false) :
    scheduleCycleStart number s = dropAdoption (s.withTakeUp s.sched.takeUp.begins) := by
  show switchBank _ _ = _
  unfold switchBank
  rw [show (s.withTakeUp s.sched.takeUp.begins).sched.staged = s.sched.staged from rfl]
  cases staged : s.sched.staged with
  | armed epoch n entries cycle =>
    exact if_neg (show ¬cycle = number from fun due => unarmed epoch n entries (due ▸ staged))
  | closed epoch n entries =>
    have none : s.sched.adoption = false := unmarked (by rw [staged]; rfl)
    exact if_neg (by rw [show (s.withTakeUp s.sched.takeUp.begins).sched.adoption = s.sched.adoption from rfl, none]; decide)
  | empty => rfl
  | editing => rfl

end

/-! ### A cycle start -/

section
variable (number : Word) {s : State}

theorem signalCycleStart_sched : (signalCycleStart number s).sched = (scheduleCycleStart number s).sched := by
  simp [signalCycleStart]

theorem signalCycleStart_channels :
    (signalCycleStart number s).channels = (channelCycleStart (scheduleCycleStart number s)).channels := by
  simp [signalCycleStart, channelCycleStart]

theorem fixLength_cycleNumber (s : State) : (fixLength s).cycleNumber = s.cycleNumber := by
  unfold fixLength
  split
  · unfold State.cycleNumber State.current State.withCycle
    dsimp only
    split
    · cases s.cycle.now <;> rfl
    · rfl
  · rfl

theorem signalCycleStart_rx (size : s.rx.places.length = Config.placeCount) :
    (signalCycleStart number s).rx = s.rx.cycled := by
  have rx : (transmitCycleStart (channelCycleStart (fixLength (scheduleCycleStart number s)))).rx = s.rx := by simp
  exact (receiveCycleStart_spec (rx.symm ▸ size)).1.trans (congrArg ReceiveUnit.cycled rx)

/-- R23: the notices of a cycle start, in the order of the units. -/
theorem signalCycleStart_gives {first : List NoticeBody} (size : s.rx.places.length = Config.placeCount)
    (switched : Gives first s (scheduleCycleStart number s)) :
    Gives (first ++ failedAt s.tx.queue ++ roomGiven s.tx (backAt s.tx.queue) ++
      (lapsing s.rx.places).map (fun x => .messageDropped x.source x.id x.dest .timeout x.data.length)) s
      (signalCycleStart number s) := by
  let aged := channelCycleStart (fixLength (scheduleCycleStart number s))
  have tx : aged.tx = s.tx := by simp [aged]
  have rx : (transmitCycleStart aged).rx = s.rx := by simp [aged]
  have fixed : Gives first s aged := switched.quiet (by simp [aged, channelCycleStart])
    (fixLength_cycleNumber (scheduleCycleStart number s))
  have counted := transmitCycleStart_gives aged
  have dropped := (receiveCycleStart_spec (s := transmitCycleStart aged) (rx.symm ▸ size)).2
  rw [tx] at counted
  rw [rx] at dropped
  rw [List.append_assoc first]
  exact (fixed.trans counted).trans dropped

end

/-! ### The cycle that begins -/

/-- R6, R7, R28: the state in which a cycle start is signalled to the units. -/
def State.opened (s : State) (now : CycleNow) : State :=
  advanceQuiet (takeUpCycle ((s.withCycle { s.cycle with now := some now }).atInstant now.origin))

section
variable (now : CycleNow) (s : State)

theorem beginCycle_eq : beginCycle now s = sendCycleStart (signalCycleStart now.number (s.opened now)) := rfl

/-- R24, R28: the cycle unit after a cycle start. -/
theorem beginCycle_cycleUnit : (beginCycle now s).cycle = { s.cycle with
    now := some { now with length := if s.cycle.timing = .leading then (beginCycle now s).activeLength else now.length },
    conflict := if s.cycle.timing = .leading then quietAfter s.cycle.conflict else s.cycle.conflict } := by
  have kept : (beginCycle now s).cycle = { s.cycle with
      now := (beginCycle now s).cycle.now,
      conflict := if s.cycle.timing = .leading then quietAfter s.cycle.conflict else s.cycle.conflict } := by
    simp [beginCycle, signalCycleStart_cycle]
  rw [beginCycle_now] at kept
  exact kept

/-- R6, R7, R27: the trunk interface after a cycle start. -/
theorem beginCycle_interface :
    let i := s.trunk.reach now.origin
    let length := if s.cycle.timing = .leading then (beginCycle now s).activeLength else now.length
    (beginCycle now s).trunk = { i with
      window := if s.cycle.timing.following then (if i.busy then .own else .awaiting) else .settled,
      slots := [], ownSlots := [], earlyWalk := [], hearsFrom := none,
      sending := if s.cycle.timing = .leading then some
          { since := now.origin, bytes := (leadingFrame (beginCycle now s) { now with length := length }).bytes }
        else i.sending,
      txen := if s.cycle.timing = .leading then true else i.txen } := by
  intro i length
  let u := signalCycleStart now.number (s.opened now)
  have trunk : u.trunk = { i with
      window := if s.cycle.timing.following then (if i.busy then .own else .awaiting) else .settled,
      slots := [], ownSlots := [], earlyWalk := [], hearsFrom := none } := by
    simp only [u, State.opened, signalCycleStart_only, advanceQuiet_only, takeUpCycle_only]
    rfl
  have timing : u.cycle.timing = s.cycle.timing := by simp [u, State.opened]
  have frame : leadingFrame (beginCycle now s) = leadingFrame u := by
    unfold leadingFrame
    simp only [beginCycle_eq, sendCycleStart_only]
    rfl
  show (sendCycleStart u).trunk = _
  by_cases leading : s.cycle.timing = .leading
  · have begun : u.cycle.now = some { now with length := length } := by
      have same : u.cycle.now = (beginCycle now s).cycle.now := by simp only [beginCycle_eq, sendCycleStart_only]; rfl
      rw [same, beginCycle_now]
    rw [if_pos leading, if_pos leading, frame]
    unfold sendCycleStart
    rw [timing, leading, begun]
    show (beginFrame _ u).trunk = _
    unfold beginFrame
    rw [trunk, leading]
  · rw [if_neg leading, if_neg leading]
    refine Eq.trans ?_ trunk
    unfold sendCycleStart
    split
    · next leads _ => exact absurd (timing.symm.trans leads) leading
    · rfl

end

/-! ### O51 -/

section
variable (c : CycleNow) (s : State)

/-- R11: the slots that wait past the end of the cycle. -/
theorem lateSlots_eq : lateSlots s c =
    (s.sched.active.entries.filter (fun e => walks s c e && e.isCyclic &&
      s.trunk.slots.all (fun r => r.start != e.start) && s.trunk.ownSlots.all (fun o => o.start != e.start) &&
      decide (c.length < e.start + 4 + 74))).map
        (fun e => { entry := e, opened := c.origin + BitVec.ofNat 32 e.start - 4, record := none }) := by
  have awaits : mayRunLate s c = fun e => walks s c e && e.isCyclic &&
      s.trunk.slots.all (fun r => r.start != e.start) && s.trunk.ownSlots.all (fun o => o.start != e.start) &&
      decide (c.length < e.start + 4 + 74) := by
    funext e
    unfold mayRunLate sentInSlot
    rw [List.not_any_eq_all_not, List.not_any_eq_all_not]
    rfl
  unfold lateSlots
  rw [awaits]
  rfl

theorem stagedAnnouncement_eq (g : Staged) : stagedAnnouncement g = match g with
    | .armed epoch _ _ cycle => some (epoch, cycle)
    | _ => none := by
  cases g <;> rfl

/-- R23: the state that a cycle start of a synchronised node signals to the units. -/
def State.signalled (s : State) (c : CycleNow) : State := (keepLate c s).opened c.following

theorem signalled_kept : (s.signalled c).sched = s.sched ∧ (s.signalled c).channels = s.channels ∧
    (s.signalled c).tx = s.tx ∧ (s.signalled c).rx = s.rx ∧ (s.signalled c).notices = s.notices ∧
    (s.signalled c).cycle.address = s.cycle.address := by
  simp [State.signalled, State.opened]

theorem signalled_cycleNumber (now : CycleNow) (number : now.number = c.number + 1) :
    (s.signalled c).cycleNumber = ({ s with cycle := { s.cycle with now := some now } } : State).cycleNumber := by
  unfold State.signalled State.cycleNumber State.current
  simp only [State.opened, advanceQuiet_only, takeUpCycle_only]
  show Option.map _ (if s.cycle.timing.synchronised = true then some c.following else none) =
    Option.map _ (if s.cycle.timing.synchronised = true then some now else none)
  split
  · exact congrArg some number.symm
  · rfl

end

/-- Settles O51. -/
theorem cycleStartEffects : Obligations.CycleStartEffects := by
  intro c s current sound
  let v := beginCycle c.following (keepLate c s)
  let a := s.signalled c
  refine ⟨v.setAttn, exec_cycleStart current, ?_⟩
  intro number origin length begun reached failed back room lapsed dropped given found fresh changes switched
  obtain ⟨sched, channels, tx, rx, notices, address⟩ := signalled_kept c s
  have size : a.rx.places.length = Config.placeCount := rx ▸ ((ReceiveUnit.sound_iff _).1 sound).2.1
  have units : v = sendCycleStart (signalCycleStart number a) := rfl
  have synchronised := current_synchronised current
  have told {first : List NoticeBody} (switch : Gives first a (scheduleCycleStart number a)) : given first := by
    have all := (signalCycleStart_gives number size switch).after (s := begun) notices
      (signalled_cycleNumber c s _ rfl)
    rw [tx, rx] at all
    show v.setAttn.notices = _
    rw [setAttn_notices, units, (sendCycleStart_only _).2.2.2.2.2.1]
    exact all.notices
  have unitSched : v.setAttn.sched = (scheduleCycleStart number a).sched := by
    rw [setAttn_sched, units, (sendCycleStart_only _).2.1, signalCycleStart_sched]
  have unitChannels : v.setAttn.channels = (channelCycleStart (scheduleCycleStart number a)).channels := by
    rw [setAttn_channels, units, (sendCycleStart_only _).2.2.1, signalCycleStart_channels]
  have change {epoch : Half} {n : Nat} {entries : List Entry} {mode : SwitchMode}
      (makes : scheduleCycleStart number a = makeSwitch epoch n entries number mode (a.withTakeUp a.sched.takeUp.begins)) :
      switched epoch n entries mode := by
    obtain ⟨made, resolved, activated⟩ := makeSwitch_spec epoch n entries number mode (a.withTakeUp a.sched.takeUp.begins)
    rw [← makes] at made resolved activated
    refine ⟨(unitSched.trans made).trans ?_, (unitChannels.trans resolved).trans ?_, told ?_⟩
    · show a.sched.switched epoch n entries number mode = _
      rw [sched]
      rfl
    · show a.channels.map (fun o => o.map (Channel.freshIn entries a.cycle.address)) = _
      rw [channels, address]
      rfl
    · have at' := activated.after (s := a) rfl rfl
      rw [show (a.withTakeUp a.sched.takeUp.begins).cycle.address = s.cycle.address from address,
        show (a.withTakeUp a.sched.takeUp.begins).channels = s.channels from channels] at at'
      exact at'
  refine ⟨?_, ?_, ?_, ?_, ?_, ?_⟩
  · exact beginCycle_cycleUnit c.following (keepLate c s)
  · intro announced frame i
    have sent : leadingFrame v { c.following with length := length } = frame := by
      have address : v.cycle.address = s.cycle.address :=
        (congrArg CycleUnit.address (beginCycle_cycleUnit c.following (keepLate c s)) :)
      unfold leadingFrame
      rw [stagedAnnouncement_eq, address]
      rfl
    have window : (if s.cycle.timing.following then (if i.busy then Window.own else .awaiting) else .settled) =
        if s.cycle.timing = .leading then .settled else if i.busy then .own else .awaiting := by
      cases timing : s.cycle.timing <;> simp [timing, Timing.synchronised] at synchronised <;> rfl
    refine (beginCycle_interface c.following (keepLate c s)).trans ?_
    rw [← lateSlots_eq, ← window, ← sent]
    rfl
  · intro epoch n entries staged
    exact change (scheduleCycleStart_armed (sched.symm ▸ staged))
  · intro epoch n entries staged marked
    exact change (scheduleCycleStart_adopted number (sched.symm ▸ staged) (sched.symm ▸ marked))
  · intro unarmed unmarked
    have kept := scheduleCycleStart_kept (s := a) (sched.symm ▸ unarmed) (sched.symm ▸ unmarked)
    refine ⟨unitSched.trans ?_, unitChannels.trans ?_, told (Gives.silent ?_ ?_)⟩
    · rw [kept]
      show { a.sched with adoption := false, takeUp := a.sched.takeUp.begins } = _
      rw [sched]
      cases s.sched.takeUp <;> rfl
    · rw [kept]
      show a.channels.map (fun o => o.map Channel.aged) = _
      rw [channels]
      refine List.map_congr_left fun o _ => congrArg (fun f => o.map f) (funext fun k => ?_)
      unfold Channel.aged
      cases k.direction with
      | produce age => cases age <;> rfl
      | consume d => rfl
    · rw [kept]
      rfl
    · rw [kept]
      rfl
  · show v.setAttn.rx = _
    rw [setAttn_rx, units, (sendCycleStart_only _).2.2.2.2.1, signalCycleStart_rx number size, rx]
    rfl

end Sys2Proof.Machine
end

section
/-! PROOFS. R23, R26, R28, R114, R117, R133, R135: the cycle start at the end of a claim window, and the rows named after what
comes about inside a cycle start. Settles O53. -/

namespace Sys2Proof.Machine

set_option Elab.async false

/-! ### A cycle start in LEADING, beside another cycle length -/

/-- The cycle unit in another cycle. -/
def CycleUnit.inCycle (k : CycleUnit) (now : CycleNow) : CycleUnit := { k with now := some now }

section
variable {s : State}

/-- R24: a leading node fixes the length afresh, whatever it was. -/
theorem fixLength_beside (i : TrunkInterface) {now now' : CycleNow} (leading : s.cycle.timing = .leading)
    (current : s.cycle.now = some now) (number : now'.number = now.number) (origin : now'.origin = now.origin) :
    fixLength (s.beside i (s.cycle.inCycle now')) = (fixLength s).onTrunk i := by
  unfold fixLength
  refine (if_pos leading).trans (Eq.trans ?_ (congrArg (State.onTrunk i) (if_pos leading).symm))
  unfold State.withCycle State.onTrunk State.beside CycleUnit.inCycle
  dsimp only
  rw [current, Option.map_some, Option.map_some, number, origin]
  rfl

theorem signalCycleStart_beside (n : Word) (i : TrunkInterface) {now now' : CycleNow} (leading : s.cycle.timing = .leading)
    (current : s.cycle.now = some now) (number : now'.number = now.number) (origin : now'.origin = now.origin) :
    signalCycleStart n (s.beside i (s.cycle.inCycle now')) = (signalCycleStart n s).onTrunk i := by
  have cycle := (scheduleCycleStart_op n).cycle s
  have told : (s.beside i (s.cycle.inCycle now')).cycleNumber = s.cycleNumber := by
    unfold State.cycleNumber State.current State.beside CycleUnit.inCycle
    dsimp only
    rw [leading, current]
    exact congrArg some number
  have switched := (scheduleCycleStart_op n).beside i (s.cycle.inCycle now') s rfl told
  have fixed := fixLength_beside i (s := scheduleCycleStart n s) (now := now) (now' := now')
    (by rw [cycle]; exact leading) (by rw [cycle]; exact current) number origin
  unfold signalCycleStart
  rw [switched, ← cycle, fixed, channelCycleStart_op.onTrunk, transmitCycleStart_op.onTrunk, receiveCycleStart_op.onTrunk]

/-- R11: the slots that wait for a late frame are the interface's own. -/
def TrunkInterface.withLate (i : TrunkInterface) (late : List LateSlot) : TrunkInterface := { i with late := late }

theorem sendCycleStart_leading {now : CycleNow} (leading : s.cycle.timing = .leading) (current : s.cycle.now = some now) :
    sendCycleStart s = beginFrame { bytes := (leadingFrame s now).bytes, since := now.origin } s := by
  unfold sendCycleStart
  rw [leading, current]

theorem sendCycleStart_late (late : List LateSlot) {now : CycleNow} (leading : s.cycle.timing = .leading)
    (current : s.cycle.now = some now) : sendCycleStart (s.onTrunk (s.trunk.withLate late)) =
      (sendCycleStart s).onTrunk ((sendCycleStart s).trunk.withLate late) := by
  rw [sendCycleStart_leading leading current,
    sendCycleStart_leading (s := s.onTrunk (s.trunk.withLate late)) leading current]
  rfl

theorem opened_late (late : List LateSlot) {now now' : CycleNow} (k : CycleNow) (s : State) (origin : now'.origin = now.origin) :
    (s.beside (s.trunk.withLate late) (s.cycle.inCycle k)).opened now' =
      (s.opened now).beside ((s.opened now).trunk.withLate late) ((s.opened now).cycle.inCycle now') := by
  refine State.ext_units ?_ ?_ ?_ ?_ ?_ ?_ ?_ ?_ ?_ <;>
    simp only [State.opened, State.beside, advanceQuiet_only, takeUpCycle_only, origin] <;> rfl

/-- R24, R27: a cycle start in LEADING, beside another cycle length and other slots that wait. -/
theorem beginCycle_late (late : List LateSlot) {now now' : CycleNow} (k : CycleNow) (leading : s.cycle.timing = .leading)
    (number : now'.number = now.number) (origin : now'.origin = now.origin) :
    beginCycle now' (s.beside (s.trunk.withLate late) (s.cycle.inCycle k)) =
      (beginCycle now s).onTrunk ((beginCycle now s).trunk.withLate late) := by
  have signalled := signalCycleStart_beside (s := s.opened now) now.number ((s.opened now).trunk.withLate late)
    (now := now) (now' := now') (by simpa [State.opened] using leading) (by simp [State.opened]) number origin
  let u := signalCycleStart now.number (s.opened now)
  have trunk : (s.opened now).trunk = u.trunk := by simp [u]
  have timing : u.cycle.timing = .leading := by simpa [u, State.opened] using leading
  have same : (beginCycle now s).cycle.now = u.cycle.now := by simp only [beginCycle_eq, sendCycleStart_only]; rfl
  obtain ⟨running, current⟩ : ∃ c, u.cycle.now = some c := ⟨_, same.symm.trans (beginCycle_now now s)⟩
  rw [beginCycle_eq, opened_late late k s origin, number, signalled, trunk]
  exact sendCycleStart_late late timing current

end

/-! ### The rows named after a limit -/

section
variable {c : CycleNow} {s : State}

theorem cycleStart_number (current : s.current = some c) :
    (beginCycle c.following (keepLate c s)).setAttn.current.map (·.number) = some (c.number + 1) := by
  have cycle := beginCycle_cycleUnit c.following (keepLate c s)
  unfold State.current
  rw [setAttn_cycle, cycle]
  show Option.map _ (if s.cycle.timing.synchronised = true then some _ else none) = _
  rw [if_pos (current_synchronised current)]
  rfl

end

/-- R24, R27: a cycle start in LEADING begins the node's own frame. -/
theorem beginCycle_leads {now : CycleNow} {x t : State} (leading : x.cycle.timing = .leading) (begun : beginCycle now x = t) :
    t.cycle = { x.cycle with now := some { now with length := t.activeLength }, conflict := quietAfter x.cycle.conflict } ∧
    t.trunk.lineClock = now.origin ∧ t.trunk.txen = true ∧
    ∃ f : CycleStartFrame, t.trunk.sending = some { since := now.origin, bytes := f.bytes } ∧
      f.source = x.cycle.address ∧ f.number = now.number ∧ f.epoch = t.sched.active.epoch ∧ f.length = t.activeLength := by
  have cycle := beginCycle_cycleUnit now x
  have interface := beginCycle_interface now x
  dsimp only at interface
  rw [begun] at cycle interface
  simp only [if_pos leading] at cycle interface
  have address : t.cycle.address = x.cycle.address := (congrArg CycleUnit.address cycle :)
  exact ⟨cycle, congrArg TrunkInterface.lineClock interface, congrArg TrunkInterface.txen interface,
    leadingFrame t { now with length := t.activeLength }, congrArg TrunkInterface.sending interface, address, rfl, rfl, rfl⟩

theorem setAttn_activeLength (s : State) : s.setAttn.activeLength = s.activeLength := by
  unfold State.activeLength
  rw [setAttn_sched, setAttn_cycle]

theorem exec_claimWindowExpires {s : State} {r : ClaimRecord} (claiming : s.cycle.timing = .claiming)
    (record : s.cycle.claim = some r) : exec .claimWindowExpires s = .next (claimExpires r s).setAttn := by
  show execClaimWindowExpires s = _
  unfold execClaimWindowExpires
  rw [claiming, record]
  rfl

/-- A row named after what comes about inside a cycle start. -/
theorem exec_named {c : Instr} {s : State} {test : Bool} (runs : exec c s = if test then exec .cycleStart s else .next s) :
    (test = true → s.current.isSome → ∃ t, exec c s = .next t ∧ exec .cycleStart s = .next t ∧
      t.current.map (·.number) = s.current.map (fun now => now.number + 1)) ∧
    (¬test = true → exec c s = .next s) := by
  refine ⟨fun reached some => ?_, fun unreached => runs.trans (if_neg unreached)⟩
  obtain ⟨now, current⟩ := Option.isSome_iff_exists.1 some
  have start := exec_cycleStart current
  refine ⟨_, (runs.trans (if_pos reached)).trans start, start, ?_⟩
  rw [cycleStart_number current, current]
  rfl

/-- R114: the limit that the next cycle start finds reached. -/
theorem limitAhead_iff (s : State) (reason : FailReason) : limitAhead s = some reason ↔
    ∃ m r, s.tx.queue.head? = some m ∧ m.state = .inFlight r ∧ m.limitAt r = some reason := by
  unfold limitAhead
  cases s.tx.queue with
  | nil => simp
  | cons m rest =>
    dsimp only
    cases state : m.state with
    | waiting | aborting => simp [state]
    | inFlight r => simp [state, limitReached_counted]

theorem Message.limitAt_starved (m : Message) (r : InFlight) : m.limitAt r = some .starved ↔
    m.data.length < min (40 * (r.next + 1)) m.total ∧ 32 ≤ r.starve + 1 := by
  unfold Message.limitAt
  split_ifs with starved
  · exact ⟨fun _ => starved, fun _ => rfl⟩
  · exact ⟨nofun, fun h => absurd h starved⟩
  · exact ⟨nofun, fun h => absurd h starved⟩

theorem Message.limitAt_contention (m : Message) (r : InFlight) : m.limitAt r = some .contention ↔
    ¬(m.data.length < min (40 * (r.next + 1)) m.total ∧ 32 ≤ r.starve + 1) ∧ 48 ≤ r.sinceWon + 1 := by
  unfold Message.limitAt
  split_ifs with starved contention
  · exact ⟨nofun, fun h => absurd starved h.1⟩
  · exact ⟨fun _ => ⟨starved, contention⟩, fun _ => rfl⟩
  · exact ⟨nofun, fun h => absurd h.2 contention⟩

theorem quietEnds_iff (s : State) : quietEnds s = true ↔
    s.cycle.timing = .leading ∧ ∃ n, s.cycle.conflict = some n ∧ 8 ≤ n + 1 := by
  unfold quietEnds
  rw [Bool.and_eq_true, beq_iff_eq, Option.any_eq_true]
  simp only [decide_eq_true_iff]
  rfl

theorem attemptsEnd_iff (s : State) : attemptsEnd s = true ↔
    ∃ m r reason k, s.tx.queue.head? = some m ∧ m.state = .aborting r reason k ∧ 16 ≤ k + 1 := by
  unfold attemptsEnd
  cases s.tx.queue with
  | nil => simp
  | cons m rest =>
    dsimp only
    cases state : m.state with
    | waiting | inFlight => simp [state]
    | aborting r reason k => simp [state, Config.attemptLimit]

theorem timeoutAhead_iff (s : State) : timeoutAhead s = true ↔ ∃ c, some c ∈ s.rx.places ∧ 64 ≤ c.idle + 1 := by
  unfold timeoutAhead
  simp only [List.any_eq_true, Option.any_eq_true, decide_eq_true_iff]
  exact ⟨fun ⟨_, held, c, open', lapses⟩ => ⟨c, open' ▸ held, lapses⟩, fun ⟨c, held, lapses⟩ => ⟨_, held, c, rfl, lapses⟩⟩

theorem lapseAhead_iff (s : State) : lapseAhead s = true ↔ ∃ r ∈ s.rx.records, 64 ≤ r.count + 1 := by
  unfold lapseAhead
  simp only [List.any_eq_true, decide_eq_true_iff]
  rfl

/-- Settles O53. -/
theorem claimAndNamedCycleStarts : Obligations.ClaimAndNamedCycleStarts := by
  refine ⟨?_, ?_⟩
  · intro r s claiming record number leading led
    let ended : CycleNow := { number := number - 1, origin := r.opened, length := 60000 }
    let first := r.firstCycle s.activeLength
    let kept := keepLate ended led
    have current : led.current = some ended := rfl
    have counted : first.number = number := by
      show (r.lastHigher.map (· + 1)).getD 0 = number
      cases h : r.lastHigher <;> simp only [number, h] <;> rfl
    have follows : first.number = ended.following.number := counted.trans (sub_add_cancel number 1).symm
    have claimed : giveNotice (.masterLeading .claim first.number) (s.withCycle { s.cycle.leads with now := some first }) =
        kept.beside (kept.trunk.withLate s.trunk.late) (kept.cycle.inCycle first) := by
      have notices : (giveNotice (.masterLeading .claim first.number)
          (s.withCycle { s.cycle.leads with now := some first })).notices = led.notices := by
        rw [counted]
        exact giveNotice_notices_congr
          (s := { s with cycle := leading { number := number, origin := r.opened + 60000, length := 60000 } })
          (t := s.withCycle { s.cycle.leads with now := some first }) rfl (congrArg some counted) _
      rw [giveNotice_frame, notices]
      rfl
    have begun := beginCycle_late (s := kept) s.trunk.late (now := ended.following) (now' := first) first rfl follows rfl
    rw [← claimed] at begun
    obtain ⟨cycle, clock, txen, f, sending, source, sent, epoch, length⟩ :=
      beginCycle_leads (now := first) (t := claimExpires r s)
        (x := giveNotice (.masterLeading .claim first.number) (s.withCycle { s.cycle.leads with now := some first }))
        (congrArg CycleUnit.timing (giveNotice_cycle _ _)) rfl
    rw [giveNotice_cycle] at cycle source
    have late : (claimExpires r s).setAttn = (beginCycle ended.following kept).setAttn.onTrunk
        ((beginCycle ended.following kept).setAttn.trunk.withLate s.trunk.late) := by
      have same : claimExpires r s = _ := begun
      rw [same, setAttn_trunk]
      generalize beginCycle ended.following kept = v
      rfl
    refine ⟨(beginCycle ended.following kept).setAttn, (claimExpires r s).setAttn, exec_cycleStart current,
      exec_claimWindowExpires claiming record, late, ?_⟩
    rw [setAttn_trunk, setAttn_cycle, setAttn_sched, setAttn_activeLength, cycle, ← counted]
    generalize claimExpires r s = t at *
    exact ⟨rfl, clock, txen, f, sending, source, sent, epoch, length⟩
  · intro s named flying short
    have of {c : Instr} {test : Bool} {reached : Prop} (runs : exec c s = if test then exec .cycleStart s else .next s)
        (iff : test = true ↔ reached) : named c reached := by
      obtain ⟨reaches, rests⟩ := exec_named runs
      exact ⟨fun h => reaches (iff.2 h), fun h => rests (mt iff.1 h)⟩
    have limit (reason : FailReason) {test : Message → InFlight → Prop}
        (reached : ∀ m r, m.limitAt r = some reason ↔ test m r) :
        decide (limitAhead s = some reason) = true ↔ flying test := by
      rw [decide_eq_true_iff, limitAhead_iff]
      simp only [reached]
      rfl
    refine ⟨of (test := quietEnds s) rfl (quietEnds_iff s), of (test := decide (limitAhead s = some .starved)) ?_ ?_,
      of (test := decide (limitAhead s = some .contention)) ?_ ?_, of (test := attemptsEnd s) rfl (attemptsEnd_iff s),
      of (test := timeoutAhead s) rfl (timeoutAhead_iff s), of (test := lapseAhead s) rfl (lapseAhead_iff s)⟩
    · simp only [decide_eq_true_iff]
      rfl
    · exact limit .starved Message.limitAt_starved
    · simp only [decide_eq_true_iff]
      rfl
    · exact limit .contention Message.limitAt_contention

end Sys2Proof.Machine
end

section
/-! PROOFS. R7, R24, R32, R34: a missed cycle start, by each of its causes. Settles O54. -/

namespace Sys2Proof.Machine

set_option Elab.async false

/-! ### A frame that is received -/

section
variable {s : State} {stamp : Word} {bytes : List Byte}

/-- R3, R16: the node as the frame is handed: the line clock at the end of its reading, and no earlier frame left. -/
def State.hears (s : State) (read : Word) : State :=
  { s with trunk := { s.trunk.reach read with hearsFrom := none } }

theorem exec_trunkFrame (online : s.cycle.timing ≠ .offline) (begun : begunUnheard s stamp bytes = false) :
    exec (.trunkFrameReceived stamp bytes) s =
      finish (handFrame stamp (judge bytes) (s.hears (stamp + BitVec.ofNat 32 (readTime bytes)))) := by
  have hears : ¬unheard s stamp bytes = true := by
    unfold unheard
    rw [begun, Bool.or_false, beq_iff_eq]
    exact online
  exact if_neg hears

theorem synchronised_iff (s : State) : s.cycle.timing.synchronised = true ↔
    s.cycle.timing = .leading ∨ s.cycle.timing = .locked ∨ s.cycle.timing = .holdover := by
  cases s.cycle.timing <;> simp [Timing.synchronised]

theorem following_iff (s : State) : s.cycle.timing.following = true ↔
    s.cycle.timing = .locked ∨ s.cycle.timing = .holdover := by
  cases s.cycle.timing <;> simp [Timing.following]

/-- R5: a synchronised node has a position in its cycle. -/
theorem handFrame_placed {c : CycleNow} (j : Judgement) (synchronised : s.cycle.timing.synchronised = true)
    (now : s.cycle.now = some c) : handFrame stamp j s = placedFrame c stamp j s := by
  unfold handFrame
  obtain timing | timing | timing := (synchronised_iff s).1 synchronised
  all_goals
    rw [timing, now]

theorem State.openWindow_awaiting {c : CycleNow} (following : s.cycle.timing.following = true)
    (window : s.trunk.window = .awaiting) (now : s.cycle.now = some c) : s.openWindow = some c := by
  unfold State.openWindow
  rw [following, window, now]
  rfl

/-- R7: the frame of the cycle start window. -/
theorem placedFrame_window {c : CycleNow} (j : Judgement) (open' : s.openWindow.isSome = true)
    (inside : inStartWindow (offsetFrom c.origin stamp) = true) : placedFrame c stamp j s = windowFrame c stamp j s :=
  if_pos (by rw [open', inside]; rfl)

theorem offsetFrom_add_ofInt (origin : Word) {late : Int} (early : -2 ≤ late) (close : late ≤ 2) :
    offsetFrom origin (origin + BitVec.ofInt 32 late) = late := by
  unfold offsetFrom
  rw [add_sub_cancel_left]
  interval_cases late <;> rfl

end

/-! ### A missed cycle start -/

/-- R32: the node after one more missed cycle start. -/
def State.heldOver (v : State) : State :=
  { v with cycle := { v.cycle with timing := .holdover, missCount := v.cycle.missCount + 1 } }

/-- R32, R34: a missed cycle start, by the miss count and the role. -/
theorem missCycleStart_eq {c : CycleNow} {v : State} (now : v.cycle.now = some c) : missCycleStart c v =
    if v.cycle.missCount + 1 < 8 then v.heldOver
    else match v.cycle.role with
      | .member => depart .hunting [.syncLost v.cycle.lastMaster] none v.heldOver
      | .master => giveNotice (.masterLeading .takeover c.number)
        { v with cycle := { v.cycle with timing := .leading, missCount := 0, phaseError := 0,
                                         lastMaster := v.cycle.address, listenOnly := false, claim := none,
                                         run := none, conflict := none } } := by
  unfold missCycleStart
  by_cases few : v.cycle.missCount + 1 < 8
  · rw [if_pos few]
    exact if_neg (Nat.not_le.2 few)
  · rw [if_neg few]
    refine (if_pos (Nat.not_lt.1 few)).trans ?_
    unfold giveUpCycle
    show (match v.cycle.role with | .member => _ | .master => _) = _
    cases v.cycle.role with
    | member => rfl
    | master =>
      show giveNotice _ (State.withCycle _ { CycleUnit.leads _ with now := some c }) = _
      rw [← now]
      rfl

section
variable {c : CycleNow} {s : State}

/-- R7: a window without a result closes as a missed cycle start. -/
theorem closeWindow_eq (following : s.cycle.timing.following = true) (now : s.cycle.now = some c)
    (pending : s.trunk.window ≠ .settled) : closeWindow s = finish (windowAbsent c s) := by
  have window : s.pendingWindow = some c := by
    unfold State.pendingWindow
    rw [following, now, Bool.true_and]
    exact if_pos (bne_iff_ne.2 pending)
  unfold closeWindow
  rw [window]

theorem atEighth {role : Role} {absent : State} (closes : closeWindow s = .next absent) :
    (if s.cycle.role = role && eighthMiss s then closeWindow s else noEvent s) =
      .next (if 8 ≤ s.cycle.missCount + 1 ∧ s.cycle.role = role then absent else s) := by
  have reached : (decide (s.cycle.role = role) && eighthMiss s) = true ↔
      8 ≤ s.cycle.missCount + 1 ∧ s.cycle.role = role := by
    rw [Bool.and_eq_true, decide_eq_true_iff, and_comm]
    exact and_congr_left' decide_eq_true_iff
  rw [closes]
  split
  · next h => rw [if_pos (reached.1 h)]
  · next h =>
    rw [if_neg (mt reached.2 h)]
    rfl

theorem CycleStartFrame.usable_iff (f : CycleStartFrame) : f.usable = true ↔ 250 ≤ f.length ∧ f.length ≤ 25000 :=
  usableLength_iff f.length

end

/-- Settles O54. -/
theorem missedCycleStartResult : Obligations.MissedCycleStartResult := by
  intro c s following now missed
  have follows := (following_iff s).2 following
  have synchronised := (synchronised_iff s).2 (.inr following)
  have misses (x : TrunkInterface) : missCycleStart c { s with trunk := x } = missed { s with trunk := x } :=
    missCycleStart_eq now
  refine ⟨?_, ?_⟩
  · intro pending absent eighth
    have closes : closeWindow s = .next absent :=
      (closeWindow_eq follows now pending).trans (congrArg finish (misses _))
    refine ⟨closes, ?_, ?_⟩
    · exact atEighth closes
    · exact atEighth closes
  · intro stamp bytes late window early close at' begun u leaves
    have handed (j : Judgement) (judged : judge bytes = j) : exec (.trunkFrameReceived stamp bytes) s =
        finish (windowFrame c stamp j (s.hears (stamp + BitVec.ofNat 32 (readTime bytes)))) := by
      rw [exec_trunkFrame (by rcases following with h | h <;> simp [h]) begun, judged,
        handFrame_placed (s := s.hears _) j synchronised now, placedFrame_window]
      · rw [State.openWindow_awaiting (s := s.hears _) follows window now]
        rfl
      · rw [at', offsetFrom_add_ofInt c.origin early close]
        exact (inStartWindow_iff late).2 ⟨early, close⟩
    refine ⟨fun judged => ?_, fun judged => ?_, fun f judged => ?_, fun f judged => ?_, fun f judged length => ?_⟩
    · exact (handed _ judged).trans (congrArg finish (misses _))
    · exact (handed _ judged).trans (congrArg finish (misses _))
    · exact (handed _ judged).trans (congrArg finish (misses _))
    · exact (handed _ judged).trans (congrArg finish (misses _))
    · refine (handed _ judged).trans (congrArg finish (Eq.trans ?_ (misses _)))
      exact if_pos (by
        rw [Bool.not_eq_true', ← Bool.not_eq_true, f.usable_iff]
        omega)

end Sys2Proof.Machine
end

section
/-! PROOFS. R3, R5, R7 to R9, R11, R15 to R17: how a received frame is counted, and whose frame it is. Settles O56. -/

namespace Sys2Proof.Machine

set_option Elab.async false

/-! ### What a frame is handed to -/

section
variable {s : State} {stamp : Word}

theorem handFrame_placeless (j : Judgement) (placeless : s.cycle.timing = .claiming ∨ s.cycle.timing = .hunting) :
    handFrame stamp j s = placelessFrame stamp j s := by
  unfold handFrame
  obtain timing | timing := placeless <;> rw [timing]

/-- R7, R9, R11: the frame of a synchronised node is the window's, that of a late slot, or another of the cycle. -/
theorem placedFrame_cases (c : CycleNow) (j : Judgement) : placedFrame c stamp j s = windowFrame c stamp j s ∨
    (∃ l, placedFrame c stamp j s = lateFrame l stamp j s) ∨ placedFrame c stamp j s = cycleFrame c stamp j s := by
  unfold placedFrame
  split
  · exact .inl rfl
  · split
    · next l _ => exact .inr (.inl ⟨l, rfl⟩)
    · exact .inr (.inr rfl)

/-! ### The counters -/

/-- R3, R16, R17: the counters of a received frame, the line clock and the frames that are not heard. -/
def TrunkInterface.tally (i : TrunkInterface) : Nat × Nat × Nat × Word × Option Word :=
  (i.malformed, i.crcErrors, i.stray, i.lineClock, i.hearsFrom)

theorem missCycleStart_tally (c : CycleNow) (s : State) : (missCycleStart c s).trunk.tally = s.trunk.tally := by
  obtain ⟨-, same⟩ | ended := (missCycleStart_missed c s).trunk
  · rw [same]
  · rw [ended]
    rfl

theorem noteSlotFrame_tally (c : CycleNow) (s : State) : (noteSlotFrame c stamp s).trunk.tally = s.trunk.tally := by
  unfold noteSlotFrame
  split
  · split <;> rfl
  · rfl

theorem jump_tally (reason : JumpReason) (f : CycleStartFrame) (s : State) :
    (jump reason f stamp s).trunk.tally = s.trunk.tally := by
  unfold jump
  rw [(depart_only _ _ _ _).1]
  rfl

theorem yieldTo_tally (f : CycleStartFrame) (s : State) : (yieldTo f stamp s).trunk.tally = s.trunk.tally := by
  unfold yieldTo
  rw [(depart_only _ _ _ _).1]
  rfl

theorem huntFrame_tally (f : CycleStartFrame) (s : State) : (huntFrame f stamp s).trunk.tally = s.trunk.tally := by
  unfold huntFrame
  split
  · rfl
  · split
    · simp [lockOn, endWalk, TrunkInterface.endWalk, TrunkInterface.tally]
    · rfl

theorem unexpectedFrame_tally (f : CycleStartFrame) (s : State) :
    (unexpectedFrame f stamp s).trunk.tally = s.trunk.tally := by
  unfold unexpectedFrame
  split
  · rfl
  · cases s.cycle.timing with
    | offline => rfl
    | claiming =>
      dsimp only [claimFrame]
      split
      · exact yieldTo_tally f s
      · rfl
    | leading =>
      dsimp only [leadFrame]
      split
      · exact yieldTo_tally f s
      · rw [show (conflictFrame f s).trunk = s.trunk by simp]
    | hunting => exact huntFrame_tally f s
    | locked | holdover => exact jump_tally .phase f s

theorem windowGood_tally (c : CycleNow) (f : CycleStartFrame) (s : State) :
    (windowGood c f stamp s).trunk.tally = s.trunk.tally := by
  unfold windowGood
  split_ifs
  · exact missCycleStart_tally c s
  · rw [acceptFrame, (acceptFields_only f _).1]
    rfl
  · exact jump_tally .number f s

/-- R3, R17: a frame that fails a check counts once, and of the good ones only a stray does. -/
def Tallied (s t : State) : Judgement → Prop
  | .malformed => t.trunk.tally = (countMalformed s).trunk.tally
  | .crcError => t.trunk.tally = (countCrc s).trunk.tally
  | .good _ => t.trunk.tally = s.trunk.tally ∨ t.trunk.tally = (countStray s).trunk.tally

theorem Tallied.counters {t : State} {j : Judgement} (h : Tallied s t j) :
    t.trunk.lineClock = s.trunk.lineClock ∧ t.trunk.hearsFrom = s.trunk.hearsFrom ∧
    (j = .malformed → t.trunk.malformed = bump s.trunk.malformed ∧ t.trunk.crcErrors = s.trunk.crcErrors ∧
      t.trunk.stray = s.trunk.stray) ∧
    (j = .crcError → t.trunk.crcErrors = bump s.trunk.crcErrors ∧ t.trunk.malformed = s.trunk.malformed ∧
      t.trunk.stray = s.trunk.stray) ∧
    ∀ f, j = .good f → t.trunk.malformed = s.trunk.malformed ∧ t.trunk.crcErrors = s.trunk.crcErrors ∧
      (t.trunk.stray = s.trunk.stray ∨ t.trunk.stray = bump s.trunk.stray) := by
  cases j with
  | malformed =>
    simp only [Tallied, TrunkInterface.tally, countMalformed, Prod.mk.injEq] at h
    obtain ⟨bad, torn, out, clock, hears⟩ := h
    exact ⟨clock, hears, fun _ => ⟨bad, torn, out⟩, nofun, nofun⟩
  | crcError =>
    simp only [Tallied, TrunkInterface.tally, countCrc, Prod.mk.injEq] at h
    obtain ⟨bad, torn, out, clock, hears⟩ := h
    exact ⟨clock, hears, nofun, fun _ => ⟨torn, bad, out⟩, nofun⟩
  | good g =>
    simp only [Tallied, TrunkInterface.tally, countStray, Prod.mk.injEq] at h
    obtain ⟨bad, torn, out, clock, hears⟩ | ⟨bad, torn, out, clock, hears⟩ := h
    · exact ⟨clock, hears, nofun, nofun, fun _ _ => ⟨bad, torn, .inl out⟩⟩
    · exact ⟨clock, hears, nofun, nofun, fun _ _ => ⟨bad, torn, .inr out⟩⟩

theorem placelessFrame_tallied (j : Judgement) (s : State) : Tallied s (placelessFrame stamp j s) j := by
  match j with
  | .malformed | .crcError => exact rfl
  | .good (.cycleStart f) => exact .inl (unexpectedFrame_tally f s)
  | .good (.cyclic f) | .good (.segment f) => exact .inl rfl

theorem windowFrame_tallied (c : CycleNow) (j : Judgement) (s : State) : Tallied s (windowFrame c stamp j s) j := by
  match j with
  | .malformed | .crcError => exact missCycleStart_tally c _
  | .good (.cycleStart f) => exact .inl (windowGood_tally c f _)
  | .good (.cyclic f) | .good (.segment f) => exact .inr (missCycleStart_tally c _)

theorem lateFrame_tallied (l : LateSlot) (j : Judgement) (s : State) : Tallied s (lateFrame l stamp j s) j := by
  match j with
  | .malformed | .crcError => exact rfl
  | .good (.cycleStart f) => exact .inl (unexpectedFrame_tally f _)
  | .good (.cyclic f) => exact .inl rfl
  | .good (.segment f) => exact .inr rfl

theorem cycleFrame_tallied (c : CycleNow) (j : Judgement) (s : State) : Tallied s (cycleFrame c stamp j s) j := by
  match j with
  | .malformed | .crcError => exact noteSlotFrame_tally c _
  | .good (.cycleStart f) => exact .inl ((unexpectedFrame_tally f _).trans (noteSlotFrame_tally c s))
  | .good (.cyclic f) =>
    show Tallied s (cyclicFrameAt c stamp f s) (.good (.cyclic f))
    unfold cyclicFrameAt
    split
    · exact .inr rfl
    · split
      · exact .inr rfl
      · split
        · exact .inl rfl
        · exact .inr rfl
  | .good (.segment f) =>
    show Tallied s (segmentFrameAt c stamp f s) (.good (.segment f))
    unfold segmentFrameAt
    split
    · exact .inr rfl
    · split
      · exact .inr rfl
      · split
        · exact .inr rfl
        · exact .inl (by rw [(receiveSegment_only _ _ _).1]; rfl)

theorem handFrame_tallied (j : Judgement) (online : s.cycle.timing ≠ .offline)
    (placed : s.cycle.timing.synchronised = true → s.cycle.now.isSome) : Tallied s (handFrame stamp j s) j := by
  by_cases synchronised : s.cycle.timing.synchronised = true
  · obtain ⟨c, now⟩ := Option.isSome_iff_exists.1 (placed synchronised)
    rw [handFrame_placed j synchronised now]
    obtain window | ⟨l, late⟩ | cycle := placedFrame_cases c j
    · exact window ▸ windowFrame_tallied c j s
    · exact late ▸ lateFrame_tallied l j s
    · exact cycle ▸ cycleFrame_tallied c j s
  · have placeless : s.cycle.timing = .claiming ∨ s.cycle.timing = .hunting := by
      cases timing : s.cycle.timing <;> simp [timing, Timing.synchronised] at online synchronised ⊢
    rw [handFrame_placeless j placeless]
    exact placelessFrame_tallied j s

end

/-! ### The slot a frame falls in -/

theorem find?_of_apart {α : Type} {p : α → Bool} {l : List α} (apart : l.Pairwise (fun a b => ¬(p a = true ∧ p b = true)))
    {e : α} (listed : e ∈ l) (holds : p e = true) : l.find? p = some e := by
  induction l with
  | nil => cases listed
  | cons x rest ih =>
    obtain ⟨first, apart⟩ := List.pairwise_cons.1 apart
    rcases List.mem_cons.1 listed with rfl | listed
    · exact List.find?_cons_of_pos holds
    · rw [List.find?_cons_of_neg fun h => first e listed ⟨h, holds⟩]
      exact ih apart listed

theorem Entry.windowHolds_iff (e : Entry) (pos : Int) :
    e.windowHolds pos = true ↔ (e.start : Int) - 4 ≤ pos ∧ pos ≤ (e.start : Int) + 4 := by
  unfold Entry.windowHolds
  rw [Bool.and_eq_true, decide_eq_true_iff, decide_eq_true_iff]

/-- R42, R48: an entry is longer than a slot window. -/
theorem Entry.finish_beyond {e : Entry} (ranged : e.ranged) : e.start + 9 ≤ e.finish := by
  unfold Entry.ranged at ranged
  unfold Entry.finish Entry.slotLength
  cases slot : e.slot with
  | cyclic n owner label payload =>
    rw [slot] at ranged
    obtain ⟨-, -, -, some, -, long⟩ := ranged
    dsimp only
    omega
  | openSlot floor => exact Nat.add_le_add_left (show 9 ≤ Config.openLength by decide) e.start

theorem ActiveBank.sound.windowsApart {b : ActiveBank} (h : b.sound) (pos : Int) :
    b.entries.Pairwise (fun e f => ¬(e.windowHolds pos = true ∧ f.windowHolds pos = true)) := by
  unfold ActiveBank.sound at h
  cases length : b.cycleLength with
  | none =>
    rw [length] at h
    rw [h.2]
    exact List.Pairwise.nil
  | some n =>
    rw [length] at h
    obtain ⟨-, -, ⟨-, -, each⟩, closed, -⟩ := h
    refine closed.imp_of_mem fun {e f} he _ follows held => ?_
    have beyond := Entry.finish_beyond (each e he).1
    rw [Entry.windowHolds_iff, Entry.windowHolds_iff] at held
    omega

section
variable {s : State} {c : CycleNow} {pos : Int}

theorem entryAt_eq {e : Entry} (sound : s.sched.active.sound) (listed : e ∈ s.sched.active.entries)
    (walked : walks s c e = true) (window : e.windowHolds pos = true) : entryAt s c pos = some e :=
  find?_of_apart ((sound.windowsApart pos).imp fun apart held =>
    apart ⟨(Bool.and_eq_true_iff.1 held.1).1, (Bool.and_eq_true_iff.1 held.2).1⟩) listed
    (Bool.and_eq_true_iff.2 ⟨window, walked⟩)

theorem entryAt_none (outside : ∀ e ∈ s.sched.active.entries, walks s c e = true → e.windowHolds pos = false) :
    entryAt s c pos = none := by
  refine List.find?_eq_none.2 fun e he held => ?_
  obtain ⟨window, walked⟩ := Bool.and_eq_true_iff.1 held
  rw [outside e he walked] at window
  cases window

theorem LateSlot.awaits_iff (l : LateSlot) (stamp : Word) :
    l.awaits stamp = true ↔ l.record = none ∧ (stamp - l.opened).toNat ≤ 8 := by
  unfold LateSlot.awaits
  rw [Bool.and_eq_true, decide_eq_true_iff, Option.isNone_iff_eq_none]

theorem lateSlotOf_first {stamp : Word} {before after : List LateSlot} {l : LateSlot}
    (late : s.trunk.late = before ++ l :: after) (awaits : l.awaits stamp = true)
    (first : ∀ x ∈ before, ¬x.awaits stamp = true) : lateSlotOf s stamp = some l := by
  unfold lateSlotOf
  rw [late, List.find?_append, List.find?_eq_none.2 first, List.find?_cons_of_pos (p := fun l => LateSlot.awaits l stamp) awaits]
  rfl

/-- R7: the frame is not that of the cycle start window. -/
theorem placedFrame_other {stamp : Word} (j : Judgement)
    (other : s.openWindow = none ∨ inStartWindow (offsetFrom c.origin stamp) = false) :
    placedFrame c stamp j s = match lateSlotOf s stamp with
      | some l => lateFrame l stamp j s
      | none => cycleFrame c stamp j s := by
  refine if_neg ?_
  obtain shut | outside := other
  · rw [shut]
    exact Bool.false_ne_true
  · rw [outside, Bool.and_false]
    exact Bool.false_ne_true

theorem State.openWindow_none (shut : s.cycle.timing = .leading ∨ s.trunk.window ≠ .awaiting) : s.openWindow = none := by
  refine if_neg fun open' => ?_
  simp only [Bool.and_eq_true, decide_eq_true_iff] at open'
  obtain timing | window := shut
  · rw [timing] at open'
    cases open'.1
  · exact window open'.2

end

section
variable {s : State} {c : CycleNow} {stamp : Word}

theorem unheard_offline (offline : s.cycle.timing = .offline) (bytes : List Byte) :
    exec (.trunkFrameReceived stamp bytes) s = .next s :=
  if_pos (by rw [unheard, offline]; rfl)

theorem unheard_begun {bytes : List Byte} {online : Word} (hears : s.trunk.hearsFrom = some online)
    (before : 0 < (online - stamp).toNat) (still : (online - stamp).toNat ≤ bytes.length) :
    exec (.trunkFrameReceived stamp bytes) s = .next s :=
  if_pos (by
    rw [unheard, begunUnheard, hears]
    show (_ || (decide _ && decide _)) = true
    rw [decide_eq_true before, decide_eq_true still, Bool.and_self, Bool.or_true])

theorem unexpectedFrame_unusable {f : CycleStartFrame} (unusable : f.length < 250 ∨ 25000 < f.length) (v : State) :
    unexpectedFrame f stamp v = v :=
  if_pos (by
    rw [Bool.not_eq_true', ← Bool.not_eq_true, f.usable_iff]
    omega)

theorem unexpectedFrame_usable {f : CycleStartFrame} (low : 250 ≤ f.length) (high : f.length ≤ 25000) (v : State) :
    unexpectedFrame f stamp v = match v.cycle.timing with
      | .offline => v
      | .claiming => claimFrame f stamp v
      | .leading => leadFrame f stamp v
      | .hunting => huntFrame f stamp v
      | .locked | .holdover => jump .phase f stamp v :=
  if_neg (by
    rw [Bool.not_eq_true', ← Bool.not_eq_true, not_not, f.usable_iff]
    exact ⟨low, high⟩)

/-- R28: a conflicting frame leaves the interface as it was. -/
theorem unexpectedFrame_conflict {f : CycleStartFrame} (low : 250 ≤ f.length) (high : f.length ≤ 25000) {v : State}
    (leading : v.cycle.timing = .leading) (higher : v.cycle.address ≤ f.source) :
    unexpectedFrame f stamp v = conflictFrame f v := by
  rw [unexpectedFrame_usable low high, leading]
  exact if_neg (BitVec.not_lt.2 higher)

end

section
variable {c : CycleNow} {stamp : Word} {v : State}

/-- R9: no slot takes the frame: it falls in no window, or its slot has had its frame. -/
def NoSlot (v : State) (c : CycleNow) (stamp : Word) : Prop :=
  ∀ e, entryAt v c (offsetFrom c.origin stamp) = some e → slotTaken v e.start stamp = true

section
variable (none : NoSlot v c stamp)
include none

theorem noteSlotFrame_noSlot : noteSlotFrame c stamp v = v := by
  unfold noteSlotFrame
  split
  · next e entry => exact if_pos (none e entry)
  · rfl

theorem cyclicFrameAt_noSlot (f : CyclicFrame) : cyclicFrameAt c stamp f v = countStray v := by
  unfold cyclicFrameAt
  split
  · rfl
  · next e entry => exact if_pos (none e entry)

theorem segmentFrameAt_noSlot (f : SegmentFrame) : segmentFrameAt c stamp f v = countStray v := by
  unfold segmentFrameAt
  split
  · rfl
  · next e entry => exact if_pos (none e entry)

end

section
variable {e : Entry} (entry : entryAt v c (offsetFrom c.origin stamp) = some e) (first : slotTaken v e.start stamp = false)
include entry first

theorem noteSlotFrame_first : noteSlotFrame c stamp v = takeSlot e.start none v := by
  unfold noteSlotFrame
  rw [entry]
  exact if_neg (Bool.eq_false_iff.1 first)

theorem cyclicFrameAt_first (f : CyclicFrame) : cyclicFrameAt c stamp f v =
    if e.isCyclic then takeSlot e.start (some f) v else countStray (takeSlot e.start none v) := by
  unfold cyclicFrameAt Entry.isCyclic
  rw [entry]
  refine (if_neg (Bool.eq_false_iff.1 first)).trans ?_
  cases e.slot <;> rfl

theorem segmentFrameAt_first (f : SegmentFrame) : segmentFrameAt c stamp f v =
    if e.isCyclic then countStray (takeSlot e.start none v)
    else receiveSegment c.number f (takeSlot e.start none v) := by
  unfold segmentFrameAt Entry.isCyclic
  rw [entry]
  refine (if_neg (Bool.eq_false_iff.1 first)).trans ?_
  cases e.slot <;> rfl

end

end

/-- Settles O56. -/
theorem receivedFramesCounted : Obligations.ReceivedFramesCounted := by
  intro stamp bytes s placed received isGood read u stray malformed crcError leaves
  refine ⟨fun offline => unheard_offline offline bytes, fun online hears before still => unheard_begun hears before still,
    fun online begun => ?_⟩
  have run : received = finish (handFrame stamp (judge bytes) u) := exec_trunkFrame online begun
  have leavesAs (v : State) (cycle : v.cycle = s.cycle) (bad : handFrame stamp .malformed u = malformed v)
      (torn : handFrame stamp .crcError u = crcError v)
      (start : ∀ f, handFrame stamp (.good (.cycleStart f)) u = unexpectedFrame f stamp v) : leaves v := by
    refine ⟨fun judged => ?_, fun judged => ?_, fun f judged => ⟨fun unusable => ?_, fun low high leading higher => ?_⟩⟩
    · rw [run, judged, bad]
      rfl
    · rw [run, judged, torn]
      rfl
    · rw [run, judged, start, unexpectedFrame_unusable unusable]
      rfl
    · rw [run, judged, start, unexpectedFrame_conflict low high (by rw [cycle]; exact leading) (by rw [cycle]; exact higher)]
      exact ⟨_, rfl, by simp⟩
  refine ⟨?_, fun placeless => ?_, ?_⟩
  · refine ⟨_, run, ?_⟩
    rw [setAttn_trunk]
    exact (handFrame_tallied (stamp := stamp) (s := u) (judge bytes) online placed).counters
  · have hands (j : Judgement) : handFrame stamp j u = placelessFrame stamp j u := handFrame_placeless j placeless
    refine ⟨leavesAs u rfl (hands _) (hands _) fun f => hands _, ?_⟩
    rintro (⟨f, judged⟩ | ⟨f, judged⟩) <;>
    · rw [run, judged, hands]
      rfl
  intro c current sound pos other
  have synchronised := current_synchronised current
  have now : s.cycle.now = some c := by
    rw [State.current, if_pos synchronised] at current
    exact current
  have hands (j : Judgement) : handFrame stamp j u = match lateSlotOf u stamp with
      | some l => lateFrame l stamp j u
      | none => cycleFrame c stamp j u := by
    refine (handFrame_placed (s := u) j synchronised now).trans (placedFrame_other j ?_)
    rw [← or_assoc] at other
    refine other.imp (State.openWindow_none (s := u)) fun outside => ?_
    rw [← Bool.not_eq_true, inStartWindow_iff]
    show ¬(-2 ≤ pos ∧ pos ≤ 2)
    omega
  refine ⟨?_, ?_⟩
  · intro before l after late open' near first record has
    have found : lateSlotOf u stamp = some l := lateSlotOf_first (s := u) late ((l.awaits_iff stamp).2 ⟨open', near⟩)
      fun x hx awaits =>
        let ⟨waiting, close⟩ := (x.awaits_iff stamp).1 awaits
        absurd close (Nat.not_le.2 (first x hx waiting))
    simp only [found] at hands
    refine ⟨leavesAs (has none) rfl (hands _) (hands _) fun f => hands _, fun f judged => ?_, fun f judged => ?_⟩
    · rw [run, judged, hands]
      rfl
    · rw [run, judged, hands]
      rfl
  · intro timely
    have none : lateSlotOf u stamp = none := List.find?_eq_none.2 fun l hl awaits =>
      let ⟨waiting, close⟩ := (l.awaits_iff stamp).1 awaits
      absurd close (Nat.not_le.2 (timely l hl waiting))
    simp only [none] at hands
    have passed (free : NoSlot u c stamp) : leaves u ∧ (isGood → received = .next (stray u).setAttn) := by
      refine ⟨leavesAs u rfl ?_ ?_ fun f => ?_, ?_⟩
      · exact (hands _).trans (noteSlotFrame_noSlot (v := countMalformed u) free)
      · exact (hands _).trans (noteSlotFrame_noSlot (v := countCrc u) free)
      · exact (hands _).trans (congrArg (unexpectedFrame f stamp) (noteSlotFrame_noSlot free))
      · rintro (⟨f, judged⟩ | ⟨f, judged⟩)
        · rw [run, judged, hands]
          exact congrArg finish (cyclicFrameAt_noSlot free f)
        · rw [run, judged, hands]
          exact congrArg finish (segmentFrameAt_noSlot free f)
    refine ⟨fun outside => passed ?_, ?_⟩
    · have free : entryAt u c (offsetFrom c.origin stamp) = .none := entryAt_none fun e he walked => by
        rw [← Bool.not_eq_true, Entry.windowHolds_iff]
        show ¬((e.start : Int) - 4 ≤ pos ∧ pos ≤ (e.start : Int) + 4)
        have := outside e he walked
        omega
      intro e entry
      rw [free] at entry
      cases entry
    · intro e listed walked opens closes taken has
      have entry : entryAt u c (offsetFrom c.origin stamp) = some e :=
        entryAt_eq (s := u) sound listed walked ((e.windowHolds_iff _).2 ⟨opens, closes⟩)
      have taken_iff : slotTaken u e.start stamp = true ↔ taken := slotTaken_iff u e.start stamp
      refine ⟨fun had => passed fun e' entry' => ?_, fun first => ?_⟩
      · rw [entry] at entry'
        cases entry'
        exact taken_iff.2 had
      · have first : slotTaken u e.start stamp = false := Bool.eq_false_iff.2 (mt taken_iff.1 first)
        refine ⟨leavesAs (has .none) rfl ?_ ?_ fun f => ?_, fun f judged => ?_, fun f judged => ?_⟩
        · exact (hands _).trans (noteSlotFrame_first (v := countMalformed u) entry first)
        · exact (hands _).trans (noteSlotFrame_first (v := countCrc u) entry first)
        · exact (hands _).trans (congrArg (unexpectedFrame f stamp) (noteSlotFrame_first entry first))
        · rw [run, judged, hands]
          exact congrArg finish (cyclicFrameAt_first entry first f)
        · rw [run, judged, hands]
          exact congrArg finish (segmentFrameAt_first entry first f)

end Sys2Proof.Machine
end

section
/-! PROOFS. R8, R25, R28 to R31, R33, R35, R66 to R71, R74, R75: a usable cycle start frame in each timing state, and what the
schedule unit makes of an accepted one. Settles O55. -/

namespace Sys2Proof.Machine

set_option Elab.async false

/-! ### The schedule unit at an accepted frame -/

section
variable (f : CycleStartFrame)

/-- R70: the announcement as the unready record holds it. -/
def CycleStartFrame.pair : Option EpochCycle := some { epoch := f.announcedEpoch, cycle := f.activation }

/-- R66 to R71: the schedule unit after the announcement of an accepted frame. -/
def ScheduleUnit.informed (x : ScheduleUnit) : ScheduleUnit :=
  match f.validAnnouncement, x.staged with
  | true, .closed own n entries =>
    if own = f.announcedEpoch then
      { x with staged := .armed own n entries f.activation, unready := none, adoption := false }
    else { x with unready := f.pair }
  | true, .armed own n entries _ =>
    if own = f.announcedEpoch then { x with staged := .armed own n entries f.activation }
    else { x with staged := .closed own n entries, unready := f.pair }
  | true, .empty | true, .editing _ _ => { x with unready := f.pair }
  | false, .armed own n entries _ => { x with staged := .closed own n entries, unready := none }
  | false, .empty | false, .editing _ _ | false, .closed _ _ _ => { x with unready := none }

/-- R74: the mark for late adoption. -/
def ScheduleUnit.marked (y : ScheduleUnit) : ScheduleUnit :=
  match y.staged with
  | .closed own n _ =>
    { y with adoption := y.adoption || (own == f.epoch && n == f.length && y.active.epoch != f.epoch) }
  | .empty | .editing _ _ | .armed _ _ _ _ => y

/-- R66 to R71: the notices of an announcement. -/
def ScheduleUnit.announces (x : ScheduleUnit) : List NoticeBody :=
  match f.validAnnouncement, x.staged with
  | true, .closed own _ _ =>
    if own = f.announcedEpoch then [.activationArmed own f.activation .announcement]
    else if x.unready = f.pair then []
    else [.activationUnready f.announcedEpoch f.activation .closed (some own) false]
  | true, .armed own _ _ cycle =>
    if own ≠ f.announcedEpoch then [.activationUnready f.announcedEpoch f.activation .closed (some own) true]
    else if cycle = f.activation then [] else [.activationArmed own f.activation .rearm]
  | true, .empty | true, .editing _ _ =>
    if x.unready = f.pair then [] else [.activationUnready f.announcedEpoch f.activation x.staged.state none false]
  | false, .armed own _ _ cycle => [.activationWithdrawn own cycle .notAnnounced]
  | false, .empty | false, .editing _ _ | false, .closed _ _ _ => []

theorem unreadyOnce_spec (stagedEpoch : Option Half) (s : State) :
    (unreadyOnce f.announcedEpoch f.activation stagedEpoch s).sched = { s.sched with unready := f.pair } ∧
    Gives (if s.sched.unready = f.pair then [] else
      [.activationUnready f.announcedEpoch f.activation s.sched.staged.state stagedEpoch false]) s
      (unreadyOnce f.announcedEpoch f.activation stagedEpoch s) := by
  unfold unreadyOnce
  by_cases known : s.sched.unready = f.pair
  · rw [if_pos known, if_pos (show s.sched.unready = some _ from known)]
    exact ⟨by rw [← known], Gives.silent rfl rfl⟩
  · rw [if_neg known, if_neg (show ¬s.sched.unready = some _ from known)]
    exact ⟨giveNotice_sched _ _, (Gives.one _ _).after rfl rfl⟩

/-- A notice that is given as the schedule unit changes. -/
theorem giveNotice_withSched (b : NoticeBody) (s : State) (x : ScheduleUnit) :
    (giveNotice b { s with sched := x }).sched = x ∧ Gives [b] s (giveNotice b { s with sched := x }) :=
  ⟨giveNotice_sched _ _, (Gives.one _ _).after rfl rfl⟩

/-- R67 to R70: a valid announcement. -/
theorem announced_spec (s : State) (valid : f.validAnnouncement = true) :
    (announced f.announcedEpoch f.activation s).sched = s.sched.informed f ∧
    Gives (s.sched.announces f) s (announced f.announcedEpoch f.activation s) := by
  unfold announced ScheduleUnit.informed ScheduleUnit.announces
  rw [valid]
  cases staged : s.sched.staged with
  | closed own n entries =>
    by_cases same : own = f.announcedEpoch
    · simp only [if_pos same]
      exact giveNotice_withSched _ _ _
    · simp only [if_neg same]
      obtain ⟨noted, told⟩ := unreadyOnce_spec f (some own) s
      exact ⟨noted.trans (by rw [← staged]), by rwa [staged] at told⟩
  | armed own n entries cycle =>
    by_cases same : own = f.announcedEpoch
    · simp only [if_pos same, if_neg (not_not.2 same)]
      by_cases again : cycle = f.activation
      · simp only [if_pos again]
        exact ⟨by rw [← again, ← staged], Gives.silent rfl rfl⟩
      · simp only [if_neg again]
        exact giveNotice_withSched _ _ _
    · simp only [if_neg same, if_pos (show own ≠ f.announcedEpoch from same)]
      exact giveNotice_withSched _ _ _
  | empty | editing _ _ =>
    dsimp only
    obtain ⟨noted, told⟩ := unreadyOnce_spec f none s
    exact ⟨noted.trans (by rw [← staged]), by rwa [staged] at told⟩

/-- R71: an accepted frame without a valid announcement. -/
theorem notAnnounced_spec (s : State) (invalid : f.validAnnouncement = false) :
    (notAnnounced s).sched = s.sched.informed f ∧ Gives (s.sched.announces f) s (notAnnounced s) := by
  unfold notAnnounced ScheduleUnit.informed ScheduleUnit.announces
  rw [invalid]
  cases staged : s.sched.staged with
  | armed own n entries cycle => exact ⟨giveNotice_sched _ _, (Gives.one _ _).after rfl rfl⟩
  | empty | editing _ _ | closed _ _ _ =>
    dsimp only [clearUnready]
    exact ⟨by rw [← staged], Gives.silent rfl rfl⟩

theorem evaluateAnnouncement_spec (s : State) :
    (evaluateAnnouncement f s).sched = s.sched.informed f ∧ Gives (s.sched.announces f) s (evaluateAnnouncement f s) := by
  unfold evaluateAnnouncement
  split
  · next valid => exact announced_spec f s valid
  · next invalid => exact notAnnounced_spec f s (Bool.not_eq_true _ ▸ invalid)

theorem markAdoption_eq (s : State) : markAdoption f s =
    { s with sched := { s.sched with adoption := s.sched.adoption || adoptionTest s f } } := by
  unfold markAdoption
  cases adoptionTest s f with
  | true => rw [Bool.or_true]; rfl
  | false => rw [Bool.or_false]; rfl

theorem markAdoption_sched (s : State) : (markAdoption f s).sched = s.sched.marked f := by
  rw [markAdoption_eq]
  unfold adoptionTest ScheduleUnit.marked
  generalize s.sched = x
  obtain ⟨active, staged, unready, mark, last, takeUp⟩ := x
  cases staged with
  | closed own n entries => rfl
  | empty | editing _ _ | armed _ _ _ _ => exact congrArg (ScheduleUnit.mk active _ unready · last takeUp) (Bool.or_false mark)

/-- R66 to R71, R74: the schedule unit after an accepted frame. -/
def ScheduleUnit.heeds (x : ScheduleUnit) : ScheduleUnit := (x.informed f).marked f

theorem scheduleAccepts_spec (s : State) :
    (scheduleAccepts f s).sched = s.sched.heeds f ∧ Gives (s.sched.announces f) s (scheduleAccepts f s) := by
  obtain ⟨informed, told⟩ := evaluateAnnouncement_spec f s
  refine ⟨(markAdoption_sched f _).trans (congrArg (ScheduleUnit.marked f) informed), ?_⟩
  unfold scheduleAccepts
  rw [markAdoption_eq]
  exact told.quiet rfl rfl

/-! ### Listen-only at an accepted frame -/

theorem TakeUp.matched_of_ne_done {t : TakeUp} (undone : t ≠ .done) : t.matched = .awaitsCycle := by
  cases t with
  | done => exact absurd rfl undone
  | awaitsMatch | awaitsCycle => rfl

/-- R35: the frame's epoch or length is not that of the ACTIVE bank. -/
def differs (t : State) : Bool := f.epoch != t.sched.active.epoch || f.length != t.activeLength

/-- R35: the notice of the comparison, by whether the node was listen-only. -/
def listens (was : Bool) (t : State) : List NoticeBody :=
  if differs f t then if was then [] else [.scheduleMismatch f.epoch f.length t.sched.active.epoch t.activeLength]
  else if was then [.scheduleMatch f.epoch] else []

/-- R75: a node that leaves listen-only takes up sending with the cycle that follows. -/
def ScheduleUnit.resumes (was : Bool) (t : State) (x : ScheduleUnit) : ScheduleUnit :=
  if was = true ∧ differs f t = false ∧ x.takeUp ≠ .done then { x with takeUp := .awaitsCycle } else x

theorem not_scheduleMatches (s : State) : (!scheduleMatches f s) = differs f s := by
  unfold scheduleMatches differs
  rw [Bool.not_and]
  rfl

theorem evaluateListenOnly_spec (s : State) :
    (evaluateListenOnly f s).sched = s.sched.resumes f s.cycle.listenOnly s ∧
    Gives (listens f s.cycle.listenOnly s) s (evaluateListenOnly f s) := by
  unfold evaluateListenOnly ScheduleUnit.resumes listens
  rw [← not_scheduleMatches]
  cases scheduleMatches f s with
  | true =>
    cases s.cycle.listenOnly with
    | true =>
      refine ⟨(giveNotice_sched _ _).trans ?_, (Gives.one _ _).after rfl rfl⟩
      show { s.sched with takeUp := s.sched.takeUp.matched } =
        if true = true ∧ false = false ∧ s.sched.takeUp ≠ .done then _ else _
      by_cases done : s.sched.takeUp = .done
      · have same : s.sched.takeUp.matched = s.sched.takeUp := by rw [done]; rfl
        rw [if_neg (fun h => h.2.2 done), same]
      · rw [if_pos ⟨rfl, rfl, done⟩, TakeUp.matched_of_ne_done done]
    | false => exact ⟨rfl, Gives.silent rfl rfl⟩
  | false =>
    cases s.cycle.listenOnly with
    | true => exact ⟨rfl, Gives.silent rfl rfl⟩
    | false => exact ⟨giveNotice_sched _ _, (Gives.one _ _).after rfl rfl⟩

/-! ### An accepted frame -/

theorem ScheduleUnit.informed_takeUp (x : ScheduleUnit) (t : TakeUp) :
    ({ x with takeUp := t } : ScheduleUnit).informed f = { x.informed f with takeUp := t } := by
  obtain ⟨active, staged, unready, mark, last, takeUp⟩ := x
  unfold ScheduleUnit.informed
  cases f.validAnnouncement with
  | true =>
    cases staged with
    | closed own n entries =>
      dsimp only
      split <;> rfl
    | armed own n entries cycle =>
      dsimp only
      split <;> rfl
    | empty | editing _ _ => rfl
  | false => cases staged <;> rfl

theorem ScheduleUnit.heeds_takeUp (x : ScheduleUnit) (t : TakeUp) :
    ({ x with takeUp := t } : ScheduleUnit).heeds f = { x.heeds f with takeUp := t } := by
  unfold ScheduleUnit.heeds
  rw [x.informed_takeUp]
  generalize x.informed f = y
  obtain ⟨active, staged, unready, mark, last, takeUp⟩ := y
  cases staged <;> rfl

theorem ScheduleUnit.heeds_kept (x : ScheduleUnit) : (x.heeds f).takeUp = x.takeUp := by
  have same := x.heeds_takeUp f x.takeUp
  exact (congrArg ScheduleUnit.takeUp same :)

theorem ScheduleUnit.heeds_resumes (was : Bool) (t : State) (x : ScheduleUnit) :
    (x.resumes f was t).heeds f = (x.heeds f).resumes f was t ∧ (x.resumes f was t).announces f = x.announces f := by
  unfold ScheduleUnit.resumes
  rw [x.heeds_kept]
  split
  · exact ⟨x.heeds_takeUp f _, rfl⟩
  · exact ⟨rfl, rfl⟩

theorem acceptFields_spec (s : State) :
    (acceptFields f s).sched = (s.sched.heeds f).resumes f s.cycle.listenOnly s ∧
    Gives (listens f s.cycle.listenOnly s ++ s.sched.announces f) s (acceptFields f s) := by
  obtain ⟨resumed, told⟩ := evaluateListenOnly_spec f s
  obtain ⟨heeded, announced⟩ := scheduleAccepts_spec f (evaluateListenOnly f s)
  obtain ⟨same, announces⟩ := s.sched.heeds_resumes f s.cycle.listenOnly s
  rw [resumed] at heeded announced
  rw [announces] at announced
  exact ⟨heeded.trans same, told.trans announced⟩

/-- R31, R35, R66 to R75: an accepted frame, stated of the state that it leaves. -/
theorem acceptFields_accepted {s t : State} (accepted : (acceptFields f s).setAttn = t) :
    t = { s with
      cycle := { s.cycle with listenOnly := differs f t },
      sched := (s.sched.heeds f).resumes f s.cycle.listenOnly t,
      notices := (giveNotices (listens f s.cycle.listenOnly t ++ s.sched.announces f) s).notices,
      link := { s.link with attn := t.link.attn } } := by
  obtain ⟨trunk, active, -, channels, tx, rx, link, pending, cycle, -⟩ := acceptFields_only f s
  obtain ⟨sched, told⟩ := acceptFields_spec f s
  have length : (acceptFields f s).setAttn.activeLength = s.activeLength := by
    rw [setAttn_activeLength]
    unfold State.activeLength
    rw [active, cycle]
  have differ : differs f (acceptFields f s).setAttn = differs f s := by
    unfold differs
    rw [length, setAttn_sched, active]
  have listen : listens f s.cycle.listenOnly (acceptFields f s).setAttn = listens f s.cycle.listenOnly s := by
    unfold listens
    rw [differ, length, setAttn_sched, active]
  have resume (x : ScheduleUnit) : x.resumes f s.cycle.listenOnly (acceptFields f s).setAttn =
      x.resumes f s.cycle.listenOnly s := by
    unfold ScheduleUnit.resumes
    rw [differ]
  subst accepted
  rw [differ, listen, resume]
  rw [not_scheduleMatches] at cycle
  refine State.ext_units ?_ ?_ ?_ ?_ ?_ ?_ ?_ ?_ ?_
  · exact trunk
  · exact cycle
  · exact sched
  · exact channels
  · exact tx
  · exact rx
  · exact told.notices
  · exact link ▸ rfl
  · exact pending

end

/-! ### The frame as it is handed -/

/-- R9, R11: the slots of the walk that have had their frame are all that differs. -/
def NotedOnly (s v : State) : Prop :=
  v = { s with trunk := { s.trunk with slots := v.trunk.slots, late := v.trunk.late } }

theorem depart_noted {s v : State} (noted : NotedOnly s v) (d : Destination) (own : List NoticeBody)
    (run : Option CandidateRun) : depart d own run v = depart d own run s := by
  have walk : endWalk v = endWalk s := by
    rw [noted]
    rfl
  unfold depart
  rw [walk]

theorem yieldTo_noted {s v : State} (noted : NotedOnly s v) (f : CycleStartFrame) (stamp : Word) :
    yieldTo f stamp v = yieldTo f stamp s := by
  have cycle : v.cycle = s.cycle := by rw [noted]
  unfold yieldTo
  rw [cycle]
  refine depart_noted ?_ _ _ _
  unfold NotedOnly State.withCycle
  rw [noted]

/-- R28: a conflicting frame, with its notice where it opens an episode. -/
theorem conflictFrame_eq (f : CycleStartFrame) (v : State) : conflictFrame f v = { v with
    cycle := { v.cycle with conflict := some 0 },
    notices := if v.cycle.conflict.isSome then v.notices
      else (giveNotice (.masterConflict f.source) v).notices } := by
  unfold conflictFrame
  cases v.cycle.conflict.isSome with
  | true => rfl
  | false =>
    refine (giveNotice_frame _ _).trans ?_
    rw [giveNotice_notices_congr (s := v) (t := v.withCycle { v.cycle with conflict := some 0 }) rfl rfl]
    rfl

/-- R28: a conflicting frame at a leading node, stated of the state that it leaves. -/
theorem conflictFrame_noted {f : CycleStartFrame} {s v t : State} {read : Word} (noted : NotedOnly (s.hears read) v)
    (left : (conflictFrame f v).setAttn = t) : t = { s.hears read with
      cycle := { s.cycle with conflict := some 0 },
      notices := if s.cycle.conflict.isSome then s.notices else (giveNotice (.masterConflict f.source) s).notices,
      trunk := { (s.hears read).trunk with slots := t.trunk.slots, late := t.trunk.late },
      link := { s.link with attn := t.link.attn } } := by
  have cycle : v.cycle = s.cycle := (congrArg State.cycle noted :)
  have notices : v.notices = s.notices := (congrArg State.notices noted :)
  have link : v.link = s.link := (congrArg State.link noted :)
  subst left
  rw [conflictFrame_eq, cycle, notices, giveNotice_notices_congr (s := s) notices (State.cycleNumber_congr cycle), ← link]
  refine State.ext_units ?_ rfl ?_ ?_ ?_ ?_ rfl rfl ?_
  · exact (congrArg State.trunk noted :)
  · exact (congrArg State.sched noted :)
  · exact (congrArg State.channels noted :)
  · exact (congrArg State.tx noted :)
  · exact (congrArg State.rx noted :)
  · exact (congrArg State.pending noted :)

section
variable {f : CycleStartFrame} {stamp : Word} {c : CycleNow} {s : State}

/-- R8: a cycle start frame that is not the window's is unexpected, whichever slot it falls in. -/
theorem placedFrame_unexpected (other : s.openWindow = none ∨ inStartWindow (offsetFrom c.origin stamp) = false) :
    ∃ v, NotedOnly s v ∧ placedFrame c stamp (.good (.cycleStart f)) s = unexpectedFrame f stamp v := by
  rw [placedFrame_other _ other]
  cases lateSlotOf s stamp with
  | some l => exact ⟨takeLate l none s, rfl, rfl⟩
  | none =>
    refine ⟨noteSlotFrame c stamp s, ?_, rfl⟩
    unfold noteSlotFrame
    split
    · split <;> rfl
    · rfl

variable (low : 250 ≤ f.length) (high : f.length ≤ 25000) (begun : begunUnheard s stamp f.bytes = false)
  (clear : f.announces = false → f.announcedEpoch = 0 ∧ f.activation = 0)
include high begun clear

/-- R1, R3: the frame has been read 22 byte times after its first bit. -/
theorem exec_startFrame (online : s.cycle.timing ≠ .offline) : exec (.trunkFrameReceived stamp f.bytes) s =
    finish (handFrame stamp (.good (.cycleStart f)) (s.hears (stamp + 22))) := by
  obtain ⟨length, whole, -⟩ := f.bytes_checked (by omega) clear
  obtain ⟨judged, read⟩ := whole []
  rw [List.append_nil] at judged read
  rw [exec_trunkFrame online begun, judged, read, length]
  rfl

include low

theorem exec_startFrame_placeless (placeless : s.cycle.timing = .claiming ∨ s.cycle.timing = .hunting) :
    exec (.trunkFrameReceived stamp f.bytes) s = finish (match s.cycle.timing with
      | .hunting => huntFrame f stamp (s.hears (stamp + 22))
      | _ => claimFrame f stamp (s.hears (stamp + 22))) := by
  rw [exec_startFrame high begun clear (by obtain h | h := placeless <;> rw [h] <;> decide),
    handFrame_placeless (s := s.hears (stamp + 22)) _ placeless]
  refine congrArg finish ((unexpectedFrame_usable low high _).trans ?_)
  show (match s.cycle.timing with | .offline => _ | .claiming => _ | .leading => _ | .hunting => _ | .locked | .holdover => _) = _
  obtain timing | timing := placeless
  all_goals
    rw [timing]

/-- R8: the frame at a synchronised node, outside its cycle start window. -/
theorem exec_startFrame_unexpected (synchronised : s.cycle.timing.synchronised = true) (now : s.cycle.now = some c)
    (other : s.openWindow = none ∨ inStartWindow (offsetFrom c.origin stamp) = false) :
    ∃ v, NotedOnly (s.hears (stamp + 22)) v ∧
      exec (.trunkFrameReceived stamp f.bytes) s = finish (match s.cycle.timing with
        | .leading => leadFrame f stamp v
        | _ => jump .phase f stamp v) := by
  obtain ⟨v, noted, unexpected⟩ := placedFrame_unexpected (s := s.hears (stamp + 22)) (f := f) (c := c) (stamp := stamp) other
  refine ⟨v, noted, ?_⟩
  rw [exec_startFrame high begun clear (by intro h; rw [h] at synchronised; cases synchronised),
    handFrame_placed (s := s.hears (stamp + 22)) _ synchronised now, unexpected, unexpectedFrame_usable low high]
  have cycle : v.cycle = s.cycle := by rw [noted]; rfl
  rw [cycle]
  obtain timing | timing | timing := (synchronised_iff s).1 synchronised
  all_goals
    rw [timing]

end

section
variable {f : CycleStartFrame} {stamp : Word} {c : CycleNow} {s : State}

theorem exec_startFrame_window (low : 250 ≤ f.length) (high : f.length ≤ 25000)
    (begun : begunUnheard s stamp f.bytes = false)
    (clear : f.announces = false → f.announcedEpoch = 0 ∧ f.activation = 0)
    (following : s.cycle.timing.following = true) (window : s.trunk.window = .awaiting) (now : s.cycle.now = some c)
    (inside : inStartWindow (offsetFrom c.origin stamp) = true) :
    exec (.trunkFrameReceived stamp f.bytes) s = finish (if f.number = c.number
      then acceptFrame c f stamp (settleWindow (s.hears (stamp + 22)))
      else jump .number f stamp (settleWindow (s.hears (stamp + 22)))) := by
  have synchronised := (synchronised_iff s).2 (.inr ((following_iff s).1 following))
  have open' := State.openWindow_awaiting following window now
  rw [exec_startFrame high begun clear (by intro h; rw [h] at synchronised; cases synchronised),
    handFrame_placed (s := s.hears (stamp + 22)) _ synchronised now,
    placedFrame_window (s := s.hears (stamp + 22)) _ (by rw [show (s.hears (stamp + 22)).openWindow = some c from open']; rfl)
      inside]
  refine congrArg finish (if_neg ?_)
  rw [f.usable_iff.2 ⟨low, high⟩]
  exact Bool.false_ne_true

/-- R6, R31: the node that takes the frame of its window. -/
def State.accepting (s : State) (c : CycleNow) (f : CycleStartFrame) (stamp : Word) : State :=
  { s with cycle := s.cycle.accepts c f stamp,
           trunk := { s.trunk with earlyWalk := judgedBefore s.sched.active.entries c stamp } }

/-- R31: the frame that serves its window, stated of the state that it leaves. -/
theorem acceptFrame_accepted {late : Int} {r : Word} {t : State} (synchronised : s.cycle.timing.synchronised = true)
    (now : s.cycle.now = some c) (expected : f.number = c.number) (at' : offsetFrom c.origin stamp = late)
    (accepted : (acceptFrame c f stamp (settleWindow (s.hears r))).setAttn = t) :
    t = { s.hears r with
      trunk := { (s.hears r).trunk with
        window := .settled,
        earlyWalk := (s.sched.active.entries.filter (fun e => decide ((e.start : Int) - 4 < late + 22))).map
          (fun e => { start := e.start, walked := decide (e.finish + 8 ≤ c.length) }) },
      cycle := { s.cycle with
        timing := .locked, now := some { number := f.number, origin := stamp, length := f.length },
        lastMaster := f.source, phaseError := late, missCount := 0, listenOnly := differs f t },
      sched := (s.sched.heeds f).resumes f s.cycle.listenOnly t, notices := t.notices,
      link := { s.link with attn := t.link.attn } } ∧
    t.notices = (giveNotices (listens f s.cycle.listenOnly t ++ s.sched.announces f) s).notices := by
  subst at'
  let w := (settleWindow (s.hears r)).accepting c f stamp
  have left := acceptFields_accepted (s := w) f accepted
  have number : w.cycleNumber = s.cycleNumber := by
    unfold State.cycleNumber State.current
    rw [synchronised, now]
    rfl
  have told := giveNotices_notices_congr (s := s) (t := w) rfl number
    (listens f s.cycle.listenOnly t ++ s.sched.announces f)
  refine ⟨State.ext_units ?_ ?_ ?_ ?_ ?_ ?_ ?_ ?_ ?_, ?_⟩
  · exact (congrArg State.trunk left :)
  · rw [expected]
    exact (congrArg State.cycle left :)
  · exact (congrArg State.sched left :)
  · exact (congrArg State.channels left :)
  · exact (congrArg State.tx left :)
  · exact (congrArg State.rx left :)
  · rfl
  · exact (congrArg State.link left :)
  · exact (congrArg State.pending left :)
  · exact (congrArg State.notices left :).trans told

end

/-! ### The lock -/

theorem fixLength_onTrunk (i : TrunkInterface) (s : State) : fixLength (s.onTrunk i) = (fixLength s).onTrunk i := by
  unfold fixLength
  by_cases leading : s.cycle.timing = .leading
  · rw [if_pos leading, if_pos (show (s.onTrunk i).cycle.timing = .leading from leading)]
    rfl
  · rw [if_neg leading, if_neg (show ¬(s.onTrunk i).cycle.timing = .leading from leading)]

/-- R23: what a cycle start signals to the units does not depend on the trunk interface. -/
theorem signalCycleStart_onTrunk (n : Word) (i : TrunkInterface) (s : State) :
    signalCycleStart n (s.onTrunk i) = (signalCycleStart n s).onTrunk i := by
  unfold signalCycleStart
  rw [(scheduleCycleStart_op n).onTrunk, fixLength_onTrunk, channelCycleStart_op.onTrunk, transmitCycleStart_op.onTrunk,
    receiveCycleStart_op.onTrunk]

section
variable (r : CandidateRun) (f : CycleStartFrame) (stamp : Word) (s : State)

/-- R30: the cycle that ends with the frame on which the node locks. -/
def CycleStartFrame.before : CycleNow :=
  { number := f.number - 1, origin := stamp - BitVec.ofNat 32 f.length, length := f.length }

theorem CycleStartFrame.before_following :
    (f.before stamp).following = { number := f.number, origin := stamp, length := f.length } := by
  unfold CycleNow.following CycleStartFrame.before
  rw [sub_add_cancel, sub_add_cancel]

/-- R30: the node that is LOCKED, in the cycle that ends. -/
def State.joined : State :=
  { s with cycle := (s.cycle.lockedOn r f stamp).inCycle (f.before stamp),
           notices := (giveNotice (.syncLocked f.source f.length) (s.withCycle (s.cycle.lockedOn r f stamp))).notices }

/-- R28: a LOCKED node has no quiet count to advance. -/
theorem signalled_joined :
    ((s.joined r f stamp).signalled (f.before stamp)).cycle = s.cycle.lockedOn r f stamp ∧
    ((s.joined r f stamp).signalled (f.before stamp)).link = s.link ∧
    ((s.joined r f stamp).signalled (f.before stamp)).pending = s.pending := by
  unfold State.signalled
  rw [f.before_following stamp]
  exact ⟨rfl, rfl, rfl⟩

/-- R30: the lock is the first cycle start of the node that is LOCKED already, and then the accepted frame. -/
theorem lockOn_eq (read : Word) : lockOn r f stamp (s.hears read) = acceptFields f
    ((signalCycleStart f.number ((s.joined r f stamp).signalled (f.before stamp))).onTrunk (s.hears read).trunk.endWalk) := by
  unfold lockOn
  rw [← signalCycleStart_onTrunk]
  refine congrArg (fun x => acceptFields f (signalCycleStart f.number x)) ?_
  obtain ⟨sched, channels, tx, rx, notices, -⟩ := signalled_kept (f.before stamp) (s.joined r f stamp)
  have told : (giveNotice (.syncLocked f.source f.length) ((s.hears read).withCycle (s.cycle.lockedOn r f stamp))).notices =
      (s.joined r f stamp).notices :=
    giveNotice_notices_congr (s := s.withCycle (s.cycle.lockedOn r f stamp))
      (t := (s.hears read).withCycle (s.cycle.lockedOn r f stamp)) rfl rfl _
  have frame := giveNotice_frame (.syncLocked f.source f.length) ((s.hears read).withCycle (s.cycle.lockedOn r f stamp))
  show endWalk (giveNotice _ ((s.hears read).withCycle (s.cycle.lockedOn r f stamp))) = _
  rw [frame, told]
  refine State.ext_units rfl ?_ ?_ ?_ ?_ ?_ ?_ ?_ ?_
  · exact (signalled_joined r f stamp s).1.symm
  · exact sched.symm
  · exact channels.symm
  · exact tx.symm
  · exact rx.symm
  · exact notices.symm
  · exact (signalled_joined r f stamp s).2.1.symm
  · exact (signalled_joined r f stamp s).2.2.symm

theorem exec_joined : exec .cycleStart (s.joined r f stamp) =
    .next (signalCycleStart f.number ((s.joined r f stamp).signalled (f.before stamp))).setAttn := by
  have number : (f.before stamp).following.number = f.number := by rw [f.before_following stamp]
  rw [exec_cycleStart (c := f.before stamp) rfl, beginCycle_eq, number]
  refine congrArg finish ?_
  show sendCycleStart (signalCycleStart f.number ((s.joined r f stamp).signalled (f.before stamp))) = _
  have timing : (signalCycleStart f.number ((s.joined r f stamp).signalled (f.before stamp))).cycle.timing = .locked := by
    rw [(signalCycleStart_only _ _).2.1, (signalled_joined r f stamp s).1]
    rfl
  unfold sendCycleStart
  rw [timing]

/-- R30: the node after its first cycle start. -/
def State.begun : State := signalCycleStart f.number ((s.joined r f stamp).signalled (f.before stamp))

theorem begun_kept : (s.begun r f stamp).cycle = s.cycle.lockedOn r f stamp ∧ (s.begun r f stamp).link = s.link := by
  obtain ⟨cycle, link, -⟩ := signalled_joined r f stamp s
  refine ⟨(signalCycleStart_cycle _ _).trans ?_, ((signalCycleStart_only _ _).2.2.2.1).trans link⟩
  rw [cycle]
  rfl

/-- R30, R35, R66 to R75: the lock, stated of the state that it leaves. -/
theorem lockOn_accepted {read : Word} {t : State} (accepted : (lockOn r f stamp (s.hears read)).setAttn = t) :
    t = { (s.begun r f stamp).setAttn with
      cycle := { s.cycle.lockedOn r f stamp with listenOnly := differs f t },
      sched := ((s.begun r f stamp).sched.heeds f).resumes f s.cycle.listenOnly t,
      notices := (giveNotices (listens f s.cycle.listenOnly t ++ (s.begun r f stamp).sched.announces f)
        (s.begun r f stamp).setAttn).notices,
      trunk := (s.hears read).trunk.endWalk, link := { s.link with attn := t.link.attn } } := by
  obtain ⟨cycle, link⟩ := begun_kept r f stamp s
  rw [lockOn_eq] at accepted
  change (acceptFields f ((s.begun r f stamp).onTrunk (s.hears read).trunk.endWalk)).setAttn = t at accepted
  have listen : ((s.begun r f stamp).onTrunk (s.hears read).trunk.endWalk).cycle.listenOnly = s.cycle.listenOnly :=
    (congrArg CycleUnit.listenOnly cycle :)
  have left := acceptFields_accepted f accepted
  rw [listen] at left
  generalize s.begun r f stamp = y at *
  refine State.ext_units ?_ ?_ ?_ ?_ ?_ ?_ ?_ ?_ ?_
  · exact (congrArg State.trunk left :)
  · rw [← cycle]
    exact (congrArg State.cycle left :)
  · exact (congrArg State.sched left :)
  · exact (congrArg State.channels left :)
  · exact (congrArg State.tx left :)
  · exact (congrArg State.rx left :)
  · exact (congrArg State.notices left :).trans
      (giveNotices_notices_congr (s := y.setAttn) (t := y.onTrunk (s.hears read).trunk.endWalk) rfl rfl _)
  · rw [← link]
    exact (congrArg State.link left :)
  · exact (congrArg State.pending left :)

theorem continuedBy_iff : r.continuedBy f stamp = true ↔ f.source = r.source ∧ f.number = r.number + 1 ∧
    r.length ≤ (stamp - r.stamp).toNat + 2 ∧ (stamp - r.stamp).toNat ≤ r.length + 2 := by
  unfold CandidateRun.continuedBy within2 CandidateRun.spacing
  rw [Bool.and_eq_true, Bool.and_eq_true, Bool.and_eq_true, beq_iff_eq, beq_iff_eq, decide_eq_true_iff, decide_eq_true_iff,
    and_assoc, and_comm (a := _ ≤ r.length + 2)]

end

section
variable {r : CandidateRun} {f : CycleStartFrame} {stamp : Word} {v : State}

theorem completedBy_iff : r.completedBy f stamp = true ↔ 2 ≤ r.count ∧ r.continuedBy f stamp = true := by
  unfold CandidateRun.completedBy
  rw [Bool.and_eq_true, decide_eq_true_iff]

theorem huntFrame_first (idle : v.cycle.run = none) :
    huntFrame f stamp v = { v with cycle := { v.cycle with run := some (firstCandidate f stamp) } } := by
  unfold huntFrame
  rw [idle]
  rfl

variable (run : v.cycle.run = some r)
include run

theorem huntFrame_running : huntFrame f stamp v = if r.completedBy f stamp then lockOn r f stamp v
    else { v with cycle := { v.cycle with run := some (nextRun r f stamp) } } := by
  unfold huntFrame
  rw [run]
  rfl

theorem huntFrame_other (other : ¬r.continuedBy f stamp = true) :
    huntFrame f stamp v = { v with cycle := { v.cycle with run := some (firstCandidate f stamp) } } := by
  rw [huntFrame_running run, if_neg fun completes => other (completedBy_iff.1 completes).2]
  unfold nextRun
  rw [if_neg other]

theorem huntFrame_continued (continues : r.continuedBy f stamp = true) (few : r.count < 2) : huntFrame f stamp v =
    { v with cycle := { v.cycle with run := some { firstCandidate f stamp with count := r.count + 1 } } } := by
  rw [huntFrame_running run, if_neg fun completes => Nat.not_le.2 few (completedBy_iff.1 completes).1]
  unfold nextRun
  rw [if_pos continues]

theorem huntFrame_lock (completes : r.completedBy f stamp = true) : huntFrame f stamp v = lockOn r f stamp v := by
  rw [huntFrame_running run, if_pos completes]

/-- R30: the frame completes the candidate run. -/
theorem locks_third (hunting : v.cycle.timing = .hunting) (completes : r.completedBy f stamp = true) (low : 250 ≤ f.length)
    (high : f.length ≤ 25000) (clear : f.announces = false → f.announcedEpoch = 0 ∧ f.activation = 0) :
    locks v stamp f.bytes = true := by
  obtain ⟨-, whole, -⟩ := f.bytes_checked (by omega) clear
  have judged := (whole []).1
  rw [List.append_nil] at judged
  unfold locks
  rw [hunting, run, judged]
  exact Bool.and_eq_true_iff.2 ⟨f.usable_iff.2 ⟨low, high⟩, completes⟩

end

/-- Settles O55, by the timing state in which the frame is received. -/
theorem cycleStartFramesFollowed : Obligations.CycleStartFramesFollowed := by
  intro f stamp s low high clear begun received u first yields jumps valid pair heeds announces differs' listens' takesUp
  have placeless := exec_startFrame_placeless low high begun clear
  refine ⟨fun claiming => ?_, fun leading current => ?_, ?_, fun c following now => ?_⟩
  · have handed := placeless (.inl claiming)
    rw [claiming] at handed
    refine ⟨fun lower => handed.trans (congrArg finish (if_pos lower)), fun r higher claim => ?_⟩
    refine handed.trans (congrArg finish ((if_neg (BitVec.not_lt.2 higher)).trans ?_))
    show State.withCycle _ { s.cycle with claim := s.cycle.claim.map _ } = _
    rw [claim]
    rfl
  · obtain ⟨c, now⟩ := Option.isSome_iff_exists.1 current
    obtain ⟨v, noted, handed⟩ := exec_startFrame_unexpected (c := c) low high begun clear
      ((synchronised_iff s).2 (.inl leading)) now (.inl (State.openWindow_none (.inl leading)))
    rw [leading] at handed
    have cycle : v.cycle = s.cycle := by rw [noted]; rfl
    refine ⟨fun lower => handed.trans (congrArg finish ((if_pos ?_).trans (yieldTo_noted noted f stamp))), fun higher => ?_⟩
    · rw [cycle]
      exact lower
    · have conflicts : leadFrame f stamp v = conflictFrame f v := if_neg (by rw [cycle]; exact BitVec.not_lt.2 higher)
      exact ⟨_, handed.trans (congrArg finish conflicts), conflictFrame_noted noted rfl⟩
  · intro hunting runs
    have handed := placeless (.inr hunting)
    rw [hunting] at handed
    refine ⟨fun idle => handed.trans (congrArg finish (huntFrame_first idle)), ?_⟩
    intro r run spacing follows
    refine ⟨fun other => ?_, fun continues few => ?_, ?_⟩
    · exact handed.trans (congrArg finish (huntFrame_other run (mt (continuedBy_iff r f stamp).1 other)))
    · exact handed.trans (congrArg finish (huntFrame_continued run ((continuedBy_iff r f stamp).2 continues) few))
    · intro continues third locked now joined
      have completes : r.completedBy f stamp = true := completedBy_iff.2 ⟨third, (continuedBy_iff r f stamp).2 continues⟩
      have heard := handed.trans (congrArg finish (huntFrame_lock run completes))
      refine ⟨_, _, exec_joined r f stamp s, heard, ?_, lockOn_accepted r f stamp s rfl⟩
      exact (if_pos (locks_third run hunting completes low high clear)).trans heard
  · have synchronised := (synchronised_iff s).2 (.inr following)
    refine ⟨fun outside => ?_, fun late window early close at' => ?_⟩
    · have other : s.openWindow = none ∨ inStartWindow (offsetFrom c.origin stamp) = false := by
        by_cases window : s.trunk.window = .awaiting
        · refine .inr (Bool.not_eq_true _ ▸ mt (inStartWindow_iff _).1 ?_)
          have := outside window
          unfold offsetFrom
          omega
        · exact .inl (State.openWindow_none (.inr window))
      obtain ⟨v, noted, handed⟩ := exec_startFrame_unexpected (c := c) low high begun clear synchronised now other
      refine handed.trans ((congrArg finish ?_).trans (congrArg finish (depart_noted noted _ _ _)))
      obtain timing | timing := following <;> rw [timing] <;> rfl
    · have at'' : offsetFrom c.origin stamp = late := by rw [at', offsetFrom_add_ofInt c.origin early close]
      have handed := exec_startFrame_window low high begun clear ((following_iff s).2 following) window now
        (at''.symm ▸ (inStartWindow_iff late).2 ⟨early, close⟩)
      refine ⟨fun other => ?_, fun expected => ?_⟩
      · exact handed.trans (congrArg finish (if_neg other))
      · rw [if_pos expected] at handed
        exact ⟨_, handed, acceptFrame_accepted synchronised now expected at'' rfl⟩

end Sys2Proof.Machine
end
